-- ==== Sys2Proof/Word.lean ====
section
/-! DEFINITION. The part's plainest words: a byte of a frame or a table row, and an 11-bit CAN identifier. -/

namespace Sys2Proof

/-- One data byte of a CAN frame or of a table row. -/
abbrev Byte := BitVec 8

/-- An identifier of CAN 2.0A, 0x000 to 0x7FF (R1). -/
abbrev CanId := BitVec 11

end Sys2Proof
end

