-- ==== Sys2Proof/Syntax.lean ====
section
/-! DEFINITION. The commands of the part: one constructor of `Instr` per row of spec/opcode_table.json, with the
types of their operands. Operands that a frame spells with a byte stay bytes, because the part itself sorts a byte that
names nothing (R180, R202, R203). -/

namespace Sys2Proof

/-- The two CAN ports (section 1.1). -/
inductive PortName where
  | vehicle
  | climate
  deriving DecidableEq, Repr

/-- The bit rates of the RATE strap, in the order of their codes in the IDENTIFY response (R207). -/
inductive BitRate where
  | kbit125
  | kbit250
  | kbit500
  | kbit1000
  deriving DecidableEq, Repr

/-- A data frame: its identifier and data bytes. The data length is the number of bytes, 0 to 8 (R1). -/
structure Frame where
  id : CanId
  data : List Byte
  deriving DecidableEq, Repr

/-- The status of a slot (section 1.4). -/
inductive SlotStatus where
  | empty
  | fresh
  | held
  | substituted
  deriving DecidableEq, Repr

/-- What a slot store notification carries (R23): the slot's number, its new value and its new status. Status FRESH
and SUBSTITUTED are delivered as arrivals, HELD and EMPTY as status changes. -/
structure SlotNote where
  slot : Fin 64
  value : Int
  status : SlotStatus
  deriving DecidableEq, Repr

/-- The five kinds of override record (R117). -/
inductive OverrideKind where
  | setpointOffset
  | blowerBoost
  | recirculate
  | screenMax
  | curtainQuiet
  deriving DecidableEq, Repr

/-- The target of an override record: a zone or door 0 to 7, or ALL (R117). -/
inductive Target where
  | one (n : Fin 8)
  | all
  deriving DecidableEq, Repr

/-- Whether a count slot of a door carries persons who boarded or who alighted (R60). -/
inductive CountDir where
  | boarded
  | alighted
  deriving DecidableEq, Repr

/-- The source values of the output scheduler (R163). A cooling unit's total grant is no source value. -/
inductive Source where
  | zoneGrant (z : Fin 8)
  | curtainGrant (d : Fin 8)
  | screenGrant
  | demand (sec : Fin 3)
  | blower (z : Fin 8)
  | freshAir (z : Fin 8)
  | flap
  deriving DecidableEq, Repr

/-- The commands: the rows of spec/opcode_table.json, in the table's order. -/
inductive Instr where
  /-- POWER_ON_RESET: the straps sampled are the node number and the bit rate (R186). -/
  | powerOnReset (node : Fin 4) (rate : BitRate)
  /-- FRAME_ARRIVAL: a complete data frame on the bus of a port (R1, R10). -/
  | frameArrival (port : PortName) (frame : Frame)
  /-- REPLY: an actuator reply frame handed to the output scheduler (R175). -/
  | reply (id : CanId) (data : List Byte)
  | transmitStart (port : PortName)
  | transmitComplete (port : PortName)
  | arbitrationLost (port : PortName)
  | transmitError (port : PortName)
  | busOffExpiry (port : PortName)
  | freshTimerExpiry (slot : Fin 64)
  | holdTimerExpiry (slot : Fin 64)
  | zonePass (zone : Fin 8)
  | statusPublication (zone : Fin 8)
  | claimPosting (claimant : Fin 20) (request : Nat)
  | capacityEvent (claimant : Fin 20)
  | lineStateNotification (note : SlotNote)
  | permittedPowerNotification (note : SlotNote)
  | surplusNotification (note : SlotNote)
  | rampExpiry
  /-- MAX_COUNT_NOTICE at the allocator: a SCREEN_MAX record entered (`true`) or left (`false`) the table (R147). -/
  | maxCountNotice (entered : Bool)
  | qcPosting (sec : Fin 3) (zone : Fin 8) (qc : Nat)
  | stageNotice (sec : Fin 3) (dry : Bool) (dryFloor : Nat)
  | coolingGrantDelivery (sec : Fin 3) (grant : Nat)
  | minimumOnExpiry (sec : Fin 3)
  | minimumOffExpiry (sec : Fin 3)
  | doorStateNotification (door : Fin 8) (note : SlotNote)
  | debounceExpiry (door : Fin 8)
  | delayExpiry (door : Fin 8)
  | burstExpiry (door : Fin 8)
  | gapExpiry (door : Fin 8)
  | recoveryExpiry (door : Fin 8)
  /-- MASK_CHANGE: a CURTAIN_QUIET notice sets or clears an override mask or the group mask (R129); `byStop` says that
  the record was removed by STOP, whose clearing takes no trigger (R63). -/
  | maskChange (target : Target) (set : Bool) (byStop : Bool)
  | countSlotNotification (door : Fin 8) (dir : CountDir) (note : SlotNote)
  | boarding (sec : Fin 3) (value : Nat)
  | alighting (sec : Fin 3) (value : Nat)
  | dwellTimerExpiry (sec : Fin 3)
  | terminusMarkNotification (note : SlotNote)
  | screenPass
  | screenGrantDelivery (grant : Nat)
  | screenMaxEntryNotice
  | screenMaxDepartureNotice
  | set (tag kind target : Byte) (value : BitVec 16) (duration : Byte)
  | release (tag kind target : Byte)
  | heartbeat (tag : Byte)
  | tripEnd (tag : Byte)
  | recordExpiry (kind : OverrideKind) (target : Target)
  | panelTimerExpiry
  | statusTimerExpiry
  | sourceDelivery (source : Source) (value : Nat)
  | windowExpiry (channel : Fin 24)
  | onEnd (channel : Fin 24)
  | spacingExpiry (channel : Fin 24)
  | periodicExpiry (channel : Fin 24)
  | replyWaitExpiry (channel : Fin 24)
  | assemblyTimerExpiry
  | identify
  | status
  | rowOpen (table row : Byte)
  | rowData (b0 b1 b2 b3 b4 b5 : Byte)
  | rowClose
  | rowClear (table row : Byte)
  | commit (table : Byte)
  | abandon (table : Byte)
  | loadResume
  | readRow (table row bank : Byte)
  | readSlot (slot : Byte)
  | readZone (zone : Byte)
  | readDoor (door : Byte)
  | readSection (sec : Byte)
  | readClaim (claimant : Byte)
  | readChannel (channel : Byte)
  | start
  | stop
  | restart
  | clearPending (doors : Byte)
  | maskDoors (doors : Byte)
  | unmaskDoors (doors : Byte)
  | armTerminus (sections : Byte)
  | disarmTerminus (sections : Byte)
  | loadSet (sec count : Byte)
  | overrideSet (kind target : Byte) (value : BitVec 16) (duration : Byte)
  | overrideRelease (kind target : Byte)
  deriving DecidableEq, Repr

end Sys2Proof
end

