-- ==== Sys2Proof/Decode.lean ====
section
/-! DEFINITION. The command that a word spells by the bits of spec/opcode_table.json. No row of that table gives bits
(each row's fields are empty), so no word spells a command (notes/assumptions/2.md). -/

namespace Sys2Proof

/-- No row of spec/opcode_table.json has bits: every word is answered none. -/
def decodeTableWord (_nbits _w : Nat) : Option Instr := none

end Sys2Proof
end

