-- ==== Sys2Proof/Config.lean ====
section
/-! DEFINITION. What the spec leaves open: numbers that are fixed in the part and not stated, and free values. -/

namespace Sys2Proof

/-- The design level of the part less 1: R198 says it is a number from 1 to 255 fixed in the part and gives no
number, so nothing constrains it (notes/assumptions/1.md). -/
opaque Config.designLevelLess1 : Fin 255

/-- The bytes of a response for which the spec states no value, such as the fragment pointer with no open row: by the
place of the byte and the number of the response, so that nothing constrains any of them (notes/assumptions/21.md). -/
opaque Config.freeByte : Nat → Nat → Byte

end Sys2Proof
end

