-- ==== Sys2Proof/Machine/Rows.lean ====
section
/-! DEFINITION. The thirteen tables: their geometry (R189), their coded fields (R204), the layout of each row (R205),
the field check of ROW_CLOSE (R193) and the conditions of each commit (R9, R15, R18, R27 to R29, R55, R87, R100, R101,
R139, R144, R162, R188). A bank holds the rows as the bytes that were written (R202), spare bytes included; the typed
rows below are views of those bytes. -/

namespace Sys2Proof.Machine

/-! ### Rounding and clamping (00_scope.md) -/

/-- Clamp(x, a, b), with a ≤ b. -/
def clamp (x a b : Int) : Int := if x < a then a else if b < x then b else x

/-- num / den rounded to the nearest integer, an exact half going to the larger integer; den is positive. -/
def rounded (num : Int) (den : Nat) : Int := (2 * num + den) / (2 * den)

/-- num / den rounded, for numbers that are not negative. -/
def roundedNat (num den : Nat) : Nat := (2 * num + den) / (2 * den)

/-! ### Bytes of a row or a frame -/

/-- A table row as it is stored: the bytes of its row length (R202). -/
abbrev RowBytes := List Byte

/-- Byte i. A place beyond the end reads as 0, which no row of the right length has. -/
def u8 (r : List Byte) (i : Nat) : Nat := (r.getD i 0).toNat

/-- Bytes i and i + 1, least significant first. -/
def u16 (r : List Byte) (i : Nat) : Nat := u8 r i + 256 * u8 r (i + 1)

/-- A number of 2^bits values read as two's complement. -/
def signedOf (bits n : Nat) : Int := if n < 2 ^ (bits - 1) then n else (n : Int) - 2 ^ bits

/-- Bytes i and i + 1 as a signed 16-bit field. -/
def s16 (r : List Byte) (i : Nat) : Int := signedOf 16 (u16 r i)

/-- Byte i as a signed 8-bit field. -/
def s8 (r : List Byte) (i : Nat) : Int := signedOf 8 (u8 r i)

/-- Bit n of byte i. -/
def bitAt (r : List Byte) (i n : Nat) : Bool := (u8 r i).testBit n

/-- A number as one byte (its value modulo 256). -/
def byteOf (n : Int) : Byte := BitVec.ofInt 8 n

/-- A number as two bytes, least significant first. -/
def le16 (n : Int) : List Byte := [byteOf n, byteOf (n / 256)]

/-- A number as three bytes, least significant first. -/
def le24 (n : Int) : List Byte := [byteOf n, byteOf (n / 256), byteOf (n / 65536)]

/-- A flag as the bit of weight w. -/
def flagBit (b : Bool) (w : Nat) : Nat := if b then w else 0

/-! ### Tables -/

inductive TableId where
  | frame
  | field
  | slot
  | zone
  | list
  | door
  | band
  | step
  | stage
  | claim
  | budget
  | output
  | system
  deriving DecidableEq, Repr

/-- The thirteen tables in the order of their codes. -/
def allTables : List TableId :=
  [.frame, .field, .slot, .zone, .list, .door, .band, .step, .stage, .claim, .budget, .output, .system]

/-- The place of a table in the order of the table codes, which start at 1 (R204). -/
def TableId.index : TableId → Fin 13
  | .frame => 0
  | .field => 1
  | .slot => 2
  | .zone => 3
  | .list => 4
  | .door => 5
  | .band => 6
  | .step => 7
  | .stage => 8
  | .claim => 9
  | .budget => 10
  | .output => 11
  | .system => 12

/-- The code of a table (R204). -/
def TableId.code (t : TableId) : Nat := t.index.val + 1

/-- The table that a byte names, if it names one (R204). -/
def TableId.ofCode (c : Nat) : Option TableId := allTables.find? (fun t => t.code == c)

/-- The row length in bytes (R189). -/
def TableId.rowLength : TableId → Nat
  | .frame => 6
  | .field => 12
  | .slot => 12
  | .zone => 24
  | .list => 6
  | .door => 24
  | .band => 12
  | .step => 6
  | .stage => 12
  | .claim => 6
  | .budget => 6
  | .output => 18
  | .system => 24

/-- The number of rows (R189). -/
def TableId.rowCount : TableId → Nat
  | .frame => 48
  | .field => 128
  | .slot => 64
  | .zone => 11
  | .list => 32
  | .door => 8
  | .band => 8
  | .step => 12
  | .stage => 4
  | .claim => 20
  | .budget => 4
  | .output => 24
  | .system => 1

/-- The reset value of a row (R196): every field 0, but for a CLAIM row, whose level is 15. -/
def TableId.resetRow : TableId → RowBytes
  | .claim => 15 :: List.replicate 5 0
  | t => List.replicate t.rowLength 0

/-- One bank of the thirteen tables (R187). -/
structure Bank where
  frame : List RowBytes
  field : List RowBytes
  slot : List RowBytes
  zone : List RowBytes
  list : List RowBytes
  door : List RowBytes
  band : List RowBytes
  step : List RowBytes
  stage : List RowBytes
  claim : List RowBytes
  budget : List RowBytes
  output : List RowBytes
  system : List RowBytes
  deriving DecidableEq, Repr

/-- The rows of one table. -/
def Bank.get (b : Bank) : TableId → List RowBytes
  | .frame => b.frame
  | .field => b.field
  | .slot => b.slot
  | .zone => b.zone
  | .list => b.list
  | .door => b.door
  | .band => b.band
  | .step => b.step
  | .stage => b.stage
  | .claim => b.claim
  | .budget => b.budget
  | .output => b.output
  | .system => b.system

/-- The bank with the rows of one table replaced. -/
def Bank.put (b : Bank) (t : TableId) (rows : List RowBytes) : Bank :=
  match t with
  | .frame => { b with frame := rows }
  | .field => { b with field := rows }
  | .slot => { b with slot := rows }
  | .zone => { b with zone := rows }
  | .list => { b with list := rows }
  | .door => { b with door := rows }
  | .band => { b with band := rows }
  | .step => { b with step := rows }
  | .stage => { b with stage := rows }
  | .claim => { b with claim := rows }
  | .budget => { b with budget := rows }
  | .output => { b with output := rows }
  | .system => { b with system := rows }

/-- The rows of a table after a power-on reset (R186, R196). -/
def TableId.resetRows (t : TableId) : List RowBytes := List.replicate t.rowCount t.resetRow

/-- Both banks after a power-on reset (R186, R196). -/
def Bank.reset : Bank where
  frame := TableId.resetRows .frame
  field := TableId.resetRows .field
  slot := TableId.resetRows .slot
  zone := TableId.resetRows .zone
  list := TableId.resetRows .list
  door := TableId.resetRows .door
  band := TableId.resetRows .band
  step := TableId.resetRows .step
  stage := TableId.resetRows .stage
  claim := TableId.resetRows .claim
  budget := TableId.resetRows .budget
  output := TableId.resetRows .output
  system := TableId.resetRows .system

/-- Row i of a table of a bank. -/
def Bank.row (b : Bank) (t : TableId) (i : Nat) : RowBytes := (b.get t).getD i []

/-- Every table of the bank has its row count and every row its row length (R189). -/
def Bank.shaped (b : Bank) : Bool :=
  allTables.all fun t => (b.get t).length == t.rowCount && (b.get t).all fun r => r.length == t.rowLength

/-! ### Coded fields (R204) -/

inductive FrameClass where
  | signal
  | panel
  | reply
  | pass
  deriving DecidableEq, Repr

def FrameClass.ofCode : Nat → Option FrameClass
  | 1 => some .signal
  | 2 => some .panel
  | 3 => some .reply
  | 4 => some .pass
  | _ => none

/-- Port codes: 1 VEHICLE, 2 CLIMATE. -/
def portOfCode : Nat → Option PortName
  | 1 => some .vehicle
  | 2 => some .climate
  | _ => none

inductive ByteOrder where
  | lsbFirst
  | msbFirst
  deriving DecidableEq, Repr

def ByteOrder.ofCode : Nat → Option ByteOrder
  | 1 => some .lsbFirst
  | 2 => some .msbFirst
  | _ => none

inductive SlotKind where
  | measure
  | state
  | count
  deriving DecidableEq, Repr

def SlotKind.ofCode : Nat → Option SlotKind
  | 1 => some .measure
  | 2 => some .state
  | 3 => some .count
  | _ => none

/-- The code of a slot kind (R204). -/
def SlotKind.code : SlotKind → Nat
  | .measure => 1
  | .state => 2
  | .count => 3

/-- The code of a slot status (R204). -/
def slotStatusCode : SlotStatus → Nat
  | .empty => 0
  | .fresh => 1
  | .held => 2
  | .substituted => 3

/-- A section code: 0 A, 1 B, 2 C. -/
def sectOfCode (c : Nat) : Option (Fin 3) := if h : c < 3 then some ⟨c, h⟩ else none

inductive BurstMode where
  | standard
  | whileOpen
  | everyNth
  | accumulate
  | repeating
  deriving DecidableEq, Repr

def BurstMode.ofCode : Nat → Option BurstMode
  | 1 => some .standard
  | 2 => some .whileOpen
  | 3 => some .everyNth
  | 4 => some .accumulate
  | 5 => some .repeating
  | _ => none

inductive Stage where
  | off
  | watch
  | demist
  | clear
  | max
  deriving DecidableEq, Repr

/-- The code of a stage (R204). -/
def Stage.code : Stage → Nat
  | .off => 0
  | .watch => 1
  | .demist => 2
  | .clear => 3
  | .max => 4

/-- The stage a STEP row may name: 1 WATCH, 2 DEMIST or 3 CLEAR (R204). -/
def stepStageOfCode : Nat → Option Stage
  | 1 => some .watch
  | 2 => some .demist
  | 3 => some .clear
  | _ => none

/-- The override kind that a code names (R204). -/
def kindOfCode : Nat → Option OverrideKind
  | 1 => some .setpointOffset
  | 2 => some .blowerBoost
  | 3 => some .recirculate
  | 4 => some .screenMax
  | 5 => some .curtainQuiet
  | _ => none

/-- The code of an override kind (R204). -/
def kindCode : OverrideKind → Nat
  | .setpointOffset => 1
  | .blowerBoost => 2
  | .recirculate => 3
  | .screenMax => 4
  | .curtainQuiet => 5

/-- The target that a target byte names: 0 to 7, or 0xFF for ALL (R203). -/
def targetOfCode (c : Nat) : Option Target :=
  if h : c < 8 then some (.one ⟨c, h⟩) else if c = 255 then some .all else none

inductive OutFunction where
  | zoneHeat
  | zoneBlower
  | zoneFresh
  | curtain
  | screenHeat
  | screenFlap
  | coolUnit
  deriving DecidableEq, Repr

def OutFunction.ofCode : Nat → Option OutFunction
  | 1 => some .zoneHeat
  | 2 => some .zoneBlower
  | 3 => some .zoneFresh
  | 4 => some .curtain
  | 5 => some .screenHeat
  | 6 => some .screenFlap
  | 7 => some .coolUnit
  | _ => none

/-- How many target indices a function has (R161). -/
def OutFunction.targets : OutFunction → Nat
  | .zoneHeat => 8
  | .zoneBlower => 8
  | .zoneFresh => 8
  | .curtain => 8
  | .screenHeat => 1
  | .screenFlap => 1
  | .coolUnit => 3

/-- ZONE_HEAT, CURTAIN, SCREEN_HEAT and COOL_UNIT are the power functions (R161). -/
def OutFunction.isPower : OutFunction → Bool
  | .zoneHeat => true
  | .curtain => true
  | .screenHeat => true
  | .coolUnit => true
  | _ => false

/-- ZONE_HEAT, CURTAIN and SCREEN_HEAT are the heater functions (R161). -/
def OutFunction.isHeater : OutFunction → Bool
  | .zoneHeat => true
  | .curtain => true
  | .screenHeat => true
  | _ => false

inductive Encoding where
  | permille
  | switch
  | staged (k : Nat)
  deriving DecidableEq, Repr

/-- Encoding codes: 1 PERMILLE, 2 SWITCH, 11 to 14 STAGED k with k = code − 10. -/
def Encoding.ofCode (c : Nat) : Option Encoding :=
  if c = 1 then some .permille else if c = 2 then some .switch
  else if 11 ≤ c ∧ c ≤ 14 then some (.staged (c - 10)) else none

/-- A slot designation or count slot: 0 to 63, and every other byte is no slot (0xFF is NONE, R202). -/
def slotOfCode (c : Nat) : Option (Fin 64) := if h : c < 64 then some ⟨c, h⟩ else none

/-! ### Typed rows (R205) -/

structure FrameRow where
  used : Bool
  forward : Bool
  count : Nat
  portCode : Nat
  classCode : Nat
  id : Nat
  first : Nat
  deriving DecidableEq, Repr

def FrameRow.ofBytes (r : RowBytes) : FrameRow where
  used := bitAt r 0 0
  forward := bitAt r 0 1
  count := u8 r 0 / 16
  portCode := u8 r 1
  classCode := u8 r 2
  id := u16 r 3
  first := u8 r 5

def FrameRow.cls (r : FrameRow) : Option FrameClass := FrameClass.ofCode r.classCode

structure FieldRow where
  byteOff : Nat
  bitOff : Nat
  width : Nat
  orderCode : Nat
  signedFlag : Nat
  target : Nat
  gain : Int
  bias : Int
  deriving DecidableEq, Repr

def FieldRow.ofBytes (r : RowBytes) : FieldRow where
  byteOff := u8 r 0
  bitOff := u8 r 1
  width := u8 r 2
  orderCode := u8 r 3
  signedFlag := u8 r 4
  target := u8 r 5
  gain := s16 r 6
  bias := s16 r 8

def FieldRow.order (r : FieldRow) : Option ByteOrder := ByteOrder.ofCode r.orderCode

/-- The span in bytes: n = floor((bit offset + width − 1) / 8) + 1 (R15); the width is at least 1. -/
def FieldRow.span (r : FieldRow) : Nat := (r.bitOff + r.width - 1) / 8 + 1

structure SlotRow where
  used : Bool
  kindCode : Nat
  lo : Int
  hi : Int
  freshPeriod : Nat
  holdPeriod : Nat
  substitute : Int
  deriving DecidableEq, Repr

def SlotRow.ofBytes (r : RowBytes) : SlotRow where
  used := bitAt r 0 0
  kindCode := u8 r 1
  lo := s16 r 2
  hi := s16 r 4
  freshPeriod := u16 r 6
  holdPeriod := u16 r 8
  substitute := s16 r 10

def SlotRow.kind (r : SlotRow) : Option SlotKind := SlotKind.ofCode r.kindCode

structure ZoneRow where
  used : Bool
  cab : Bool
  coupled : Bool
  sectCode : Nat
  base : Nat
  smin : Nat
  smax : Nat
  kp : Nat
  ki : Nat
  ilim : Nat
  hyst : Nat
  interval : Nat
  listFirst : Nat
  listCount : Nat
  heater : Nat
  blowerFloor : Nat
  freshFloor : Nat
  fallback : Int
  deriving DecidableEq, Repr

def ZoneRow.ofBytes (r : RowBytes) : ZoneRow where
  used := bitAt r 0 0
  cab := bitAt r 0 1
  coupled := bitAt r 0 2
  sectCode := u8 r 1
  base := u16 r 2
  smin := u16 r 4
  smax := u16 r 6
  kp := u8 r 8
  ki := u8 r 9
  ilim := u16 r 10
  hyst := u8 r 12
  interval := u8 r 13
  listFirst := u8 r 14
  listCount := u8 r 15
  heater := u16 r 16
  blowerFloor := u16 r 18
  freshFloor := u16 r 20
  fallback := s16 r 22

/-- Rows 8 to 10 of the ZONE table (R28). -/
structure SectRow where
  used : Bool
  rated : Nat
  minOff : Nat
  minOn : Nat
  deriving DecidableEq, Repr

def SectRow.ofBytes (r : RowBytes) : SectRow where
  used := bitAt r 0 0
  rated := u16 r 2
  minOff := u16 r 4
  minOn := u16 r 6

structure ListRow where
  slot : Nat
  weight : Nat
  deriving DecidableEq, Repr

def ListRow.ofBytes (r : RowBytes) : ListRow where
  slot := u8 r 0
  weight := u8 r 1

/-- The burst fields of a DOOR row (R56), also a door's working record and pending record. -/
structure BurstFields where
  curtain : Nat
  modeCode : Nat
  n : Nat
  delay : Nat
  tb : Nat
  tmax : Nat
  gap : Nat
  recovery : Nat
  gain : Nat
  deriving DecidableEq, Repr

def BurstFields.mode (b : BurstFields) : Option BurstMode := BurstMode.ofCode b.modeCode

/-- A DOOR row: its link fields and its burst fields (R54, R56). -/
structure DoorRow where
  used : Bool
  zoneCode : Nat
  stateSlot : Nat
  boardedSlot : Nat
  alightedSlot : Nat
  debounce : Nat
  draft : Nat
  burst : BurstFields
  deriving DecidableEq, Repr

def DoorRow.ofBytes (r : RowBytes) : DoorRow where
  used := bitAt r 0 0
  zoneCode := u8 r 1
  stateSlot := u8 r 2
  boardedSlot := u8 r 3
  alightedSlot := u8 r 4
  debounce := u16 r 6
  draft := u16 r 8
  burst :=
    { curtain := u16 r 10
      modeCode := u8 r 5
      n := u8 r 12
      delay := u8 r 13
      tb := u8 r 14
      tmax := u16 r 16
      gap := u8 r 18
      recovery := u16 r 20
      gain := u8 r 15 }

structure BandRow where
  used : Bool
  lower : Nat
  upper : Nat
  bias : Int
  blowerFloor : Nat
  freshFloor : Nat
  deriving DecidableEq, Repr

def BandRow.ofBytes (r : RowBytes) : BandRow where
  used := bitAt r 0 0
  lower := u8 r 1
  upper := u8 r 2
  bias := s8 r 3
  blowerFloor := u16 r 4
  freshFloor := u16 r 6

structure StepRow where
  used : Bool
  rising : Bool
  stageCode : Nat
  threshold : Int
  dwell : Nat
  deriving DecidableEq, Repr

def StepRow.ofBytes (r : RowBytes) : StepRow where
  used := bitAt r 0 0
  rising := bitAt r 0 1
  stageCode := u8 r 1
  threshold := s16 r 2
  dwell := u16 r 4

structure StageRow where
  request : Nat
  flap : Nat
  blowerFloor : Nat
  freshFloor : Nat
  dryCode : Nat
  dryFloor : Nat
  deriving DecidableEq, Repr

def StageRow.ofBytes (r : RowBytes) : StageRow where
  request := u16 r 0
  flap := u16 r 2
  blowerFloor := u16 r 4
  freshFloor := u16 r 6
  dryCode := u8 r 8
  dryFloor := u16 r 10

structure ClaimRow where
  level : Nat
  minimum : Nat
  deriving DecidableEq, Repr

def ClaimRow.ofBytes (r : RowBytes) : ClaimRow where
  level := u8 r 0
  minimum := u16 r 2

structure BudgetRow where
  base : Nat
  cap : Nat
  deriving DecidableEq, Repr

def BudgetRow.ofBytes (r : RowBytes) : BudgetRow where
  base := u16 r 0
  cap := u16 r 2

structure OutputRow where
  used : Bool
  functionCode : Nat
  target : Nat
  encodingCode : Nat
  level : Nat
  window : Nat
  commandId : Nat
  period : Nat
  spacing : Nat
  replyId : Nat
  replyTimeout : Nat
  standby : Nat
  deriving DecidableEq, Repr

def OutputRow.ofBytes (r : RowBytes) : OutputRow where
  used := bitAt r 0 0
  functionCode := u8 r 1
  target := u8 r 2
  encodingCode := u8 r 3
  level := u8 r 4
  window := u8 r 5
  commandId := u16 r 6
  period := u16 r 8
  spacing := u16 r 10
  replyId := u16 r 12
  replyTimeout := u16 r 14
  standby := u16 r 16

def OutputRow.func (r : OutputRow) : Option OutFunction := OutFunction.ofCode r.functionCode
def OutputRow.encoding (r : OutputRow) : Option Encoding := Encoding.ofCode r.encodingCode
def OutputRow.isSwitch (r : OutputRow) : Bool := r.encoding == some .switch
def OutputRow.isPower (r : OutputRow) : Bool := r.func.any OutFunction.isPower
def OutputRow.isHeater (r : OutputRow) : Bool := r.func.any OutFunction.isHeater
/-- The window length in ms (R167). -/
def OutputRow.windowMs (r : OutputRow) : Nat := 1000 * r.window

/-- The SYSTEM row (R188). -/
structure SystemRow where
  used : Bool
  passVehicle : Bool
  passClimate : Bool
  forwardLevel : Nat
  outsideAir : Nat
  lineState : Nat
  permittedPower : Nat
  surplus : Nat
  terminusMark : Nat
  glass : Nat
  dewpoint : Nat
  panelRequestId : Nat
  panelAckId : Nat
  panelStatusId : Nat
  panelTimeout : Nat
  bandDwell : Nat
  screenInterval : Nat
  rampRate : Nat
  capacityA : Nat
  capacityB : Nat
  capacityC : Nat
  deriving DecidableEq, Repr

def SystemRow.ofBytes (r : RowBytes) : SystemRow where
  used := bitAt r 0 0
  passVehicle := bitAt r 1 0
  passClimate := bitAt r 1 1
  forwardLevel := u8 r 2
  outsideAir := u8 r 3
  lineState := u8 r 4
  permittedPower := u8 r 5
  surplus := u8 r 6
  terminusMark := u8 r 7
  glass := u8 r 8
  dewpoint := u8 r 9
  panelRequestId := u16 r 10
  panelAckId := u16 r 12
  panelStatusId := u16 r 14
  panelTimeout := u8 r 16
  bandDwell := u8 r 17
  screenInterval := u8 r 18
  rampRate := u8 r 19
  capacityA := u8 r 20
  capacityB := u8 r 21
  capacityC := u8 r 22

/-! ### The field check of ROW_CLOSE (R193) -/

/-- A number lies from lo to hi. -/
def inRange (lo x hi : Nat) : Bool := lo ≤ x && x ≤ hi

/-- A slot designation or count slot is 0 to 63, or NONE (R24, R54). -/
def slotOrNone (c : Nat) : Bool := c ≤ 63 || c == 255

/-- The identifiers of a row lie from 0x000 to 0x7FF (R9, R161, R188). -/
def idInRange (i : Nat) : Bool := i ≤ 0x7FF

/-- The single fields of a used FRAME row; the first field index is validated in a SIGNAL row alone (R9), and the field
count is left to COMMIT (R205). -/
def FrameRow.fieldsOk (r : FrameRow) : Bool :=
  (portOfCode r.portCode).isSome && r.cls.isSome && idInRange r.id && (r.cls != some .signal || r.first ≤ 127)

def FieldRow.fieldsOk (r : FieldRow) : Bool :=
  r.byteOff ≤ 7 && r.bitOff ≤ 7 && inRange 1 r.width 16 && r.order.isSome && r.signedFlag ≤ 1 && r.target ≤ 63

def SlotRow.fieldsOk (r : SlotRow) : Bool :=
  r.kind.isSome && inRange 100 r.freshPeriod 60000 && r.holdPeriod ≤ 600

def ZoneRow.fieldsOk (r : ZoneRow) : Bool :=
  r.sectCode ≤ 2 && inRange 100 r.base 300 && inRange 100 r.smin 300 && inRange 100 r.smax 300 && r.kp ≤ 100
    && r.ilim ≤ 1000 && r.hyst ≤ 200 && inRange 1 r.interval 10 && r.listFirst ≤ 31 && inRange 1 r.listCount 8
    && r.heater ≤ 400 && r.blowerFloor ≤ 1000 && r.freshFloor ≤ 1000 && -1000 ≤ r.fallback && r.fallback ≤ 1000

def SectRow.fieldsOk (r : SectRow) : Bool := r.rated ≤ 2000 && r.minOff ≤ 600 && r.minOn ≤ 600

def ListRow.fieldsOk (r : ListRow) : Bool := r.slot ≤ 63 && r.weight ≤ 15

def BurstFields.fieldsOk (b : BurstFields) : Bool :=
  b.curtain ≤ 200 && b.mode.isSome && b.delay ≤ 30 && inRange 1 b.tb 120 && inRange 1 b.tmax 600
    && inRange 1 b.gap 60 && b.recovery ≤ 300 && inRange 1 b.gain 64

def DoorRow.fieldsOk (r : DoorRow) : Bool :=
  r.zoneCode ≤ 7 && r.stateSlot ≤ 63 && slotOrNone r.boardedSlot && slotOrNone r.alightedSlot && r.debounce ≤ 2000
    && r.draft ≤ 600 && r.burst.fieldsOk

def BandRow.fieldsOk (r : BandRow) : Bool :=
  r.lower ≤ 250 && r.upper ≤ 250 && -20 ≤ r.bias && r.bias ≤ 20 && r.blowerFloor ≤ 1000 && r.freshFloor ≤ 1000

def StepRow.fieldsOk (r : StepRow) : Bool :=
  -200 ≤ r.threshold && r.threshold ≤ 200 && (stepStageOfCode r.stageCode).isSome && r.dwell ≤ 600

def StageRow.fieldsOk (r : StageRow) : Bool :=
  r.request ≤ 400 && r.flap ≤ 1000 && r.blowerFloor ≤ 1000 && r.freshFloor ≤ 1000 && r.dryCode ≤ 1
    && r.dryFloor ≤ 1000

def ClaimRow.fieldsOk (r : ClaimRow) : Bool := r.level ≤ 15 && r.minimum ≤ 400

def BudgetRow.fieldsOk (r : BudgetRow) : Bool := r.base ≤ 2000 && r.cap ≤ 2000

def OutputRow.fieldsOk (r : OutputRow) : Bool :=
  r.func.isSome && r.encoding.isSome && idInRange r.commandId && inRange 100 r.period 5000
    && inRange 20 r.spacing 1000 && r.level ≤ 15 && idInRange r.replyId && inRange 50 r.replyTimeout 2000
    && r.standby ≤ 1000

def SystemRow.fieldsOk (r : SystemRow) : Bool :=
  r.forwardLevel ≤ 14 && slotOrNone r.outsideAir && slotOrNone r.lineState && slotOrNone r.permittedPower
    && slotOrNone r.surplus && slotOrNone r.terminusMark && slotOrNone r.glass && slotOrNone r.dewpoint
    && idInRange r.panelRequestId && idInRange r.panelAckId && idInRange r.panelStatusId
    && inRange 2 r.panelTimeout 60 && r.bandDwell ≤ 120 && inRange 1 r.screenInterval 10 && inRange 1 r.rampRate 100
    && inRange 1 r.capacityA 250 && inRange 1 r.capacityB 250 && inRange 1 r.capacityC 250

/-- Whether a commit of the table validates this row: a used row, a FIELD row whose width is not 0, and every row of
STAGE, CLAIM, BUDGET and LIST (R193). -/
def rowValidated (t : TableId) (r : RowBytes) : Bool :=
  match t with
  | .field => u8 r 2 != 0
  | .stage => true
  | .claim => true
  | .budget => true
  | .list => true
  | _ => bitAt r 0 0

/-- Every condition on a single field of row i of the table (R193). -/
def fieldsOk (t : TableId) (i : Nat) (r : RowBytes) : Bool :=
  match t with
  | .frame => (FrameRow.ofBytes r).fieldsOk
  | .field => (FieldRow.ofBytes r).fieldsOk
  | .slot => (SlotRow.ofBytes r).fieldsOk
  | .zone => if i < 8 then (ZoneRow.ofBytes r).fieldsOk else (SectRow.ofBytes r).fieldsOk
  | .list => (ListRow.ofBytes r).fieldsOk
  | .door => (DoorRow.ofBytes r).fieldsOk
  | .band => (BandRow.ofBytes r).fieldsOk
  | .step => (StepRow.ofBytes r).fieldsOk
  | .stage => (StageRow.ofBytes r).fieldsOk
  | .claim => (ClaimRow.ofBytes r).fieldsOk
  | .budget => (BudgetRow.ofBytes r).fieldsOk
  | .output => (OutputRow.ofBytes r).fieldsOk
  | .system => (SystemRow.ofBytes r).fieldsOk

/-- The field check of ROW_CLOSE: a row that a commit would not validate passes it (R193). -/
def rowCloseOk (t : TableId) (i : Nat) (r : RowBytes) : Bool := !rowValidated t r || fieldsOk t i r

/-! ### The conditions of a commit that relate fields or rows -/

/-- The service request identifier 0x6E0 + 2 × node (00_scope.md, R180). -/
def serviceRequestId (node : Fin 4) : Nat := 0x6E0 + 2 * node.val

/-- The service response identifier 0x6E1 + 2 × node (00_scope.md, R181). -/
def serviceResponseId (node : Fin 4) : Nat := 0x6E1 + 2 * node.val

/-- Conditions 2 to 5 of R9 for row i of a FRAME bank. -/
def frameRelationsOk (node : Fin 4) (rows : List RowBytes) (i : Nat) (r : FrameRow) : Bool :=
  (List.range rows.length).all (fun j =>
      let o := FrameRow.ofBytes (rows.getD j [])
      j == i || !o.used || o.portCode != r.portCode || o.id != r.id)
    && !(portOfCode r.portCode == some .vehicle && r.id == serviceRequestId node)
    && (r.cls != some .signal || (inRange 1 r.count 8 && r.first + r.count - 1 ≤ 127))
    && (r.cls != some .panel || portOfCode r.portCode == some .vehicle)
    && (r.cls != some .reply || portOfCode r.portCode == some .climate)

/-- Condition 3 of R15. -/
def fieldRelationsOk (r : FieldRow) : Bool :=
  match r.order with
  | some .msbFirst => r.span ≤ r.byteOff + 1
  | _ => r.byteOff + r.span - 1 ≤ 7

/-- Conditions 2 and 4 of R18. -/
def slotRelationsOk (r : SlotRow) : Bool :=
  r.lo ≤ r.hi && r.lo ≤ r.substitute && r.substitute ≤ r.hi && (r.kind == some .measure || (0 ≤ r.lo && r.hi ≤ 255))

/-- The relations of R27 for zone row i of a ZONE bank. -/
def zoneRelationsOk (rows : List RowBytes) (i : Nat) (r : ZoneRow) : Bool :=
  r.smin ≤ r.smax && r.listFirst + r.listCount - 1 ≤ 31
    && (!r.cab || (List.range i).all (fun j =>
      let o := ZoneRow.ofBytes (rows.getD j [])
      !(o.used && o.cab)))

/-- Conditions 2 and 3 of R55. -/
def doorRelationsOk (r : DoorRow) : Bool :=
  ((r.burst.mode != some .everyNth && r.burst.mode != some .accumulate) || r.burst.n != 0)
    && r.stateSlot != r.boardedSlot && r.stateSlot != r.alightedSlot
    && (r.boardedSlot == 255 || r.boardedSlot != r.alightedSlot)

/-- Conditions 1 (the target index) to 5 of R162 for row i of an OUTPUT bank. The window is validated for a SWITCH row
alone (R161, R162), so the model takes its range as a condition that relates two fields and leaves it to COMMIT: the
model's choice (notes/assumptions/52.md). -/
def outputRelationsOk (rows : List RowBytes) (i : Nat) (r : OutputRow) : Bool :=
  r.func.any (fun f => r.target < f.targets) && (!r.isSwitch || (r.isHeater && inRange 2 r.window 60))
    && (!r.isPower || r.standby == 0)
    && (List.range i).all (fun j =>
      let o := OutputRow.ofBytes (rows.getD j [])
      !o.used || o.commandId != r.commandId)

/-- The three panel identifiers differ from each other and from the part's service identifiers (R188). -/
def systemRelationsOk (node : Fin 4) (r : SystemRow) : Bool :=
  [r.panelRequestId, r.panelAckId, r.panelStatusId, serviceRequestId node, serviceResponseId node].Nodup

/-- The conditions of the table's commit that relate fields of row i, or rows of the bank. -/
def relationsOk (node : Fin 4) (t : TableId) (rows : List RowBytes) (i : Nat) (r : RowBytes) : Bool :=
  match t with
  | .frame => frameRelationsOk node rows i (FrameRow.ofBytes r)
  | .field => fieldRelationsOk (FieldRow.ofBytes r)
  | .slot => slotRelationsOk (SlotRow.ofBytes r)
  | .zone => if i < 8 then zoneRelationsOk rows i (ZoneRow.ofBytes r) else true
  | .door => doorRelationsOk (DoorRow.ofBytes r)
  | .band => (BandRow.ofBytes r).lower ≤ (BandRow.ofBytes r).upper
  | .output => outputRelationsOk rows i (OutputRow.ofBytes r)
  | .system => systemRelationsOk node (SystemRow.ofBytes r)
  | _ => true

/-- Row i of a bank's table meets every condition of the table's commit; a row the commit does not validate does. -/
def commitRowOk (node : Fin 4) (t : TableId) (rows : List RowBytes) (i : Nat) : Bool :=
  let r := rows.getD i []
  !rowValidated t r || (fieldsOk t i r && relationsOk node t rows i r)

/-- The first row, in ascending index, that breaks a condition of the commit; none when the bank is valid (R195). -/
def firstBadRow (node : Fin 4) (t : TableId) (rows : List RowBytes) : Option Nat :=
  (List.range t.rowCount).find? fun i => !commitRowOk node t rows i

end Sys2Proof.Machine
end

