-- ==== Sys2Proof/Machine/State.lean ====
section
/-! DEFINITION. Everything the spec gives the part as state, the hand-overs in flight between its blocks, the queue of
waiting commands, and the part right after a power-on reset. -/

namespace Sys2Proof.Machine

/-- A timer: stopped, or running with the ms that remain. A running timer with 0 ms remaining is due to expire. -/
abbrev Timer := Option Nat

inductive PartState where
  | standby
  | running
  deriving DecidableEq, Repr

inductive Link where
  | on
  | busOff
  deriving DecidableEq, Repr

/-- Where the frame on the bus came from. `detached`: its source no longer holds it, so its end is reported to no
block (R177, notes/assumptions/12). `orphan`: it was on the bus at a RESTART, and its end changes nothing (R8). -/
inductive TxSource where
  | response
  | ack
  | panelStatus
  | forward
  | channel (c : Fin 24)
  | detached
  | orphan
  deriving DecidableEq, Repr

/-- The frame on a port's bus; `carried` is the output a channel's frame carries, fixed when its transmission began
(R163). -/
structure Tx where
  src : TxSource
  frame : Frame
  carried : Nat
  deriving DecidableEq, Repr

/-- A port controller (section 1.1). -/
structure Port where
  link : Link
  errors : Nat
  forwards : List Frame
  drops : Nat
  busOff : Timer
  onBus : Option Tx
  deriving DecidableEq, Repr

/-- The dynamic state of a slot (section 1.4). -/
structure Slot where
  value : Int
  status : SlotStatus
  clamped : Bool
  fresh : Timer
  hold : Timer
  deriving DecidableEq, Repr

inductive ZoneMode where
  | off
  | vent
  | heat
  | cool
  deriving DecidableEq, Repr

/-- A zone's published status, the record the power allocator reads (R30). -/
structure Published where
  mode : ZoneMode
  tz : Int
  blind : Bool
  smax : Nat
  deriving DecidableEq, Repr

/-- The dynamic state of a zone (R30); `tz` is none while UNSET. -/
structure Zone where
  mode : ZoneMode
  blind : Bool
  tz : Option Int
  sz : Int
  integral : Int
  lastR : Int
  qh : Nat
  qc : Nat
  blower : Nat
  freshAir : Nat
  published : Published
  pass : Timer
  deriving DecidableEq, Repr

inductive CoolState where
  | off
  | run
  | lockout
  deriving DecidableEq, Repr

/-- A section cooling unit (R42); `qcs` is the latest Qc posted by each zone of its section. -/
structure Cooler where
  state : CoolState
  qcs : Vector Nat 8
  dry : Bool
  dryFloor : Nat
  posted : Nat
  grant : Nat
  minOn : Timer
  minOff : Timer
  demand : Nat
  deriving DecidableEq, Repr

inductive BurstState where
  | idle
  | delay
  | burst
  | gap
  | recovery
  deriving DecidableEq, Repr

/-- The dynamic state of a door (R57); `isOpen` is its accepted state, `candidate` the debounce candidate (open or
closed), `openMs` the current open time in ms. -/
structure Door where
  isOpen : Bool
  candidate : Option Bool
  debounce : Timer
  burst : BurstState
  timer : Timer
  latch : Bool
  serviceMask : Bool
  overrideMask : Bool
  pv : Nat
  series : Nat
  ending : Bool
  accum : Nat
  openMs : Nat
  working : Option BurstFields
  staged : Option BurstFields
  dropped : Nat
  deriving DecidableEq, Repr

/-- A section record of the load counter (R83); `current` is none for the band NONE, and `pendingBand` is none when
nothing is pending. -/
structure Load where
  count : Nat
  isOver : Bool
  isUnder : Bool
  armed : Bool
  current : Option Nat
  pendingBand : Option (Option Nat)
  dwell : Timer
  deriving DecidableEq, Repr

/-- The screen unit (R99); `margin` is none while UNKNOWN, `pointer` is none for NONE. -/
structure Screen where
  stage : Stage
  pointer : Option Nat
  stageMs : Nat
  entryDwell : Nat
  margin : Option Int
  blind : Bool
  maxCount : Nat
  grant : Nat
  posted : Nat
  flap : Nat
  pass : Timer
  deriving DecidableEq, Repr

inductive Origin where
  | panel
  | service
  deriving DecidableEq, Repr

/-- An override record (R117); `remaining` is none while UNTIMED, else in ms. -/
structure Record where
  kind : OverrideKind
  target : Target
  value : Int
  origin : Origin
  remaining : Timer
  seq : Nat
  deriving DecidableEq, Repr

/-- The override unit (sections 6.1, 6.5, 6.6). -/
structure Overrides where
  table : List Record
  seq : Nat
  present : Bool
  panelTimer : Timer
  statusTimer : Timer
  deriving DecidableEq, Repr

inductive LineState where
  | wired
  | dewired
  | shore
  | unknown
  deriving DecidableEq, Repr

/-- A claimant record of the power allocator (R138). -/
structure Claim where
  posted : Nat
  capacity : Nat
  regular : Nat
  absorption : Nat
  deriving DecidableEq, Repr

/-- The power allocator (R138); `permitted` is none while NOT_USABLE, `surplus` is none while NOT_FRESH. -/
structure Alloc where
  line : LineState
  permitted : Option Nat
  surplus : Option Nat
  target : Nat
  beff : Nat
  ramp : Timer
  pool : Nat
  maxCount : Nat
  claims : Vector Claim 20
  deriving DecidableEq, Repr

/-- The source values of the output scheduler (R163). -/
structure Sources where
  zoneGrants : Vector Nat 8
  curtainGrants : Vector Nat 8
  screenGrant : Nat
  demands : Vector Nat 3
  blowers : Vector Nat 8
  freshAirs : Vector Nat 8
  flap : Nat
  deriving DecidableEq, Repr

inductive PendingFrame where
  | none
  | waiting
  | offered
  deriving DecidableEq, Repr

/-- A channel record (R163). The output is a per-mille value, a step, or 0 OFF and 1 ON. -/
structure Channel where
  commanded : Nat
  output : Nat
  lastCarried : Option Nat
  frame : PendingFrame
  spacing : Timer
  periodic : Timer
  faulted : Bool
  misses : Nat
  replyWait : Timer
  window : Timer
  elapsed : Nat
  onTime : Nat
  deriving DecidableEq, Repr

inductive HaltCode where
  | sequence
  | length
  | range
  | timeout
  deriving DecidableEq, Repr

/-- The open row of an assembly (R190): the bytes placed so far are its row buffer up to the fragment pointer, which is
their number. -/
structure OpenRow where
  table : TableId
  row : Nat
  buffer : List Byte
  timer : Nat
  deriving DecidableEq, Repr

/-- The load engine (R190): an open row only while ASSEMBLING, a halt code only while HALTED. -/
inductive Engine where
  | idle
  | assembling (o : OpenRow)
  | halted (h : HaltCode)
  deriving DecidableEq, Repr

/-- The event summary flags, in the order of their STATUS bits (R197, R207). -/
inductive Flag where
  | slotSubstituted
  | fieldShort
  | forwardDropped
  | zoneBlind
  | doorDropped
  | countSaturated
  | budgetShed
  | channelFaulted
  | panelLost
  | loadHalted
  | serviceDropped
  deriving DecidableEq, Repr

/-- The eleven event summary flags (R197). -/
structure EventFlags where
  slotSubstituted : Bool
  fieldShort : Bool
  forwardDropped : Bool
  zoneBlind : Bool
  doorDropped : Bool
  countSaturated : Bool
  budgetShed : Bool
  channelFaulted : Bool
  panelLost : Bool
  loadHalted : Bool
  serviceDropped : Bool
  deriving DecidableEq, Repr

/-- The part, with the hand-overs in flight between its blocks and the queue of waiting commands. -/
structure State where
  part : PartState
  node : Fin 4
  rate : BitRate
  active : Bank
  shadow : Bank
  /-- The shadow-written marks, by table code less 1 (R187). -/
  marks : Vector Bool 13
  engine : Engine
  flags : EventFlags
  vehicle : Port
  climate : Port
  responses : List Frame
  acks : List Frame
  panelStatus : Option Frame
  slots : Vector Slot 64
  zones : Vector Zone 8
  coolers : Vector Cooler 3
  doors : Vector Door 8
  groupMask : Bool
  loads : Vector Load 3
  markHigh : Bool
  screen : Screen
  overrides : Overrides
  alloc : Alloc
  sources : Sources
  channels : Vector Channel 24
  /-- The hand-overs that one block has made and another has not yet taken, oldest first (notes/assumptions/3.md). -/
  inFlight : List Instr
  /-- How many responses have been queued: the free bytes of the next one are those of this number
  (notes/assumptions/21.md). -/
  draws : Nat
  /-- The waiting commands, first in, first out. -/
  pending : List Instr
  deriving DecidableEq, Repr

/-- Why a command has no outcome. -/
inductive Refusal where
  /-- An arm of `exec` that gives its command no meaning yet. Safe: no claim can be proved of it. No arm raises it. -/
  | notModelled (mnemonic : String)
  /-- FRAME_ARRIVAL and REPLY raise it for a frame of more than 8 data bytes, which CAN 2.0A does not carry (R1).
  Safe: the part cannot meet such a frame. -/
  | notACanFrame
  deriving DecidableEq, Repr

/-- The spec describes no event that stops the part, so there is no fault. -/
inductive Fault where
  deriving DecidableEq, Repr

/-! ### Reset values -/

/-- R8. -/
def Port.reset : Port := ⟨.on, 0, [], 0, none, none⟩

/-- R26; the stored value, which no read gives while the slot is EMPTY, is 0 (notes/assumptions/9.md). -/
def Slot.reset : Slot := ⟨0, .empty, false, none, none⟩

/-- R53, for a zone whose row is empty. -/
def Zone.reset : Zone := ⟨.off, false, none, 100, 0, 0, 0, 0, 0, 0, ⟨.off, 0, false, 0⟩, none⟩

/-- R53. -/
def Cooler.reset : Cooler := ⟨.off, Vector.replicate 8 0, false, 0, 0, 0, none, none, 0⟩

/-- R82. -/
def Door.reset : Door :=
  ⟨false, none, none, .idle, none, false, false, false, 0, 0, false, 0, 0, none, none, 0⟩

/-- R98. -/
def Load.reset : Load := ⟨0, false, false, false, none, none, none⟩

/-- R116. -/
def Screen.reset : Screen := ⟨.off, none, 0, 0, none, false, 0, 0, 0, 0, none⟩

/-- R137. -/
def Overrides.reset : Overrides := ⟨[], 0, false, none, none⟩

/-- R160. -/
def Alloc.reset : Alloc := ⟨.unknown, none, none, 0, 0, none, 0, 0, Vector.replicate 20 ⟨0, 0, 0, 0⟩⟩

/-- R179. -/
def Sources.reset : Sources :=
  ⟨Vector.replicate 8 0, Vector.replicate 8 0, 0, Vector.replicate 3 0, Vector.replicate 8 0, Vector.replicate 8 0, 0⟩

/-- R179. -/
def Channel.reset : Channel := ⟨0, 0, none, .none, none, none, false, 0, none, none, 0, 0⟩

/-- All eleven flags clear (R186). -/
def EventFlags.clear : EventFlags := ⟨false, false, false, false, false, false, false, false, false, false, false⟩

/-- The part right after a power-on reset (R8, R26, R53, R82, R98, R116, R137, R160, R179, R186). The straps read as
node 0 and 125 kbit/s (notes/assumptions/8.md). -/
def State.reset : State where
  part := .standby
  node := 0
  rate := .kbit125
  active := Bank.reset
  shadow := Bank.reset
  marks := Vector.replicate 13 false
  engine := .idle
  flags := EventFlags.clear
  vehicle := Port.reset
  climate := Port.reset
  responses := []
  acks := []
  panelStatus := none
  slots := Vector.replicate 64 Slot.reset
  zones := Vector.replicate 8 Zone.reset
  coolers := Vector.replicate 3 Cooler.reset
  doors := Vector.replicate 8 Door.reset
  groupMask := false
  loads := Vector.replicate 3 Load.reset
  markHigh := false
  screen := Screen.reset
  overrides := Overrides.reset
  alloc := Alloc.reset
  sources := Sources.reset
  channels := Vector.replicate 24 Channel.reset
  inFlight := []
  draws := 0
  pending := []

end Sys2Proof.Machine
end

