-- ==== Sys2Proof/Machine/Ops.lean ====
section
/-! DEFINITION. The named operations over State that every block uses: hand-overs between blocks, one place each for
the update of a record, and the reads of the active rows. -/

namespace Sys2Proof.Machine

/-! ### Hand-overs between blocks (00_scope.md, Time and events; notes/assumptions/3.md) -/

/-- A block hands events to other blocks: they stand in flight, in this order, until they are taken. -/
def State.emit (s : State) (events : List Instr) : State := { s with inFlight := s.inFlight ++ events }

/-- The event e is taken: the oldest hand-over equal to it, if there is one, is no longer in flight. -/
def State.take (s : State) (e : Instr) : State := { s with inFlight := s.inFlight.erase e }

/-! ### Updates, one per record -/

def State.port (s : State) : PortName → Port
  | .vehicle => s.vehicle
  | .climate => s.climate

def State.setPort (s : State) (p : PortName) (x : Port) : State :=
  match p with
  | .vehicle => { s with vehicle := x }
  | .climate => { s with climate := x }

def State.setSlot (s : State) (i : Fin 64) (x : Slot) : State := { s with slots := s.slots.set i x }
def State.setZone (s : State) (z : Fin 8) (x : Zone) : State := { s with zones := s.zones.set z x }
def State.setCooler (s : State) (k : Fin 3) (x : Cooler) : State := { s with coolers := s.coolers.set k x }
def State.setDoor (s : State) (d : Fin 8) (x : Door) : State := { s with doors := s.doors.set d x }
def State.setLoad (s : State) (k : Fin 3) (x : Load) : State := { s with loads := s.loads.set k x }
def State.setChannel (s : State) (c : Fin 24) (x : Channel) : State := { s with channels := s.channels.set c x }
def State.setClaim (s : State) (c : Fin 20) (x : Claim) : State :=
  { s with alloc := { s.alloc with claims := s.alloc.claims.set c x } }

/-- The other port: where a forward copy goes (R13). -/
def otherPort : PortName → PortName
  | .vehicle => .climate
  | .climate => .vehicle

/-- f applied to the state at each index in turn, in ascending order. -/
def forEach (n : Nat) (f : Fin n → State → State) (s : State) : State :=
  (List.finRange n).foldl (fun t i => f i t) s

/-- A timer started with a number of seconds. -/
def seconds (n : Nat) : Timer := some (1000 * n)

/-- The whole seconds that remain, floored; 0 when the timer is stopped. -/
def Timer.wholeSeconds (t : Timer) : Nat := t.getD 0 / 1000

/-! ### The active rows -/

def State.frameRow (s : State) (i : Nat) : FrameRow := FrameRow.ofBytes (s.active.row .frame i)
def State.fieldRow (s : State) (i : Nat) : FieldRow := FieldRow.ofBytes (s.active.row .field i)
def State.slotRow (s : State) (i : Fin 64) : SlotRow := SlotRow.ofBytes (s.active.row .slot i)
def State.zoneRow (s : State) (z : Fin 8) : ZoneRow := ZoneRow.ofBytes (s.active.row .zone z)
/-- Rows 8 to 10 of the ZONE table are the section rows (R28). -/
def State.sectRow (s : State) (k : Fin 3) : SectRow := SectRow.ofBytes (s.active.row .zone (8 + k))
def State.listRow (s : State) (i : Nat) : ListRow := ListRow.ofBytes (s.active.row .list i)
def State.doorRow (s : State) (d : Fin 8) : DoorRow := DoorRow.ofBytes (s.active.row .door d)
def State.bandRow (s : State) (i : Nat) : BandRow := BandRow.ofBytes (s.active.row .band i)
def State.stepRow (s : State) (i : Nat) : StepRow := StepRow.ofBytes (s.active.row .step i)
def State.claimRow (s : State) (c : Fin 20) : ClaimRow := ClaimRow.ofBytes (s.active.row .claim c)
def State.outputRow (s : State) (c : Fin 24) : OutputRow := OutputRow.ofBytes (s.active.row .output c)
def State.sys (s : State) : SystemRow := SystemRow.ofBytes (s.active.row .system 0)

/-- The code of a line state, which is also its BUDGET row (R139, R204). -/
def LineState.code : LineState → Nat
  | .wired => 0
  | .dewired => 1
  | .shore => 2
  | .unknown => 3

def State.budgetRow (s : State) (l : LineState) : BudgetRow := BudgetRow.ofBytes (s.active.row .budget l.code)

/-- The parameters of a stage: those of its STAGE row, and all 0 with the dry flag clear for OFF (R101). -/
def State.stageRow (s : State) : Stage → StageRow
  | .off => ⟨0, 0, 0, 0, 0, 0⟩
  | .watch => StageRow.ofBytes (s.active.row .stage 0)
  | .demist => StageRow.ofBytes (s.active.row .stage 1)
  | .clear => StageRow.ofBytes (s.active.row .stage 2)
  | .max => StageRow.ofBytes (s.active.row .stage 3)

def StageRow.dry (r : StageRow) : Bool := r.dryCode == 1

/-! ### The settings of the SYSTEM row, with what holds while no SYSTEM row is used -/

/-- Pass-through is off on both ports while no SYSTEM row is used (R13). -/
def State.passThrough (s : State) (p : PortName) : Bool :=
  s.sys.used && (match p with
    | .vehicle => s.sys.passVehicle
    | .climate => s.sys.passClimate)

/-- The forward queue competes at level 14 while no SYSTEM row is used (R6). -/
def State.forwardLevel (s : State) : Nat := if s.sys.used then s.sys.forwardLevel else 14

/-- The ramp rate is 10 while no SYSTEM row is used (R143). -/
def State.rampRate (s : State) : Nat := if s.sys.used then s.sys.rampRate else 10

/-- The band dwell in s is 0 while no SYSTEM row is used (R84). -/
def State.bandDwell (s : State) : Nat := if s.sys.used then s.sys.bandDwell else 0

/-- The screen pass interval in s is 5 while no SYSTEM row is used (R103). -/
def State.screenInterval (s : State) : Nat := if s.sys.used then s.sys.screenInterval else 5

/-- A section's capacity is 250 while no SYSTEM row is used (R84). -/
def State.capacityOf (s : State) (k : Fin 3) : Nat :=
  if s.sys.used then
    (match k with
      | 0 => s.sys.capacityA
      | 1 => s.sys.capacityB
      | 2 => s.sys.capacityC)
  else 250

/-- The system roles of slots (R24). -/
inductive Role where
  | outsideAir
  | lineState
  | permittedPower
  | surplus
  | terminusMark
  | glass
  | dewpoint
  deriving DecidableEq, Repr

/-- The slot that the active SYSTEM row designates for a role; none for NONE and while no SYSTEM row is used (R24). -/
def State.designated (s : State) (role : Role) : Option (Fin 64) :=
  if s.sys.used then
    slotOfCode (match role with
      | .outsideAir => s.sys.outsideAir
      | .lineState => s.sys.lineState
      | .permittedPower => s.sys.permittedPower
      | .surplus => s.sys.surplus
      | .terminusMark => s.sys.terminusMark
      | .glass => s.sys.glass
      | .dewpoint => s.sys.dewpoint)
  else none

/-! ### Claimants (R138) -/

/-- Zone heater n is claimant n. -/
def zoneClaim (z : Fin 8) : Fin 20 := ⟨z.val, by omega⟩
/-- The curtain of door d is claimant 8 + d. -/
def curtainClaim (d : Fin 8) : Fin 20 := ⟨8 + d.val, by omega⟩
/-- The cooling unit of section s is claimant 16 + s. -/
def coolClaim (k : Fin 3) : Fin 20 := ⟨16 + k.val, by omega⟩
/-- The windscreen heater is claimant 19. -/
def screenClaim : Fin 20 := 19

inductive Claimant where
  | heater (z : Fin 8)
  | curtain (d : Fin 8)
  | cooling (k : Fin 3)
  | screen
  deriving DecidableEq, Repr

/-- What a claimant index names. -/
def claimantOf (c : Fin 20) : Claimant :=
  if h : c.val < 8 then .heater ⟨c.val, h⟩
  else if h : c.val < 16 then .curtain ⟨c.val - 8, by omega⟩
  else if h : c.val < 19 then .cooling ⟨c.val - 16, by omega⟩
  else .screen

/-- The section of a zone's row, for a code that names one. -/
def ZoneRow.sect (r : ZoneRow) : Option (Fin 3) := sectOfCode r.sectCode

/-- Whether zone z is used and lies in section k. -/
def State.zoneIn (s : State) (k : Fin 3) (z : Fin 8) : Bool := (s.zoneRow z).used && (s.zoneRow z).sect == some k

/-- The cab zone, if any: the used zone whose row carries the cab flag (R27). -/
def State.cabZone (s : State) : Option (Fin 8) :=
  (List.finRange 8).find? fun z => (s.zoneRow z).used && (s.zoneRow z).cab

end Sys2Proof.Machine
end

