-- ==== Sys2Proof/Machine/Flags.lean ====
section
/-! DEFINITION. The eleven event summary flags (R197): how a flag is set, and how STATUS reports them. -/

namespace Sys2Proof.Machine

/-- Flag f set; a flag that is already set stays set (R197). -/
def EventFlags.set (e : EventFlags) (f : Flag) : EventFlags :=
  match f with
  | .slotSubstituted => { e with slotSubstituted := true }
  | .fieldShort => { e with fieldShort := true }
  | .forwardDropped => { e with forwardDropped := true }
  | .zoneBlind => { e with zoneBlind := true }
  | .doorDropped => { e with doorDropped := true }
  | .countSaturated => { e with countSaturated := true }
  | .budgetShed => { e with budgetShed := true }
  | .channelFaulted => { e with channelFaulted := true }
  | .panelLost => { e with panelLost := true }
  | .loadHalted => { e with loadHalted := true }
  | .serviceDropped => { e with serviceDropped := true }

/-- Whether flag f is set. -/
def EventFlags.get (e : EventFlags) : Flag → Bool
  | .slotSubstituted => e.slotSubstituted
  | .fieldShort => e.fieldShort
  | .forwardDropped => e.forwardDropped
  | .zoneBlind => e.zoneBlind
  | .doorDropped => e.doorDropped
  | .countSaturated => e.countSaturated
  | .budgetShed => e.budgetShed
  | .channelFaulted => e.channelFaulted
  | .panelLost => e.panelLost
  | .loadHalted => e.loadHalted
  | .serviceDropped => e.serviceDropped

/-- The flags as the 11 bits of the STATUS response (R207). -/
def EventFlags.bits (e : EventFlags) : Nat :=
  flagBit e.slotSubstituted 1 + flagBit e.fieldShort 2 + flagBit e.forwardDropped 4 + flagBit e.zoneBlind 8
    + flagBit e.doorDropped 16 + flagBit e.countSaturated 32 + flagBit e.budgetShed 64
    + flagBit e.channelFaulted 128 + flagBit e.panelLost 256 + flagBit e.loadHalted 512
    + flagBit e.serviceDropped 1024

/-- The owner of a condition sets its flag. -/
def State.raise (s : State) (f : Flag) : State := { s with flags := s.flags.set f }

/-- The flag set when the condition holds. -/
def State.raiseIf (s : State) (b : Bool) (f : Flag) : State := if b then s.raise f else s

end Sys2Proof.Machine
end

