-- ==== Sys2Proof/Machine/Operands.lean ====
section
/-! DEFINITION. The operand forms: where a field lies in a frame and how it is scaled (R15 to R17), the sets of doors
and sections of a service request (R203), and override targets. -/

namespace Sys2Proof.Machine

/-! ### Fields of a frame -/

/-- The bytes that a field occupies, from the one that holds its least significant bit upward in significance (R16). -/
def FieldRow.places (r : FieldRow) : List Nat :=
  (List.range r.span).map fun k => if r.order = some .msbFirst then r.byteOff - k else r.byteOff + k

/-- A field is short when any byte it occupies has an index not less than the data length (R16). -/
def FieldRow.isShort (r : FieldRow) (len : Nat) : Bool := r.places.any fun i => len ≤ i

/-- The field's bits as an unsigned integer of its width (R16). -/
def FieldRow.rawBits (r : FieldRow) (data : List Byte) : Nat :=
  r.places.foldr (fun i acc => u8 data i + 256 * acc) 0 / 2 ^ r.bitOff % 2 ^ r.width

/-- The raw value: two's complement when the signed flag is set (R17). -/
def FieldRow.rawValue (r : FieldRow) (data : List Byte) : Int :=
  if r.signedFlag = 1 then signedOf r.width (r.rawBits data) else r.rawBits data

/-- The scaled value: round(raw × gain / 256) + bias (R17). -/
def FieldRow.scaled (r : FieldRow) (data : List Byte) : Int := rounded (r.rawValue data * r.gain) 256 + r.bias

/-! ### Sets and names in a service request -/

/-- A door set: bit d names door d (R203). -/
def doorSet (b : Byte) : List (Fin 8) := (List.finRange 8).filter fun d => b.toNat.testBit d

/-- A section set: bits 0, 1 and 2 name A, B and C (R203). -/
def sectSet (b : Byte) : List (Fin 3) := (List.finRange 3).filter fun k => b.toNat.testBit k

/-- The index below n that a byte names. -/
def indexOf (n : Nat) (b : Byte) : Option (Fin n) := if h : b.toNat < n then some ⟨b.toNat, h⟩ else none

/-- Whether a target names ALL, or names an index whose row is used: the DOOR row for CURTAIN_QUIET, the ZONE row for
every other kind (R122). -/
def State.targetUsed (s : State) (kind : OverrideKind) : Target → Bool
  | .all => true
  | .one n => if kind = .curtainQuiet then (s.doorRow n).used else (s.zoneRow n).used

end Sys2Proof.Machine
end

