-- ==== Sys2Proof/Machine/Channels.lean ====
section
/-! DEFINITION. The output channels (chapter 8): commanded values, encodings, windows, command frames, spacing and
reply supervision. A channel's own transitions are functions of its record and of what it sees of the rest of the part
(`ChannelView`); the state-level operations below apply them. -/

namespace Sys2Proof.Machine

/-- What a channel's transitions read outside its record: its row, the link of the climate port, and whether its frame
is on the bus. -/
structure ChannelView where
  row : OutputRow
  linkOn : Bool
  onBus : Bool

/-! ### What a channel serves (R161) -/

/-- The source value a channel is formed from. -/
def OutputRow.source (r : OutputRow) : Option Source :=
  match r.func with
  | some .zoneHeat => if h : r.target < 8 then some (.zoneGrant ⟨r.target, h⟩) else none
  | some .zoneBlower => if h : r.target < 8 then some (.blower ⟨r.target, h⟩) else none
  | some .zoneFresh => if h : r.target < 8 then some (.freshAir ⟨r.target, h⟩) else none
  | some .curtain => if h : r.target < 8 then some (.curtainGrant ⟨r.target, h⟩) else none
  | some .screenHeat => if r.target = 0 then some .screenGrant else none
  | some .screenFlap => if r.target = 0 then some .flap else none
  | some .coolUnit => if h : r.target < 3 then some (.demand ⟨r.target, h⟩) else none
  | none => none

/-- The claimant whose channel it is, for a power function (R146). -/
def OutputRow.claimant (r : OutputRow) : Option (Fin 20) :=
  match r.func with
  | some .zoneHeat => if h : r.target < 8 then some (zoneClaim ⟨r.target, h⟩) else none
  | some .curtain => if h : r.target < 8 then some (curtainClaim ⟨r.target, h⟩) else none
  | some .coolUnit => if h : r.target < 3 then some (coolClaim ⟨r.target, h⟩) else none
  | some .screenHeat => if r.target = 0 then some screenClaim else none
  | _ => none

/-! ### Command frames (R169 to R173) -/

/-- A frame offered to the climate port; a port in BUS_OFF discards it, and the pending frame becomes NONE (R3, R172). -/
def Channel.offer (v : ChannelView) (ch : Channel) : Channel :=
  { ch with frame := if v.linkOn then .offered else .none }

/-- A frame is exempt from spacing when the function is a power function and the output it would carry is below the
last carried output (R170). The frames that STOP makes (R178) are judged by these two conditions as well: the model's
choice (notes/assumptions/57.md). -/
def Channel.exempt (v : ChannelView) (ch : Channel) : Bool := v.row.isPower && ch.lastCarried.any (ch.output < ·)

/-- A pending frame that is not on the bus is OFFERED when the spacing timer is stopped or the frame is exempt, else
WAITING (R170). -/
def Channel.judge (v : ChannelView) (ch : Channel) : Channel :=
  if ch.spacing = none ∨ ch.exempt v = true then ch.offer v else { ch with frame := .waiting }

/-- The channel makes a frame; a channel at level 15 makes none (R173). -/
def Channel.makeFrame (v : ChannelView) (ch : Channel) : Channel := if v.row.level ≤ 14 then ch.judge v else ch

/-- What a changed output does to the channel's frames (R169). -/
def Channel.afterChange (v : ChannelView) (ch : Channel) : Channel :=
  match ch.frame with
  | .none => ch.makeFrame v
  | .waiting => ch.judge v
  | .offered => if v.onBus then ch else ch.judge v

/-- The output formed again; an output that stays as it was makes no change frame (R166). -/
def Channel.setOutput (v : ChannelView) (out : Nat) (ch : Channel) : Channel :=
  if out = ch.output then ch else Channel.afterChange v { ch with output := out }

/-! ### Encodings and windows (R166 to R168) -/

/-- The output of a PERMILLE or STAGED channel; a SWITCH output without windows is OFF (R166, R167). -/
def encodeOutput (row : OutputRow) (commanded : Nat) : Nat :=
  match row.encoding with
  | some .permille => commanded
  | some (.staged k) => commanded * k / 1000
  | _ => 0

/-- The ON time of a commanded value: floor(commanded × window length in ms / 1000) (R167). -/
def onTimeOf (row : OutputRow) (commanded : Nat) : Nat := commanded * row.windowMs / 1000

/-- A new commanded value at a SWITCH channel: a lower one acts at once, a higher one at the next window start (R168). -/
def Channel.commandSwitch (v : ChannelView) (cmd : Nat) (ch : Channel) : Channel :=
  if cmd < ch.commanded ∧ ch.window ≠ none then
    let cut : Channel := { ch with commanded := cmd, onTime := onTimeOf v.row cmd }
    if onTimeOf v.row cmd ≤ ch.elapsed then cut.setOutput v 0 else cut
  else { ch with commanded := cmd }

/-- The channel takes a commanded value and forms its output from it (R166, R168). -/
def Channel.command (v : ChannelView) (cmd : Nat) (ch : Channel) : Channel :=
  if v.row.isSwitch then ch.commandSwitch v cmd
  else Channel.setOutput v (encodeOutput v.row cmd) { ch with commanded := cmd }

/-- A window start (R167). -/
def Channel.windowStart (v : ChannelView) (ch : Channel) : Channel :=
  let onTime := onTimeOf v.row ch.commanded
  Channel.setOutput v (if 0 < onTime then 1 else 0)
    { ch with elapsed := 0, window := some v.row.windowMs, onTime := onTime }

/-- The window timer expires: a new window starts (R167). -/
def Channel.windowExpiry (v : ChannelView) (ch : Channel) : Channel :=
  if ch.window = none then ch else ch.windowStart v

/-- Whether the window has an ON end: the output is ON and the ON time is shorter than the window (R167). -/
def Channel.hasOnEnd (v : ChannelView) (ch : Channel) : Bool :=
  ch.window.isSome && ch.output == 1 && ch.onTime < v.row.windowMs

/-- The window elapsed reaches the ON time: the output turns OFF (R167). One sent early raises the window elapsed to the
ON time and leaves the window timer, so the elapsed can then pass the window length: the model's choice
(notes/assumptions/25.md). -/
def Channel.onEnd (v : ChannelView) (ch : Channel) : Channel :=
  if ch.hasOnEnd v then Channel.setOutput v 0 { ch with elapsed := max ch.elapsed ch.onTime } else ch

/-! ### Timers and reports (R170 to R172, R174) -/

/-- The spacing timer expires: a WAITING frame becomes OFFERED (R170). -/
def Channel.spacingExpiry (v : ChannelView) (ch : Channel) : Channel :=
  if ch.spacing = none then ch
  else if ch.frame = .waiting then Channel.offer v { ch with spacing := none } else { ch with spacing := none }

/-- The periodic timer expires: it restarts, and a channel with no pending frame makes one (R171). -/
def Channel.periodicExpiry (v : ChannelView) (ch : Channel) : Channel :=
  if ch.periodic = none then ch
  else
    let again : Channel := { ch with periodic := some v.row.period }
    if ch.frame = .none then again.makeFrame v else again

/-- The climate port reports that the frame completed, carrying `carried` (R172, R174). -/
def Channel.completed (v : ChannelView) (carried : Nat) (ch : Channel) : Channel :=
  let done : Channel :=
    { ch with
      lastCarried := some carried
      frame := .none
      spacing := some v.row.spacing
      replyWait := some (ch.replyWait.getD v.row.replyTimeout) }
  if ch.output = carried then done else done.makeFrame v

/-- The climate port reports that the frame was discarded (R172). -/
def Channel.discarded (ch : Channel) : Channel := { ch with frame := .none }

/-- The reply-wait timer expires with no reply taken: a miss is counted (R174). -/
def Channel.replyWaitExpiry (ch : Channel) : Channel :=
  if ch.replyWait = none then ch
  else
    let misses := min 3 (ch.misses + 1)
    { ch with replyWait := none, misses := misses, faulted := ch.faulted || misses == 3 }

/-- A reply is taken: status OK or FAULT (R175). -/
def Channel.reply (ok : Bool) (ch : Channel) : Channel :=
  if ok then { ch with replyWait := none, misses := 0, faulted := false }
  else { ch with replyWait := none, faulted := true }

/-! ### Taking a channel into use (R177 to R179) -/

/-- A newly used channel: READY, nothing carried or pending, its commanded value formed, windows and the periodic
timer started, and a frame made at once at a level of 0 to 14 (R177). -/
def Channel.begin (v : ChannelView) (running : Bool) (cmd : Nat) : Channel :=
  let formed : Channel := { Channel.reset with commanded := cmd, output := encodeOutput v.row cmd }
  let onTime := onTimeOf v.row cmd
  let windowed : Channel :=
    if v.row.isSwitch ∧ running = true then
      { formed with window := some v.row.windowMs, onTime := onTime, output := if 0 < onTime then 1 else 0 }
    else formed
  if v.row.level ≤ 14 then Channel.makeFrame v { windowed with periodic := some v.row.period } else windowed

/-- STOP at a used channel: the standby value is commanded and SWITCH windows stop (R178). -/
def Channel.stop (v : ChannelView) (ch : Channel) : Channel :=
  Channel.setOutput v (encodeOutput v.row v.row.standby)
    { ch with commanded := v.row.standby, window := none, elapsed := 0, onTime := 0 }

/-- START at a used channel: its commanded value is formed from its source value, and a SWITCH channel starts a window
(R178). -/
def Channel.start (v : ChannelView) (cmd : Nat) (ch : Channel) : Channel :=
  if v.row.isSwitch then Channel.windowStart v { ch with commanded := cmd } else ch.command v cmd

/-! ### The output scheduler -/

def State.channelView (s : State) (c : Fin 24) : ChannelView where
  row := s.outputRow c
  linkOn := s.climate.link == .on
  onBus := s.climate.onBus.any fun t => t.src == .channel c

def State.sourceValue (s : State) : Source → Nat
  | .zoneGrant z => s.sources.zoneGrants[z]
  | .curtainGrant d => s.sources.curtainGrants[d]
  | .screenGrant => s.sources.screenGrant
  | .demand k => s.sources.demands[k]
  | .blower z => s.sources.blowers[z]
  | .freshAir z => s.sources.freshAirs[z]
  | .flap => s.sources.flap

/-- A delivery replaces one source value, in either part state (R164). -/
def State.setSource (s : State) (src : Source) (v : Nat) : State :=
  match src with
  | .zoneGrant z => { s with sources := { s.sources with zoneGrants := s.sources.zoneGrants.set z v } }
  | .curtainGrant d => { s with sources := { s.sources with curtainGrants := s.sources.curtainGrants.set d v } }
  | .screenGrant => { s with sources := { s.sources with screenGrant := v } }
  | .demand k => { s with sources := { s.sources with demands := s.sources.demands.set k v } }
  | .blower z => { s with sources := { s.sources with blowers := s.sources.blowers.set z v } }
  | .freshAir z => { s with sources := { s.sources with freshAirs := s.sources.freshAirs.set z v } }
  | .flap => { s with sources := { s.sources with flap := v } }

/-- The commanded value that a row forms from a source value: the standby value in STANDBY; in RUNNING the source value,
or for a heater function floor(total grant × 1000 / capacity) clamped to 1000, and 0 when the capacity is 0 (R165). -/
def State.commandedFrom (s : State) (row : OutputRow) (v : Nat) : Nat :=
  if s.part = .standby then row.standby
  else if row.isHeater then
    match row.claimant with
    | some c => if s.alloc.claims[c].capacity = 0 then 0 else min 1000 (v * 1000 / s.alloc.claims[c].capacity)
    | none => 0
  else v

/-- Channel c forms its commanded value from the source value v (R165). -/
def State.formChannel (s : State) (c : Fin 24) (v : Nat) : State :=
  s.setChannel c (s.channels[c].command (s.channelView c) (s.commandedFrom (s.outputRow c) v))

/-- Each used channel whose function and target match the source forms its commanded value (R164). -/
def State.formFor (s : State) (src : Source) (v : Nat) : State :=
  forEach 24 (fun c t => if (t.outputRow c).used && (t.outputRow c).source == some src then t.formChannel c v else t) s

/-- Claimant c's total grant, regular and absorption, as the allocator holds it. -/
def State.totalGrant (s : State) (c : Fin 20) : Nat := s.alloc.claims[c].regular + s.alloc.claims[c].absorption

/-- Each used heater-function channel of claimant c forms its commanded value from the grant and the capacity that the
allocator holds at this event (R165). -/
def State.formClaimant (s : State) (c : Fin 20) : State :=
  forEach 24
    (fun i t =>
      if (t.outputRow i).used && (t.outputRow i).isHeater && (t.outputRow i).claimant == some c then
        t.formChannel i (t.totalGrant c)
      else t) s

/-- Whether claimant c has a channel and all its channels are READY (R146). -/
def State.channelsReady (s : State) (c : Fin 20) : Bool :=
  let mine := (List.finRange 24).filter fun i => (s.outputRow i).used && (s.outputRow i).claimant == some c
  !mine.isEmpty && mine.all fun i => !s.channels[i].faulted

/-- A channel's record after a reply or a reply-wait expiry: a change of health of a power function is pushed to the
allocator, and a change to FAULTED sets CHANNEL_FAULTED (R174 to R176). The push names the claimant and carries no health
(notes/assumptions/69.md). -/
def State.setHealth (s : State) (c : Fin 24) (x : Channel) : State :=
  let was := s.channels[c].faulted
  let t := (s.setChannel c x).raiseIf (x.faulted && !was) .channelFaulted
  match (s.outputRow c).claimant with
  | some k => if x.faulted = was then t else t.emit [.capacityEvent k]
  | none => t

/-- A REPLY frame acts on every used channel whose reply identifier it carries (R175). -/
def State.takeReply (s : State) (id : CanId) (data : List Byte) : State :=
  match data with
  | [] => s
  | status :: _ =>
    forEach 24
      (fun c t =>
        if (t.outputRow c).used && (t.outputRow c).replyId == id.toNat then
          t.setHealth c (t.channels[c].reply (status == 0))
        else t) s

/-! ### The meanings -/

/-- SOURCE_DELIVERY (R164). -/
def execSourceDelivery (src : Source) (v : Nat) (s : State) : Host.Outcome State Fault Refusal :=
  .next (((s.take (.sourceDelivery src v)).setSource src v).formFor src v)

/-- WINDOW_EXPIRY (R167). -/
def execWindowExpiry (c : Fin 24) (s : State) : Host.Outcome State Fault Refusal :=
  .next (s.setChannel c (s.channels[c].windowExpiry (s.channelView c)))

/-- ON_END (R167). -/
def execOnEnd (c : Fin 24) (s : State) : Host.Outcome State Fault Refusal :=
  .next (s.setChannel c (s.channels[c].onEnd (s.channelView c)))

/-- SPACING_EXPIRY (R170). -/
def execSpacingExpiry (c : Fin 24) (s : State) : Host.Outcome State Fault Refusal :=
  .next (s.setChannel c (s.channels[c].spacingExpiry (s.channelView c)))

/-- PERIODIC_EXPIRY (R171). -/
def execPeriodicExpiry (c : Fin 24) (s : State) : Host.Outcome State Fault Refusal :=
  .next (s.setChannel c (s.channels[c].periodicExpiry (s.channelView c)))

/-- REPLY_WAIT_EXPIRY (R174). -/
def execReplyWaitExpiry (c : Fin 24) (s : State) : Host.Outcome State Fault Refusal :=
  .next (s.setHealth c s.channels[c].replyWaitExpiry)

/-- REPLY (R175). A frame of more than 8 data bytes is no CAN frame (R1). -/
def execReply (id : CanId) (data : List Byte) (s : State) : Host.Outcome State Fault Refusal :=
  if data.length ≤ 8 then .next (s.takeReply id data) else .refused .notACanFrame

end Sys2Proof.Machine
end

