-- ==== Sys2Proof/Machine/Slots.lean ====
section
/-! DEFINITION. The slot store (section 1.4): arrivals, the two timers of a slot, reads, and the notification of a
slot's consumers. -/

namespace Sys2Proof.Machine

/-- A block that reads a slot receives its value and status together; an unused slot reads as EMPTY with 0 (R22). -/
def State.readSlot (s : State) (i : Fin 64) : Int × SlotStatus :=
  if (s.slotRow i).used then
    (match s.slots[i].status with
      | .fresh => s.slots[i].value
      | .held => s.slots[i].value
      | _ => (s.slotRow i).substitute, s.slots[i].status)
  else (0, .empty)

/-- A slot is usable when it is FRESH or HELD (R22). -/
def usableStatus (st : SlotStatus) : Bool := st == .fresh || st == .held

/-- The value of a slot when it is usable. -/
def State.usableValue (s : State) (i : Fin 64) : Option Int :=
  if usableStatus (s.readSlot i).2 then some (s.readSlot i).1 else none

/-- The usable value of the slot designated for a role; a designation of NONE or of an unused slot reads as EMPTY
(R24). -/
def State.roleValue (s : State) (role : Role) : Option Int := (s.designated role).bind s.usableValue

/-! ### Notifications (R23) -/

/-- The notifications to the power allocator, for the roles that designate the slot. -/
def State.allocatorNotes (s : State) (n : SlotNote) : List Instr :=
  (if s.designated .lineState = some n.slot then [.lineStateNotification n] else [])
    ++ (if s.designated .permittedPower = some n.slot then [.permittedPowerNotification n] else [])
    ++ (if s.designated .surplus = some n.slot then [.surplusNotification n] else [])

/-- The notifications to the door unit of the used DOOR rows that name the slot. -/
def State.doorNotes (s : State) (n : SlotNote) : List Instr :=
  (List.finRange 8).flatMap fun d =>
    let r := s.doorRow d
    if r.used then
      (if slotOfCode r.stateSlot = some n.slot then [.doorStateNotification d n] else [])
        ++ (if slotOfCode r.boardedSlot = some n.slot then [.countSlotNotification d .boarded n] else [])
        ++ (if slotOfCode r.alightedSlot = some n.slot then [.countSlotNotification d .alighted n] else [])
    else []

/-- The notifications of every consumer of the slot. -/
def State.allNotes (s : State) (n : SlotNote) : List Instr :=
  s.doorNotes n ++ (if s.designated .terminusMark = some n.slot then [.terminusMarkNotification n] else [])
    ++ s.allocatorNotes n

/-- The slot store notifies: every consumer, but of a change to HELD the allocator alone (R23). -/
def State.notify (s : State) (n : SlotNote) : State :=
  s.emit (if n.status = .held then s.allocatorNotes n else s.allNotes n)

/-! ### Arrivals and timers (R17, R19 to R21) -/

/-- A scaled field value reaches slot i: it is clamped into the row's range and delivered; at an unused slot it is
discarded (R11, R17, R19, R21). -/
def State.slotArrival (s : State) (i : Fin 64) (scaled : Int) : State :=
  let r := s.slotRow i
  if r.used then
    let v := clamp scaled r.lo r.hi
    let x : Slot :=
      if r.kind = some .count then { s.slots[i] with value := v, status := .fresh, clamped := v != scaled }
      else ⟨v, .fresh, v != scaled, some r.freshPeriod, none⟩
    (s.setSlot i x).notify ⟨i, v, .fresh⟩
  else s

/-- Slot i becomes SUBSTITUTED (R20). -/
def State.substitute (s : State) (i : Fin 64) : State :=
  let sub := (s.slotRow i).substitute
  let x : Slot := { s.slots[i] with value := sub, status := .substituted, fresh := none, hold := none }
  ((s.setSlot i x).raise .slotSubstituted).notify ⟨i, sub, .substituted⟩

/-- The fresh timer of slot i expires: HELD, or SUBSTITUTED at once when the hold period is 0 (R20). -/
def State.freshExpiry (s : State) (i : Fin 64) : State :=
  if s.slots[i].fresh = none then s
  else if (s.slotRow i).holdPeriod = 0 then s.substitute i
  else
    let x : Slot := { s.slots[i] with status := .held, fresh := none, hold := seconds (s.slotRow i).holdPeriod }
    (s.setSlot i x).notify ⟨i, s.slots[i].value, .held⟩

/-- The hold timer of slot i expires (R20). -/
def State.holdExpiry (s : State) (i : Fin 64) : State := if s.slots[i].hold = none then s else s.substitute i

/-! ### The meanings -/

/-- FRESH_TIMER_EXPIRY (R20). -/
def execFreshTimerExpiry (i : Fin 64) (s : State) : Host.Outcome State Fault Refusal := .next (s.freshExpiry i)

/-- HOLD_TIMER_EXPIRY (R20). -/
def execHoldTimerExpiry (i : Fin 64) (s : State) : Host.Outcome State Fault Refusal := .next (s.holdExpiry i)

end Sys2Proof.Machine
end

