-- ==== Sys2Proof/Machine/Load.lean ====
section
/-! DEFINITION. The load counter (chapter 4): section counts, bands with their dwell, the terminus mark and reset. -/

namespace Sys2Proof.Machine

/-- The looked-up band of a count: the lowest-indexed used row whose range holds it, or NONE (R88). -/
def State.bandOf (s : State) (count : Nat) : Option Nat :=
  (List.range 8).find? fun i => (s.bandRow i).used && (s.bandRow i).lower ≤ count && count ≤ (s.bandRow i).upper

/-- The profile of a section's current band: bias, blower floor, fresh-air floor; 0, 0 and 0 for NONE (R90). -/
def State.profile (s : State) (k : Fin 3) : Int × Nat × Nat :=
  match s.loads[k].current with
  | some i => ((s.bandRow i).bias, (s.bandRow i).blowerFloor, (s.bandRow i).freshFloor)
  | none => (0, 0, 0)

/-- The looked-up band applied at once, whatever the dwell (R88). -/
def Load.applyBand (l : Load) (band : Option Nat) : Load :=
  { l with current := band, pendingBand := none, dwell := none }

/-- The lookup after a boarding, an alighting or a capacity clamp, under the band dwell in s (R88). A count event of 0 that
finds a band left pending by a dwell since set to 0 makes it current: the model's choice (notes/assumptions/54.md). -/
def Load.lookup (l : Load) (band : Option Nat) (dwell : Nat) : Load :=
  if band = l.current then { l with pendingBand := none, dwell := none }
  else if dwell = 0 then l.applyBand band
  else if l.pendingBand = some band then l
  else { l with pendingBand := some band, dwell := seconds dwell }

/-- A count event's result before the clamp, clamped to [0, capacity], with its flag (R85). -/
def Load.counted (l : Load) (result : Int) (capacity : Nat) : Load :=
  if (capacity : Int) < result then { l with count := capacity, isOver := true }
  else if result < 0 then { l with count := 0, isUnder := true }
  else { l with count := result.toNat }

/-- A boarding or an alighting at section k changes its count by `change` (R85, R88). -/
def State.countEvent (s : State) (k : Fin 3) (change : Int) : State :=
  let result := s.loads[k].count + change
  let l := s.loads[k].counted result (s.capacityOf k)
  (s.setLoad k (l.lookup (s.bandOf l.count) s.bandDwell)).raiseIf
    ((s.capacityOf k : Int) < result || result < 0) .countSaturated

/-- A terminus reset of a section (R93). -/
def State.terminusReset (s : State) (k : Fin 3) : State :=
  s.setLoad k
    (Load.applyBand { s.loads[k] with count := 0, isOver := false, isUnder := false, armed := false } (s.bandOf 0))

/-- Whether a notification of the terminus-mark slot leaves the mark level HIGH (R91). -/
def marksHigh (n : SlotNote) : Bool := n.status == .fresh && n.value != 0

/-- A notification of the terminus-mark slot: the mark level follows it, and a rise resets every ARMED section (R91,
R93). A HELD slot is not notified to the load counter. -/
def State.terminusMark (s : State) (n : SlotNote) : State :=
  let rise := marksHigh n && !s.markHigh
  forEach 3 (fun k t => if rise && t.loads[k].armed then t.terminusReset k else t) { s with markHigh := marksHigh n }

/-- The terminus arm of a section (R92). -/
def State.setArm (s : State) (armed : Bool) (k : Fin 3) : State := s.setLoad k { s.loads[k] with armed := armed }

/-- The dwell timer of section k expires: the pending target becomes current (R89). -/
def State.dwellExpiry (s : State) (k : Fin 3) : State :=
  match s.loads[k].dwell, s.loads[k].pendingBand with
  | some _, some band => s.setLoad k (s.loads[k].applyBand band)
  | _, _ => s

/-- LOAD_SET in range: count set, flags cleared, band applied at once (R94). -/
def State.loadSet (s : State) (k : Fin 3) (count : Nat) : State :=
  s.setLoad k (Load.applyBand { s.loads[k] with count := count, isOver := false, isUnder := false } (s.bandOf count))

/-! ### The meanings -/

/-- BOARDING (R85). -/
def execBoarding (k : Fin 3) (v : Nat) (s : State) : Host.Outcome State Fault Refusal :=
  .next ((s.take (.boarding k v)).countEvent k v)

/-- ALIGHTING (R85). -/
def execAlighting (k : Fin 3) (v : Nat) (s : State) : Host.Outcome State Fault Refusal :=
  .next ((s.take (.alighting k v)).countEvent k (-(v : Int)))

/-- DWELL_TIMER_EXPIRY (R89). -/
def execDwellTimerExpiry (k : Fin 3) (s : State) : Host.Outcome State Fault Refusal := .next (s.dwellExpiry k)

/-- TERMINUS_MARK_NOTIFICATION (R91). -/
def execTerminusMarkNotification (n : SlotNote) (s : State) : Host.Outcome State Fault Refusal :=
  let s1 := s.take (.terminusMarkNotification n)
  .next (if s1.designated .terminusMark = some n.slot ∧ n.status ≠ .held then s1.terminusMark n else s1)

end Sys2Proof.Machine
end

