-- ==== Sys2Proof/Machine/Overrides.lean ====
section
/-! DEFINITION. The override unit (chapter 6): the override table and its sequence, the panel requests and their
acknowledgements, panel supervision and the panel status frame. -/

namespace Sys2Proof.Machine

/-- The results of requests and their codes (R121, R181, R204). -/
inductive Result where
  | ok
  | format
  | range
  | state
  | incomplete
  | notRunning
  | sequence
  | length
  | halted
  | invalid
  | busy
  | accepted
  | replaced
  | clamped
  | released
  | absent
  | unknown
  | target
  | full
  deriving DecidableEq, Repr

def Result.code : Result → Nat
  | .ok => 0
  | .format => 1
  | .range => 2
  | .state => 3
  | .incomplete => 4
  | .notRunning => 5
  | .sequence => 6
  | .length => 7
  | .halted => 8
  | .invalid => 9
  | .busy => 10
  | .accepted => 11
  | .replaced => 12
  | .clamped => 13
  | .released => 14
  | .absent => 15
  | .unknown => 16
  | .target => 17
  | .full => 18

/-! ### The table (R117, R118, R128) -/

/-- Whether a record has the key (R117). -/
def Record.hasKey (r : Record) (kind : OverrideKind) (target : Target) : Bool := r.kind == kind && r.target == target

/-- The record with a key. -/
def Overrides.find (o : Overrides) (kind : OverrideKind) (target : Target) : Option Record :=
  o.table.find? fun r => r.hasKey kind target

/-- The place of the record with a key, from 1; 0 when there is none. -/
def Overrides.place (o : Overrides) (kind : OverrideKind) (target : Target) : Nat :=
  if (o.find kind target).isSome then o.table.findIdx (fun r => r.hasKey kind target) + 1 else 0

/-- The record that applies to zone z for a kind: the one that names z, else the one that names ALL (R128). -/
def Overrides.applying (o : Overrides) (kind : OverrideKind) (z : Fin 8) : Option Record :=
  (o.find kind (.one z)).or (o.find kind .all)

/-- The sequence advanced by 1; an advance from 255 gives 0 (R118). -/
def Overrides.nextSeq (o : Overrides) : Nat := (o.seq + 1) % 256

/-! ### Notices of entry and departure (R129, R130) -/

/-- The notices that the entry of a record makes. -/
def entryNotices (kind : OverrideKind) (target : Target) : List Instr :=
  match kind with
  | .curtainQuiet => [.maskChange target true false]
  | .screenMax => [.screenMaxEntryNotice, .maxCountNotice true]
  | _ => []

/-- The notices that the departure of a record makes (R129, R130). -/
def departureNotices (r : Record) : List Instr :=
  match r.kind with
  | .curtainQuiet => [.maskChange r.target false false]
  | .screenMax => [.screenMaxDepartureNotice, .maxCountNotice false]
  | _ => []

/-- Every record that satisfies `gone` leaves the table: the sequence advances once if there is one, and each departure
is notified (R118, R132). -/
def State.removeRecords (s : State) (gone : Record → Bool) : State :=
  if s.overrides.table.any gone then
    State.emit
      { s with
        overrides :=
          { s.overrides with
            table := s.overrides.table.filter (fun r => !gone r)
            seq := s.overrides.nextSeq } }
      ((s.overrides.table.filter gone).flatMap departureNotices)
  else s

/-- The notices by which the override unit tells the other blocks of its records (R129, R130). -/
def isOverrideNotice : Instr → Bool
  | .maskChange _ _ _ => true
  | .screenMaxEntryNotice => true
  | .screenMaxDepartureNotice => true
  | .maxCountNotice _ => true
  | _ => false

/-- STOP empties the table, advancing the sequence once when it held a record, and stops the status timer. Its notices
reach each block alongside that block's own STOP: every override mask and the group mask clear without a trigger, and
both MAX counts become 0 in the same STOP; a notice of an earlier entry or departure that is still in flight is taken with
them (R63, R80, R115, R136, R159; notes/assumptions/53.md). -/
def State.emptyTable (s : State) : State :=
  { s with
    overrides :=
      { s.overrides with
        table := [], seq := if s.overrides.table = [] then s.overrides.seq else s.overrides.nextSeq, statusTimer := none }
    doors := Vector.ofFn fun d : Fin 8 => { s.doors[d] with overrideMask := false }
    groupMask := false
    screen := { s.screen with maxCount := 0 }
    alloc := { s.alloc with maxCount := 0 }
    inFlight := s.inFlight.filter fun e => !isOverrideNotice e }

/-! ### SET and RELEASE (R122 to R125) -/

/-- What a request leaves to be reported: the result, the value and duration as stored, the record's sequence number
and place; all 0 but for a SET that added or replaced a record (R121). -/
structure Report where
  result : Result
  value : Int
  duration : Nat
  seq : Nat
  place : Nat
  deriving DecidableEq, Repr

/-- A report that carries the result alone. -/
def Report.only (r : Result) : Report := ⟨r, 0, 0, 0, 0⟩

/-- The value stored (R123). -/
def storedValue (kind : OverrideKind) (v : Int) : Int :=
  match kind with
  | .setpointOffset => clamp v (-30) 30
  | .blowerBoost => clamp v 0 500
  | _ => 0

/-- The duration stored in min; 0 is UNTIMED (R123). -/
def storedDuration (kind : OverrideKind) (d : Nat) : Nat :=
  if kind = .screenMax then (if d = 0 then 10 else min d 15) else min d 240

/-- Whether a value or duration was clamped (R123). -/
def isClamped (kind : OverrideKind) (v : Int) (d : Nat) : Bool :=
  (match kind with
    | .setpointOffset => storedValue kind v != v
    | .blowerBoost => storedValue kind v != v
    | _ => false)
  || (if kind = .screenMax then 15 < d else 240 < d)

/-- A duration of d min as a remaining time; 0 gives UNTIMED (R123). -/
def remainingOf (d : Nat) : Timer := if d = 0 then none else some (60000 * d)

/-- A SET whose checks have passed is entered by its key (R123, R124). -/
def State.enterRecord (s : State) (kind : OverrideKind) (target : Target) (v : Int) (d : Nat) (origin : Origin) :
    State × Report :=
  let o := s.overrides
  let seq := o.nextSeq
  let rec' : Record := ⟨kind, target, storedValue kind v, origin, remainingOf (storedDuration kind d), seq⟩
  let report (r : Result) (place : Nat) : Report :=
    ⟨if isClamped kind v d then .clamped else r, storedValue kind v, storedDuration kind d, seq, place⟩
  if (o.find kind target).isSome then
    ({ s with
        overrides :=
          { o with
            table := o.table.map fun r => if r.hasKey kind target then rec' else r
            seq := seq } },
      report .replaced (o.place kind target))
  else if o.table.length < 16 then
    (State.emit { s with overrides := { o with table := o.table ++ [rec'], seq := seq } } (entryNotices kind target),
      report .accepted (o.table.length + 1))
  else (s, Report.only .full)

/-- A SET by the checks of R122, with the kind and target as the request's bytes. -/
def State.setOverride (s : State) (kind target : Byte) (v : BitVec 16) (d : Byte) (origin : Origin) : State × Report :=
  if s.part = .standby then (s, Report.only .notRunning)
  else
    match kindOfCode kind.toNat with
    | none => (s, Report.only .unknown)
    | some k =>
      match targetOfCode target.toNat with
      | none => (s, Report.only .target)
      | some t =>
        if s.targetUsed k t then s.enterRecord k t v.toInt d.toNat origin else (s, Report.only .target)

/-- A RELEASE (R125). -/
def State.releaseOverride (s : State) (kind target : Byte) : State × Report :=
  if s.part = .standby then (s, Report.only .notRunning)
  else
    match kindOfCode kind.toNat with
    | none => (s, Report.only .unknown)
    | some k =>
      match targetOfCode target.toNat with
      | none => (s, Report.only .target)
      | some t =>
        if (s.overrides.find k t).isSome then
          (s.removeRecords (fun r => r.hasKey k t), Report.only .released)
        else (s, Report.only .absent)

/-! ### Frames of the panel (R5, R121, R133, R208) -/

/-- An identifier of a row as a CAN identifier. -/
def canId (n : Nat) : CanId := BitVec.ofNat 11 n

/-- A panel acknowledgement is offered: discarded while the queue holds 4 frames and while the port is in BUS_OFF (R3,
R5). -/
def State.offerAck (s : State) (f : Frame) : State :=
  if s.vehicle.link = .on ∧ s.acks.length < 4 then { s with acks := s.acks ++ [f] } else s

/-- The value as stored in the acknowledgement's signed 10 bits (R208). -/
def ackValue (v : Int) : Nat := (v % 1024).toNat

/-- The acknowledgement of a panel request with request code and tag; the kind and target bytes are reported as they
name a kind or target, and as 0 when they do not (R121, R208). -/
def State.ackFrame (s : State) (code : Nat) (tag : Byte) (kind target : Byte) (r : Report) : Frame :=
  let targetBits := match targetOfCode target.toNat with
    | some (.one n) => n.val
    | some .all => 8
    | none => 0
  let kindBits := match kindOfCode kind.toNat with
    | some k => kindCode k
    | none => 0
  ⟨canId s.sys.panelAckId,
    [byteOf (code + 8 * r.result.code : Nat), tag, byteOf (targetBits + 16 * kindBits : Nat)]
      ++ le16 (ackValue r.value + 1024 * r.place : Nat)
      ++ [byteOf r.duration, byteOf r.seq, byteOf s.overrides.seq]⟩

/-- The acknowledgement of a request that names no kind and no target: HEARTBEAT, TRIP_END and FORMAT (R121). -/
def State.plainAck (s : State) (code : Nat) (tag : Byte) (r : Result) : Frame :=
  ⟨canId s.sys.panelAckId,
    [byteOf (code + 8 * r.code : Nat), tag, 0, 0, 0, 0, 0, byteOf s.overrides.seq]⟩

/-- A well-formed panel request restarts the panel timer and makes the panel PRESENT (R119, R131). -/
def State.panelAlive (s : State) : State :=
  { s with overrides := { s.overrides with present := true, panelTimer := seconds s.sys.panelTimeout } }

/-- A panel SET (R122): with no SYSTEM row used every panel frame is discarded (R119). -/
def State.panelSet (s : State) (tag kind target : Byte) (v : BitVec 16) (d : Byte) : State :=
  if s.sys.used then
    let r := s.panelAlive.setOverride kind target v d .panel
    r.1.offerAck (r.1.ackFrame 1 tag kind target r.2)
  else s

/-- A panel RELEASE (R125). -/
def State.panelRelease (s : State) (tag kind target : Byte) : State :=
  if s.sys.used then
    let r := s.panelAlive.releaseOverride kind target
    r.1.offerAck (r.1.ackFrame 2 tag kind target r.2)
  else s

/-- A panel HEARTBEAT (R126). -/
def State.panelHeartbeat (s : State) (tag : Byte) : State :=
  if s.sys.used then s.panelAlive.offerAck (s.panelAlive.plainAck 3 tag .ok) else s

/-- The terminus reset of all three sections armed (R92). -/
def State.armAll (s : State) : State := forEach 3 (fun k u => u.setArm true k) s

/-- A panel TRIP_END: in RUNNING it arms the terminus reset of all three sections (R126). -/
def State.panelTripEnd (s : State) (tag : Byte) : State :=
  if s.sys.used then
    let t := s.panelAlive
    if t.part = .running then
      t.armAll.offerAck (t.armAll.plainAck 4 tag .ok)
    else t.offerAck (t.plainAck 4 tag .notRunning)
  else s

/-- A PANEL frame handed to the override unit, sorted by its identifier, data length and request code (R119, R120). -/
def State.panelFrame (s : State) (f : Frame) : State :=
  if s.sys.used ∧ f.id.toNat = s.sys.panelRequestId then
    match f.data with
    | [] => s
    | [_] => s
    | code :: tag :: rest =>
      match code.toNat, rest with
      | 1, kind :: target :: lo :: hi :: d :: _ => s.panelSet tag kind target (hi ++ lo) d
      | 1, _ => s.offerAck (s.plainAck 1 tag .format)
      | 2, kind :: target :: _ => s.panelRelease tag kind target
      | 2, _ => s.offerAck (s.plainAck 2 tag .format)
      | 3, _ => s.panelHeartbeat tag
      | 4, _ => s.panelTripEnd tag
      | _, _ => s.offerAck (s.plainAck 0 tag .format)
  else s

/-! ### Expiries and the status frame (R127, R131 to R133) -/

/-- The remaining time of a timed record reaches 0 (R127); remaining times run in RUNNING alone. -/
def State.recordExpiry (s : State) (kind : OverrideKind) (target : Target) : State :=
  if s.part = .running then s.removeRecords (fun r => r.hasKey kind target && r.remaining.isSome) else s

/-- The panel timer expires: a PRESENT panel becomes LOST, its PANEL records other than SCREEN_MAX are removed, and
PANEL_LOST is set (R131, R132). -/
def State.panelExpiry (s : State) : State :=
  if s.overrides.panelTimer = none then s
  else
    let t : State := { s with overrides := { s.overrides with present := false, panelTimer := none } }
    if s.overrides.present then
      (t.removeRecords (fun r => r.origin == .panel && r.kind != .screenMax)).raise .panelLost
    else t

/-- A panel status frame is offered: it replaces an earlier one that still waits, and a port in BUS_OFF discards it (R3,
R5). An earlier one that is on the bus finishes there, held by no source (notes/assumptions/12.md). -/
def State.offerStatus (s : State) (f : Frame) : State :=
  if s.vehicle.link = .on then
    let bus := s.vehicle.onBus.map fun t => if t.src = .panelStatus then { t with src := .detached } else t
    { s with panelStatus := some f, vehicle := { s.vehicle with onBus := bus } }
  else s

/-- The code of a zone mode (R204). -/
def ZoneMode.code : ZoneMode → Nat
  | .off => 0
  | .vent => 1
  | .heat => 2
  | .cool => 3

/-- The largest remaining time among the SCREEN_MAX records, in whole seconds floored; 0 for NONE (R133).
A record with less than 1 s left counts as 0, the code of NONE: the model's choice (notes/assumptions/49.md). -/
def Overrides.maxRemaining (o : Overrides) : Nat :=
  (o.table.filter fun r => r.kind == .screenMax).foldl (fun m r => max m r.remaining.wholeSeconds) 0

/-- The kinds present, bit (kind code) for each kind (R208). -/
def Overrides.kindsPresent (o : Overrides) : Nat :=
  ([.setpointOffset, .blowerBoost, .recirculate, .screenMax, .curtainQuiet].map fun k =>
    flagBit (o.table.any fun r => r.kind == k) (2 ^ kindCode k)).sum

/-- The panel status frame (R133, R208). -/
def State.statusFrame (s : State) : Frame :=
  let o := s.overrides
  let cabMode := match s.cabZone with
    | some z => s.zones[z].published.mode.code
    | none => 7
  let cabTz : Int := match s.cabZone with
    | some z => s.zones[z].published.tz
    | none => 0
  ⟨canId s.sys.panelStatusId,
    [byteOf (flagBit o.present 1 + o.kindsPresent : Nat), byteOf (o.table.length + 32 * cabMode : Nat), byteOf o.seq]
      ++ le16 o.maxRemaining ++ [byteOf s.screen.stage.code] ++ le16 cabTz⟩

/-- The status timer expires: the frame is built and offered while a SYSTEM row is used, and the timer restarts (R133). -/
def State.statusExpiry (s : State) : State :=
  if s.overrides.statusTimer = none then s
  else
    let t : State := { s with overrides := { s.overrides with statusTimer := some 1000 } }
    if s.sys.used then t.offerStatus s.statusFrame else t

/-! ### The meanings -/

/-- SET (R122). -/
def execSet (tag kind target : Byte) (v : BitVec 16) (d : Byte) (s : State) : Host.Outcome State Fault Refusal :=
  .next (s.panelSet tag kind target v d)

/-- RELEASE (R125). -/
def execRelease (tag kind target : Byte) (s : State) : Host.Outcome State Fault Refusal :=
  .next (s.panelRelease tag kind target)

/-- HEARTBEAT (R126). -/
def execHeartbeat (tag : Byte) (s : State) : Host.Outcome State Fault Refusal := .next (s.panelHeartbeat tag)

/-- TRIP_END (R126). -/
def execTripEnd (tag : Byte) (s : State) : Host.Outcome State Fault Refusal := .next (s.panelTripEnd tag)

/-- RECORD_EXPIRY (R127). -/
def execRecordExpiry (kind : OverrideKind) (target : Target) (s : State) : Host.Outcome State Fault Refusal :=
  .next (s.recordExpiry kind target)

/-- PANEL_TIMER_EXPIRY (R131). -/
def execPanelTimerExpiry (s : State) : Host.Outcome State Fault Refusal := .next s.panelExpiry

/-- STATUS_TIMER_EXPIRY (R133). -/
def execStatusTimerExpiry (s : State) : Host.Outcome State Fault Refusal := .next s.statusExpiry

end Sys2Proof.Machine
end

