-- ==== Sys2Proof/Machine/Ports.lean ====
section
/-! DEFINITION. The port controllers and their transmit arbiters (section 1.1): forward copies, the choice of the next
frame, the three ends of a transmission, and BUS_OFF. -/

namespace Sys2Proof.Machine

/-! ### Forward copies (R3, R4) -/

/-- A forward copy is offered to port p: it joins the queue, or it is dropped and counted, and FORWARD_DROPPED is set. -/
def State.offerForward (s : State) (p : PortName) (f : Frame) : State :=
  let x := s.port p
  if x.link = .on ∧ x.forwards.length < 8 then s.setPort p { x with forwards := x.forwards ++ [f] }
  else (s.setPort p { x with drops := min 65535 (x.drops + 1) }).raise .forwardDropped

/-! ### The arbiters (R5, R6) -/

/-- The first non-empty source of the vehicle port, in the order of R5. -/
def State.vehicleChoice (s : State) : Option Tx :=
  match s.responses, s.acks, s.panelStatus, s.vehicle.forwards with
  | f :: _, _, _, _ => some ⟨.response, f, 0⟩
  | [], f :: _, _, _ => some ⟨.ack, f, 0⟩
  | [], [], some f, _ => some ⟨.panelStatus, f, 0⟩
  | [], [], none, f :: _ => some ⟨.forward, f, 0⟩
  | [], [], none, [] => none

/-- The command frame of a channel row that carries an output (R209). -/
def commandFrame (row : OutputRow) (output : Nat) : Frame :=
  ⟨canId row.commandId, if row.encoding = some .permille then le16 output else [byteOf output]⟩

/-- The frame of channel c as its transmission begins: it carries the channel's output as it stands (R163). -/
def State.channelTx (s : State) (c : Fin 24) : Tx :=
  ⟨.channel c, commandFrame (s.outputRow c) s.channels[c].output, s.channels[c].output⟩

/-- The OFFERED channel of the lowest level, the lower index among equals (R6). -/
def State.bestChannel (s : State) : Option (Fin 24) :=
  (List.finRange 24).foldl
    (fun best c =>
      if s.channels[c].frame = .offered then
        match best with
        | none => some c
        | some b => if (s.outputRow c).level < (s.outputRow b).level then some c else best
      else best) none

/-- The climate port's choice; a channel goes before the forward queue at an equal level (R6). -/
def State.climateChoice (s : State) : Option Tx :=
  match s.bestChannel, s.climate.forwards with
  | some c, [] => some (s.channelTx c)
  | some c, f :: _ => if s.forwardLevel < (s.outputRow c).level then some ⟨.forward, f, 0⟩ else some (s.channelTx c)
  | none, f :: _ => some ⟨.forward, f, 0⟩
  | none, [] => none

/-- The frame that the arbiter of port p chooses. -/
def State.choice (s : State) : PortName → Option Tx
  | .vehicle => s.vehicleChoice
  | .climate => s.climateChoice

/-- The port is free: with no frame on the bus, a port in ON begins the chosen transmission (R5, R6). -/
def State.transmitStart (s : State) (p : PortName) : State :=
  if (s.port p).link = .on ∧ (s.port p).onBus = none then s.setPort p { s.port p with onBus := s.choice p } else s

/-! ### The ends of a transmission (R2, R7, R172) -/

/-- The frame on port p's bus left its source, and the offering block is told (R7). -/
def State.leaveSource (s : State) (p : PortName) (t : Tx) : State :=
  match t.src with
  | .response => { s with responses := s.responses.tail }
  | .ack => { s with acks := s.acks.tail }
  | .panelStatus => { s with panelStatus := none }
  | .forward => s.setPort p { s.port p with forwards := (s.port p).forwards.tail }
  | .channel c => s.setChannel c (s.channels[c].completed (s.channelView c) t.carried)
  | .detached => s
  | .orphan => s

/-- The transmission of port p completes without error. -/
def State.transmitComplete (s : State) (p : PortName) : State :=
  match (s.port p).onBus with
  | none => s
  | some t =>
    let x := s.port p
    (s.setPort p { x with onBus := none, errors := if t.src = .orphan then x.errors else x.errors - 1 }).leaveSource p t

/-- The transmission of port p loses arbitration: the frame stays at its place in its source. -/
def State.arbitrationLost (s : State) (p : PortName) : State := s.setPort p { s.port p with onBus := none }

/-- What port p discards of its own sources at an entry to BUS_OFF, its forward queue apart (R2). -/
def State.discardOwn (s : State) : PortName → State
  | .vehicle => { s with responses := [], acks := [], panelStatus := none }
  | .climate => forEach 24 (fun c t => t.setChannel c t.channels[c].discarded) s

/-- The entry to BUS_OFF (R2, R3). -/
def State.enterBusOff (s : State) (p : PortName) : State :=
  (s.setPort p { s.port p with link := .busOff, forwards := [], busOff := some 500, onBus := none }).discardOwn p

/-- The transmission of port p ends in a bus error. -/
def State.transmitError (s : State) (p : PortName) : State :=
  match (s.port p).onBus with
  | none => s
  | some t =>
    let x := s.port p
    if t.src = .orphan then s.setPort p { x with onBus := none }
    else if 255 < x.errors + 8 then s.enterBusOff p
    else s.setPort p { x with onBus := none, errors := x.errors + 8 }

/-- The 500 ms of BUS_OFF end (R3). -/
def State.busOffExpiry (s : State) (p : PortName) : State :=
  if (s.port p).busOff = none then s else s.setPort p { s.port p with link := .on, errors := 0, busOff := none }

/-! ### The meanings -/

/-- TRANSMIT_START (R5, R6). -/
def execTransmitStart (p : PortName) (s : State) : Host.Outcome State Fault Refusal := .next (s.transmitStart p)

/-- TRANSMIT_COMPLETE (R7). -/
def execTransmitComplete (p : PortName) (s : State) : Host.Outcome State Fault Refusal := .next (s.transmitComplete p)

/-- ARBITRATION_LOST (R7). -/
def execArbitrationLost (p : PortName) (s : State) : Host.Outcome State Fault Refusal := .next (s.arbitrationLost p)

/-- TRANSMIT_ERROR (R2, R7). -/
def execTransmitError (p : PortName) (s : State) : Host.Outcome State Fault Refusal := .next (s.transmitError p)

/-- BUS_OFF_EXPIRY (R3). -/
def execBusOffExpiry (p : PortName) (s : State) : Host.Outcome State Fault Refusal := .next (s.busOffExpiry p)

end Sys2Proof.Machine
end

