-- ==== Sys2Proof/Machine/Allocator.lean ====
section
/-! DEFINITION. The power allocator (chapter 7): line state and budget, the ramp of Beff, capacities, the levelled
share, the absorption pool, and the delivery of grants. -/

namespace Sys2Proof.Machine

/-! ### Capacities and levels (R146, R147) -/

/-- The largest power the claimant's owner can use, its channels apart (R146). -/
def State.ownCapacity (s : State) (c : Fin 20) : Nat :=
  match claimantOf c with
  | .heater z => if (s.zoneRow z).used then (s.zoneRow z).heater else 0
  | .curtain d =>
    if s.doors[d].burst = .burst then (match s.doors[d].working with
      | some w => w.curtain
      | none => 0) else 0
  | .cooling k => if (s.sectRow k).used then (s.sectRow k).rated else 0
  | .screen => (s.stageRow s.screen.stage).request

/-- The capacity of a claimant: 0 while its channels are absent or any of them is FAULTED (R146). -/
def State.capacityNow (s : State) (c : Fin 20) : Nat := if s.channelsReady c then s.ownCapacity c else 0

/-- The effective level: claimant 19 has level 0 while the MAX count is above 0 (R147). -/
def State.effectiveLevel (s : State) (c : Fin 20) : Nat :=
  if c = screenClaim ∧ 0 < s.alloc.maxCount then 0 else (s.claimRow c).level

/-- The effective request: the posted request limited to the capacity (R149). -/
def Claim.effective (k : Claim) : Nat := min k.posted k.capacity

/-! ### The share (R149 to R151) -/

/-- What one claimant brings to a recomputation: its effective level, minimum and effective request, and whether it is the
windscreen heater. -/
structure Share where
  level : Nat
  minimum : Nat
  request : Nat
  windscreen : Bool
  deriving DecidableEq, Repr

/-- The windscreen heater at effective level 0, whose share is formed before every other claimant's (R147, R110; how R149 and
R150 read beside it is notes/assumptions/65.md). -/
def Share.first (c : Share) : Bool := c.windscreen && c.level == 0

/-- Units handed out one at a time in ascending index, passing over whoever already has its need (R150). Each place
holds a floored share and its need; one round suffices, as R150 shows. -/
def handOut : Nat → List (Nat × Nat) → List Nat
  | _, [] => []
  | left, (q, need) :: rest =>
    if 0 < left ∧ q < need then (q + 1) :: handOut (left - 1) rest else q :: handOut left rest

/-- The shares of `avail` among needs: each need in full when they fit, else floored in proportion with the lost units
handed out (R150, R153). -/
def shareOut (avail : Nat) (needs : List Nat) : List Nat :=
  let total := needs.sum
  if total ≤ avail then needs
  else
    let floored := needs.map fun q => q * avail / total
    handOut (avail - floored.sum) (floored.zip needs)

/-- The needs of the claimants that `p` picks: their effective requests, 0 for every other claimant (R149). -/
def needsOf (p : Share → Bool) (cs : List Share) : List Nat := cs.map fun c => if p c then c.request else 0

/-- The shares of one level out of the remaining budget (R150). At level 0 the windscreen heater's share is formed first, and
the other claimants of the level share what it leaves, before any share is refused (R147; notes/assumptions/65.md). -/
def levelShares (level remaining : Nat) (cs : List Share) : List Nat :=
  let before := shareOut remaining (needsOf (fun c => c.level == level && c.first) cs)
  let others := shareOut (remaining - before.sum) (needsOf (fun c => c.level == level && !c.first) cs)
  List.zipWith (· + ·) before others

/-- What a level's claimants receive: a share below the claimant's minimum is refused, and no other claimant of the level
takes it (R151). -/
def receive (level : Nat) (cs : List Share) (shares : List Nat) : List Nat :=
  List.zipWith (fun c q => if c.level = level ∧ c.minimum ≤ q then q else 0) cs shares

/-- The regular grants that the levels listed give out of the remaining budget, in order: it decreases by what a level's
claimants received, so refused power carries on to the next level (R149, R151). -/
def serveLevels (cs : List Share) : List Nat → Nat → List Nat
  | [], _ => cs.map fun _ => 0
  | level :: rest, remaining =>
    let got := receive level cs (levelShares level remaining cs)
    List.zipWith (· + ·) got (serveLevels cs rest (remaining - got.sum))

/-- The regular grants out of a budget: levels 0 to 14 in order, nothing at level 15 (R149). -/
def regularGrants (beff : Nat) (cs : List Share) : List Nat := serveLevels cs (List.range 15) beff

/-- The shares that the 20 claimants bring to a recomputation. -/
def State.shares (s : State) : List Share :=
  (List.finRange 20).map fun c => ⟨s.effectiveLevel c, (s.claimRow c).minimum, s.alloc.claims[c].effective, c == screenClaim⟩

/-- A zone heater is eligible for absorption by its published status (R153). -/
def Published.eligible (p : Published) : Bool := (p.mode == .heat || p.mode == .vent) && !p.blind && p.tz < p.smax

/-- The headrooms that share the pool: capacity less regular grant for an eligible zone heater, 0 for every other
claimant (R153). -/
def State.headrooms (s : State) (regular : List Nat) : List Nat :=
  (List.finRange 20).map fun c =>
    match claimantOf c with
    | .heater z => if s.zones[z].published.eligible then s.alloc.claims[c].capacity - regular.getD c 0 else 0
    | _ => 0

/-! ### Deliveries (R154) -/

/-- The deliveries of claimant c whose record was `old` and is now `new`. -/
def deliveriesOf (c : Fin 20) (old new : Claim) : List Instr :=
  let total := new.regular + new.absorption
  let totalChanged := old.regular + old.absorption != total
  let regularChanged := old.regular != new.regular
  match claimantOf c with
  | .heater z => if totalChanged then [.sourceDelivery (.zoneGrant z) total] else []
  | .curtain d => if totalChanged then [.sourceDelivery (.curtainGrant d) total] else []
  | .cooling k => if regularChanged then [.coolingGrantDelivery k new.regular] else []
  | .screen =>
    (if regularChanged then [.screenGrantDelivery new.regular] else [])
      ++ (if totalChanged then [.sourceDelivery .screenGrant total] else [])

/-- The claimant records replaced, and each grant that changed delivered to its owner. -/
def State.deliver (s : State) (claims : Vector Claim 20) : State :=
  State.emit { s with alloc := { s.alloc with claims := claims } }
    ((List.finRange 20).flatMap fun c => deliveriesOf c s.alloc.claims[c] claims[c])

/-- The claimant records with the given grants. -/
def withGrants (claims : Vector Claim 20) (regular absorption : List Nat) : Vector Claim 20 :=
  Vector.ofFn fun c : Fin 20 =>
    { claims[c] with regular := regular.getD c 0, absorption := absorption.getD c 0 }

/-- A recomputation while the part is RUNNING: every grant from scratch, then the deliveries; one caused by a fall of
Beff that lowers a regular grant sets BUDGET_SHED. In STANDBY no recomputation is made (R148 to R155). -/
def State.recompute (s : State) (fall : Bool) : State :=
  if s.part = .running then
    let regular := regularGrants s.alloc.beff s.shares
    let claims := withGrants s.alloc.claims regular (shareOut s.alloc.pool (s.headrooms regular))
    let lowered := (List.finRange 20).any fun c => claims[c].regular < s.alloc.claims[c].regular
    (s.deliver claims).raiseIf (fall && lowered) .budgetShed
  else s

/-- Every grant becomes 0, and each that was not 0 is delivered (R159, STOP). -/
def State.clearGrants (s : State) : State := s.deliver (withGrants s.alloc.claims [] [])

/-! ### Capacity events (R146, R165) -/

/-- The capacity of claimant c brought up to date; when it changes, the claimant's heater channels form again (R165). -/
def State.updateCapacity (s : State) (c : Fin 20) : State :=
  if s.capacityNow c = s.alloc.claims[c].capacity then s
  else (s.setClaim c { s.alloc.claims[c] with capacity := s.capacityNow c }).formClaimant c

/-- Whether a capacity of the list is out of date. -/
def State.capacityChanges (s : State) (cs : List (Fin 20)) : Bool :=
  cs.any fun c => s.capacityNow c != s.alloc.claims[c].capacity

/-- The capacities of the list brought up to date. -/
def State.updateCapacities (s : State) (cs : List (Fin 20)) : State := cs.foldl State.updateCapacity s

/-- The same, with a recomputation when one of them changed or `also` holds: one for all the changes of the list, the
model's choice (notes/assumptions/55.md). -/
def State.refreshCapacities (s : State) (cs : List (Fin 20)) (also : Bool) : State :=
  let t := s.updateCapacities cs
  if s.capacityChanges cs || also then t.recompute false else t

/-! ### Target budget, Beff and the pool (R141 to R143, R152) -/

/-- The target budget of the present line state and permitted power (R141). -/
def State.targetNow (s : State) : Nat :=
  match s.alloc.permitted with
  | some p => min (s.budgetRow s.alloc.line).base p
  | none => (s.budgetRow s.alloc.line).base

/-- The target budget recomputed, and its action on Beff and the ramp timer (R141, R142). -/
def State.retarget (s : State) : State :=
  let t := s.targetNow
  if t < s.alloc.beff then
    State.recompute { s with alloc := { s.alloc with target := t, beff := t, ramp := none } } true
  else if t = s.alloc.beff then { s with alloc := { s.alloc with target := t, ramp := none } }
  else { s with alloc := { s.alloc with target := t, ramp := some (s.alloc.ramp.getD 1000) } }

/-- The absorption pool: min(surplus, absorption cap of row 0) while WIRED with a surplus, else 0 (R152). -/
def State.poolNow (s : State) : Nat :=
  if s.alloc.line = .wired then
    (match s.alloc.surplus with
      | some v => min v (s.budgetRow .wired).cap
      | none => 0)
  else 0

/-- The pool recomputed; a change is a recomputation trigger (R152). -/
def State.repool (s : State) : State :=
  if s.poolNow = s.alloc.pool then s
  else State.recompute { s with alloc := { s.alloc with pool := s.poolNow } } false

/-- The line state that a notification of the line-state slot gives (R140). -/
def lineOf (note : SlotNote) : LineState :=
  if note.status = .fresh then
    (if note.value = 0 then .wired else if note.value = 1 then .dewired else if note.value = 2 then .shore else .unknown)
  else .unknown

/-- A change of line state recomputes the target budget and the pool (R140). Of the two recomputations that a fall of
Beff and a change of the pool cause, the fall's is taken first, with the old pool: the model's choice, since R155 leaves
the order open (notes/assumptions/50.md). -/
def State.setLine (s : State) (l : LineState) : State :=
  if l = s.alloc.line then s else (State.retarget { s with alloc := { s.alloc with line := l } }).repool

/-- The permitted power after a notification of its slot (R141). -/
def permittedAfter (before : Option Nat) (note : SlotNote) : Option Nat :=
  match note.status with
  | .fresh => some note.value.toNat
  | .held => before
  | _ => none

/-- The surplus after a notification of its slot (R152). -/
def surplusAfter (note : SlotNote) : Option Nat := if note.status = .fresh then some note.value.toNat else none

/-- The expiry of the ramp timer (R143). -/
def State.rampStep (s : State) : State :=
  if s.alloc.ramp = none then s
  else
    let b := min s.alloc.target (s.alloc.beff + s.rampRate)
    let t : State :=
      { s with alloc := { s.alloc with beff := b, ramp := if b < s.alloc.target then seconds 1 else none } }
    if b = s.alloc.beff then t else t.recompute false

/-! ### The meanings -/

/-- CLAIM_POSTING (R145): the request is recorded; the capacity of a curtain or of the windscreen heater is updated
together with its posting (R146), from the burst state or the stage as it stands when the posting is taken
(notes/assumptions/69.md). -/
def execClaimPosting (c : Fin 20) (q : Nat) (s : State) : Host.Outcome State Fault Refusal :=
  let s1 := s.take (.claimPosting c q)
  let s2 := s1.setClaim c { s1.alloc.claims[c] with posted := q }
  let mine := if 8 ≤ c.val ∧ c.val < 16 ∨ c = screenClaim then [c] else []
  .next (s2.refreshCapacities mine (q != s1.alloc.claims[c].posted))

/-- CAPACITY_EVENT (R146, R176). The push carries no health: the capacity follows the health of the channels as it stands
when the push is taken, the model's choice (notes/assumptions/69.md). -/
def execCapacityEvent (c : Fin 20) (s : State) : Host.Outcome State Fault Refusal :=
  .next ((s.take (.capacityEvent c)).refreshCapacities [c] false)

/-- STATUS_PUBLICATION (R148, R153). The published status stands at the zone; the event is a recomputation trigger. -/
def execStatusPublication (z : Fin 8) (s : State) : Host.Outcome State Fault Refusal :=
  .next ((s.take (.statusPublication z)).recompute false)

/-- LINE_STATE_NOTIFICATION (R140). A notification that a SLOT commit has overtaken is acted on as it stands: the model's
choice (notes/assumptions/56.md). -/
def execLineStateNotification (note : SlotNote) (s : State) : Host.Outcome State Fault Refusal :=
  let s1 := s.take (.lineStateNotification note)
  .next (if s1.designated .lineState = some note.slot then s1.setLine (lineOf note) else s1)

/-- PERMITTED_POWER_NOTIFICATION (R141). -/
def execPermittedPowerNotification (note : SlotNote) (s : State) : Host.Outcome State Fault Refusal :=
  let s1 := s.take (.permittedPowerNotification note)
  .next
    (if s1.designated .permittedPower = some note.slot then
      State.retarget { s1 with alloc := { s1.alloc with permitted := permittedAfter s1.alloc.permitted note } }
    else s1)

/-- SURPLUS_NOTIFICATION (R152). -/
def execSurplusNotification (note : SlotNote) (s : State) : Host.Outcome State Fault Refusal :=
  let s1 := s.take (.surplusNotification note)
  .next
    (if s1.designated .surplus = some note.slot then
      State.repool { s1 with alloc := { s1.alloc with surplus := surplusAfter note } }
    else s1)

/-- RAMP_EXPIRY (R143). -/
def execRampExpiry (s : State) : Host.Outcome State Fault Refusal := .next s.rampStep

/-- MAX_COUNT_NOTICE (R147). A departure at a count of 0 leaves it at 0 and an entry at 16 counts on: the model's choice
(notes/assumptions/48.md). -/
def execMaxCountNotice (entered : Bool) (s : State) : Host.Outcome State Fault Refusal :=
  let s1 := s.take (.maxCountNotice entered)
  let n := if entered then s1.alloc.maxCount + 1 else s1.alloc.maxCount - 1
  let s2 : State := { s1 with alloc := { s1.alloc with maxCount := n } }
  .next
    (if s1.effectiveLevel screenClaim = s2.effectiveLevel screenClaim then s2 else s2.recompute false)

end Sys2Proof.Machine
end

