-- ==== Sys2Proof/Machine/Cooling.lean ====
section
/-! DEFINITION. The section cooling units (section 2.4). A unit's transitions are functions of its record and of what it
reads outside it (`CoolView`), and give the hand-overs it makes. -/

namespace Sys2Proof.Machine

/-- What a cooling unit's transitions read outside its record: its section, its request in power (R43), its claimant
minimum and the settings of its section row. -/
structure CoolView where
  sec : Fin 3
  power : Nat
  minimum : Nat
  rated : Nat
  minOn : Nat
  minOff : Nat
  deriving DecidableEq, Repr

/-- A unit in the course of an event, with the hand-overs it has made so far. -/
structure CoolRun where
  unit : Cooler
  out : List Instr
  deriving DecidableEq, Repr

/-- The request in per mille: the largest Qc among the used zones of the section, and in the cab's section, with the dry
flag set, at least the dry floor (R43). -/
def State.coolPerMille (s : State) (k : Fin 3) : Nat :=
  let fromZones :=
    (List.finRange 8).foldl (fun m z => if s.zoneIn k z then max m s.coolers[k].qcs[z] else m) 0
  if s.coolers[k].dry && s.cabZone.any (fun z => (s.zoneRow z).sect == some k) then
    max fromZones s.coolers[k].dryFloor
  else fromZones

/-- The rated power: 0 while the section row is unused (R42). -/
def State.ratedPower (s : State) (k : Fin 3) : Nat := if (s.sectRow k).used then (s.sectRow k).rated else 0

def State.coolView (s : State) (k : Fin 3) : CoolView where
  sec := k
  power := roundedNat (s.coolPerMille k * s.ratedPower k) 1000
  minimum := (s.claimRow (coolClaim k)).minimum
  rated := s.ratedPower k
  minOn := (s.sectRow k).minOn
  minOff := (s.sectRow k).minOff

/-- The unit posts a request to the power allocator. -/
def CoolRun.post (v : CoolView) (q : Nat) (r : CoolRun) : CoolRun :=
  ⟨{ r.unit with posted := q }, r.out ++ [.claimPosting (coolClaim v.sec) q]⟩

/-- The compressor demand, delivered when it changes (R47). -/
def CoolRun.setDemand (v : CoolView) (d : Nat) (r : CoolRun) : CoolRun :=
  if d = r.unit.demand then r else ⟨{ r.unit with demand := d }, r.out ++ [.sourceDelivery (.demand v.sec) d]⟩

/-- The request posted in OFF and RUN: a non-zero request is raised to the claimant minimum (R43). -/
def CoolView.raised (v : CoolView) : Nat := if v.power = 0 then 0 else max v.power v.minimum

/-- The compressor demand of a grant in RUN (R44, R47). -/
def CoolView.demandOf (v : CoolView) (grant : Nat) : Nat := min 1000 (grant * 1000 / v.rated)

/-- A timer started with a number of seconds; 0 s expires at once (R45, R46). -/
def startSeconds (n : Nat) : Timer := if n = 0 then none else seconds n

/-- The entry to LOCKOUT; a minimum off time of 0 takes the unit through it to OFF (R44, R46). -/
def CoolRun.enterLockout (v : CoolView) (r : CoolRun) : CoolRun :=
  let stopped : CoolRun := ⟨{ r.unit with state := .lockout, minOn := none, minOff := startSeconds v.minOff }, r.out⟩
  let posted := (stopped.setDemand v 0).post v 0
  if v.minOff = 0 then CoolRun.post v v.raised ⟨{ posted.unit with state := .off }, posted.out⟩ else posted

/-- The unit computes and posts its request (R43); in RUN after the minimum on time, a request of 0 enters LOCKOUT
(R45). -/
def CoolRun.compute (v : CoolView) (r : CoolRun) : CoolRun :=
  match r.unit.state with
  | .lockout => r.post v 0
  | .off => r.post v v.raised
  | .run => if v.power = 0 ∧ r.unit.minOn = none then r.enterLockout v else r.post v v.raised

/-- A grant delivered by the allocator (R44). -/
def CoolRun.takeGrant (v : CoolView) (g : Nat) (r : CoolRun) : CoolRun :=
  let noted : CoolRun := ⟨{ r.unit with grant := g }, r.out⟩
  match r.unit.state with
  | .off =>
    if g ≠ 0 ∧ r.unit.posted ≠ 0 ∧ v.rated ≠ 0 then
      let started : CoolRun := ⟨{ noted.unit with state := .run, minOn := startSeconds v.minOn }, noted.out⟩
      (started.setDemand v (v.demandOf g)).compute v
    else noted
  | .run =>
    if (g ≠ 0 ∧ g < v.minimum) ∨ (g = 0 ∧ r.unit.posted ≠ 0) then noted.enterLockout v
    else noted.setDemand v (v.demandOf g)
  | .lockout => noted

/-- The minimum-on timer of a running unit expires (R45). -/
def CoolRun.minOnExpiry (v : CoolView) (r : CoolRun) : CoolRun :=
  if r.unit.minOn = none ∨ r.unit.state ≠ .run then r else CoolRun.compute v ⟨{ r.unit with minOn := none }, r.out⟩

/-- The minimum-off timer expires: from LOCKOUT to OFF, and the request is posted (R46). -/
def CoolRun.minOffExpiry (v : CoolView) (r : CoolRun) : CoolRun :=
  if r.unit.minOff = none ∨ r.unit.state ≠ .lockout then r
  else CoolRun.compute v ⟨{ r.unit with state := .off, minOff := none }, r.out⟩

/-- OFF is entered: the timers stop and the demand becomes 0 (R49, R51, R52). -/
def CoolRun.enterOff (v : CoolView) (r : CoolRun) : CoolRun :=
  CoolRun.setDemand v 0 ⟨{ r.unit with state := .off, minOn := none, minOff := none }, r.out⟩

/-- The unit goes to OFF: its timers stop, it posts 0 and its demand becomes 0 (R49). -/
def CoolRun.switchOff (v : CoolView) (r : CoolRun) : CoolRun := (r.enterOff v).post v 0

/-- START finds the unit in OFF, with no Qc of its zones (R51): a unit that a late grant started in STANDBY, or that holds
a late Qc, is brought there (notes/assumptions/71.md). -/
def CoolRun.rest (v : CoolView) (r : CoolRun) : CoolRun :=
  let x := r.enterOff v
  ⟨{ x.unit with qcs := Vector.replicate 8 0 }, x.out⟩

/-- STOP: the unit goes to OFF, forgets the Qc of its zones and records a grant of 0 (R52). -/
def CoolRun.stop (v : CoolView) (r : CoolRun) : CoolRun :=
  let x := r.switchOff v
  ⟨{ x.unit with qcs := Vector.replicate 8 0, grant := 0 }, x.out⟩

/-- A transition of cooling unit k, with its hand-overs. -/
def State.runCooler (s : State) (k : Fin 3) (f : CoolView → CoolRun → CoolRun) : State :=
  let r := f (s.coolView k) ⟨s.coolers[k], []⟩
  (s.setCooler k r.unit).emit r.out

/-- Every cooling unit computes and posts its request, as at each ZONE, CLAIM or SYSTEM commit and at START (R43, R51). -/
def State.coolersCompute (s : State) : State := forEach 3 (fun k t => t.runCooler k CoolRun.compute) s

/-- The Qc that a unit records for a zone. -/
def State.recordQc (s : State) (k : Fin 3) (z : Fin 8) (qc : Nat) : State :=
  s.setCooler k { s.coolers[k] with qcs := s.coolers[k].qcs.set z qc }

/-! ### The meanings -/

/-- QC_POSTING (R43). One that STOP finds in flight is recorded and acts in STANDBY like any other: the model's choice
(notes/assumptions/64.md). One taken after the zone has left the unit's section is recorded too, and a ZONE commit that makes
the zone used there again leaves the record as it is: the model's choice as well (notes/assumptions/72.md). -/
def execQcPosting (k : Fin 3) (z : Fin 8) (qc : Nat) (s : State) : Host.Outcome State Fault Refusal :=
  .next (((s.take (.qcPosting k z qc)).recordQc k z qc).runCooler k CoolRun.compute)

/-- STAGE_NOTICE (R43, R107). -/
def execStageNotice (k : Fin 3) (dry : Bool) (fl : Nat) (s : State) : Host.Outcome State Fault Refusal :=
  let s1 := s.take (.stageNotice k dry fl)
  .next ((s1.setCooler k { s1.coolers[k] with dry := dry, dryFloor := fl }).runCooler k CoolRun.compute)

/-- COOLING_GRANT_DELIVERY (R44). One that STOP finds in flight acts in STANDBY by the unit's state like any other: the
model's choice (notes/assumptions/64.md). -/
def execCoolingGrantDelivery (k : Fin 3) (g : Nat) (s : State) : Host.Outcome State Fault Refusal :=
  .next ((s.take (.coolingGrantDelivery k g)).runCooler k (fun v => CoolRun.takeGrant v g))

/-- MINIMUM_ON_EXPIRY (R45). -/
def execMinimumOnExpiry (k : Fin 3) (s : State) : Host.Outcome State Fault Refusal :=
  .next (s.runCooler k CoolRun.minOnExpiry)

/-- MINIMUM_OFF_EXPIRY (R46). -/
def execMinimumOffExpiry (k : Fin 3) (s : State) : Host.Outcome State Fault Refusal :=
  .next (s.runCooler k CoolRun.minOffExpiry)

end Sys2Proof.Machine
end

