-- ==== Sys2Proof/Machine/Doors.lean ====
section
/-! DEFINITION. The door unit (chapter 3): debounce, masks and the pending latch, and the burst machine. A door's
transitions are functions of its record, the group mask and whether the part is RUNNING, and give the claims it posts. -/

namespace Sys2Proof.Machine

/-- A door in the course of an event: its record, the requests it has posted so far, oldest first, and whether it has
dropped a trigger. -/
structure DoorRun where
  door : Door
  posts : List Nat
  drop : Bool
  deriving DecidableEq, Repr

/-- What a door's transitions read outside its record: whether its burst machine runs (the part RUNNING and its row
used, section 3.5) and the group mask. -/
structure DoorView where
  active : Bool
  group : Bool
  deriving DecidableEq, Repr

/-- The effective mask (R62). -/
def Door.masked (group : Bool) (d : Door) : Bool := d.serviceMask || d.overrideMask || group

/-- The burst mode of the working record. -/
def Door.mode (d : Door) : Option BurstMode := d.working.bind BurstFields.mode

/-- A burst field of the working record; 0 while it is empty. -/
def Door.param (d : Door) (f : BurstFields → Nat) : Nat := (d.working.map f).getD 0

/-- PV is reloaded in EVERY_NTH and ACCUMULATE. -/
def countsPv (m : Option BurstMode) : Bool := m == some .everyNth || m == some .accumulate

def DoorRun.modify (f : Door → Door) (r : DoorRun) : DoorRun := { r with door := f r.door }

/-- The door posts a request for its claimant (R76). -/
def DoorRun.post (q : Nat) (r : DoorRun) : DoorRun := { r with posts := r.posts ++ [q] }

/-- The exit from BURST, whatever the cause, posts a request of 0; a door in another state posts nothing (R69, R76). -/
def DoorRun.leaveBurst (r : DoorRun) : DoorRun := if r.door.burst = .burst then r.post 0 else r

/-- A staged record becomes the working record, and PV is reloaded in EVERY_NTH and ACCUMULATE (R75 step 1). -/
def Door.install (d : Door) : Door :=
  match d.staged with
  | some b => { d with working := some b, staged := none, pv := if countsPv b.mode then b.n else d.pv }
  | none => d

/-- The burst length in s of an ACCUMULATE burst (R72). -/
def Door.burstLength (d : Door) : Nat :=
  max 1 (min (d.param (·.tmax)) (d.accum * d.param (·.gain) / 16))

/-- The burst timer in s of the mode (R68). -/
def Door.burstSeconds (d : Door) : Nat :=
  match d.mode with
  | some .whileOpen => d.param (·.tmax)
  | some .accumulate => d.burstLength
  | _ => d.param (·.tb)

/-- The entry to BURST: the claim is posted; REPEAT counts the burst; ACCUMULATE resets the accumulator, PV and the
current open time (R69, R72). -/
def DoorRun.enterBurst (r : DoorRun) : DoorRun :=
  let d := r.door
  let e : Door := { d with burst := .burst, timer := seconds d.burstSeconds }
  let e' : Door := match d.mode with
    | some .repeating => { e with series := min 255 (d.series + 1) }
    | some .accumulate => { e with accum := 0, pv := d.param (·.n), openMs := 0 }
    | _ => e
  (r.modify fun _ => e').post (d.param (·.curtain))

/-- The entry to IDLE before any latched trigger: the timer stops and a staged record is installed (R75 step 1). -/
def DoorRun.settle (r : DoorRun) : DoorRun :=
  r.modify fun d => Door.install { d with burst := .idle, timer := none }

/-- The entry to RECOVERY; a recovery of 0 takes the door to IDLE at the entry (R74). -/
def DoorRun.enterRecovery (toIdle : DoorRun → DoorRun) (r : DoorRun) : DoorRun :=
  let q := r.leaveBurst
  if q.door.param (·.recovery) = 0 then toIdle q
  else q.modify fun d => { d with burst := .recovery, timer := seconds (d.param (·.recovery)) }

/-- The end of a delay: BURST, or in WHILE_OPEN with the door CLOSED, RECOVERY (R68). -/
def DoorRun.endDelay (toIdle : DoorRun → DoorRun) (r : DoorRun) : DoorRun :=
  if r.door.mode = some .whileOpen ∧ r.door.isOpen = false then r.enterRecovery toIdle else r.enterBurst

/-- The activity starts: REPEAT begins a series; then DELAY, or the end of a delay of 0 at once (R66 step 3). -/
def DoorRun.startActivity (toIdle : DoorRun → DoorRun) (r : DoorRun) : DoorRun :=
  let q := r.modify fun d => if d.mode = some .repeating then { d with series := 0, ending := false } else d
  if q.door.param (·.delay) = 0 then q.endDelay toIdle
  else q.modify fun d => { d with burst := .delay, timer := seconds (d.param (·.delay)) }

/-- A trigger taken in IDLE (R66). -/
def DoorRun.idleTrigger (group : Bool) (toIdle : DoorRun → DoorRun) (r : DoorRun) : DoorRun :=
  if r.door.masked group then r.modify fun d => { d with latch := true }
  else if r.door.mode = some .everyNth then
    if 1 < r.door.pv then r.modify fun d => { d with pv := d.pv - 1 }
    else (r.modify fun d => { d with pv := d.param (·.n) }).startActivity toIdle
  else r.startActivity toIdle

/-- The entry to IDLE: a latch of 1 with the effective mask clear is cleared and its trigger taken; an activity that
starts and ends in the same event comes back to IDLE by `again` (R75). -/
def DoorRun.idleWith (group : Bool) (again : DoorRun → DoorRun) (r : DoorRun) : DoorRun :=
  let q := r.settle
  if q.door.latch && !q.door.masked group then
    (q.modify fun d => { d with latch := false }).idleTrigger group again
  else q

/-- The entry to IDLE (R75). A trigger that it takes has cleared the latch, so an activity of a delay and recovery of 0
that comes back to IDLE in the same event finds no latch. -/
def DoorRun.enterIdle (group : Bool) (r : DoorRun) : DoorRun := r.idleWith group DoorRun.settle

/-- A trigger, by the burst state in which it arrives (R66, R67). -/
def DoorRun.trigger (group : Bool) (r : DoorRun) : DoorRun :=
  match r.door.burst with
  | .idle => r.idleTrigger group (DoorRun.enterIdle group)
  | .recovery => r.modify fun d => { d with latch := true }
  | _ => { r with door := { r.door with dropped := min 255 (r.door.dropped + 1) }, drop := true }

/-! ### Door events (R59, R61, R65, R71, R73) -/

/-- An OPENED event: the current open time starts at 0, and in every mode but ACCUMULATE it is a trigger (R61, R65). -/
def DoorRun.opened (v : DoorView) (r : DoorRun) : DoorRun :=
  if v.active then
    let q := r.modify fun d => { d with openMs := 0 }
    if q.door.mode = some .accumulate then q else q.trigger v.group
  else r

/-- A CLOSED event: the current open time joins the accumulator; ACCUMULATE counts it toward a trigger, WHILE_OPEN ends
its burst, REPEAT sets the series-ending flag in BURST and GAP (R61, R65, R71, R73). -/
def DoorRun.closed (v : DoorView) (r : DoorRun) : DoorRun :=
  if v.active then
    let q := r.modify fun d => { d with accum := min 65535 (d.accum + d.openMs / 1000), openMs := 0 }
    match q.door.mode with
    | some .accumulate =>
      if 1 < q.door.pv then q.modify fun d => { d with pv := d.pv - 1 }
      else (q.modify fun d => { d with pv := d.param (·.n) }).trigger v.group
    | some .whileOpen => if q.door.burst = .burst then q.enterRecovery (DoorRun.enterIdle v.group) else q
    | some .repeating =>
      if q.door.burst = .burst ∨ q.door.burst = .gap then q.modify fun d => { d with ending := true } else q
    | _ => q
  else r

/-- The accepted state takes a reported state, and the door event follows (R58, R59). -/
def DoorRun.accept (v : DoorView) (isOpen : Bool) (r : DoorRun) : DoorRun :=
  let q := r.modify fun d => { d with isOpen := isOpen, candidate := none, debounce := none }
  if isOpen then q.opened v else q.closed v

/-- A report of the state slot, delivered as an arrival (R58); `period` is the row's debounce in ms. A differing report
that finds a debounce running leaves it running even when a commit has since set the row's debounce to 0: the model's
choice (notes/assumptions/46.md). -/
def DoorRun.report (v : DoorView) (period : Nat) (isOpen : Bool) (r : DoorRun) : DoorRun :=
  if isOpen = r.door.isOpen then r.modify fun d => { d with candidate := none, debounce := none }
  else if r.door.candidate ≠ none then r
  else if period = 0 then r.accept v isOpen
  else r.modify fun d => { d with candidate := some isOpen, debounce := some period }

/-- The debounce timer expires (R59). -/
def DoorRun.debounceExpiry (v : DoorView) (r : DoorRun) : DoorRun :=
  match r.door.debounce, r.door.candidate with
  | some _, some c => r.accept v c
  | _, _ => r

/-- A running debounce is cancelled; the accepted state is kept (R58, R59). -/
def Door.cancelDebounce (d : Door) : Door := { d with candidate := none, debounce := none }

/-! ### The door timer (R68, R70 to R74) -/

/-- The door timer expires in the state `expected`; in another state, or stopped, no such expiry takes place. -/
def DoorRun.timerExpiry (expected : BurstState) (f : DoorRun → DoorRun) (r : DoorRun) : DoorRun :=
  if r.door.timer ≠ none ∧ r.door.burst = expected then f r else r

/-- The end of a burst: GAP in REPEAT, else RECOVERY (R70 to R73). -/
def DoorRun.endBurst (v : DoorView) (r : DoorRun) : DoorRun :=
  if r.door.mode = some .repeating then
    r.leaveBurst.modify fun d => { d with burst := .gap, timer := seconds (d.param (·.gap)) }
  else r.enterRecovery (DoorRun.enterIdle v.group)

/-- The four conditions of R73 under which a further burst of a series starts. -/
def Door.seriesGoesOn (d : Door) : Bool :=
  d.isOpen && !d.ending && d.staged.isNone && (d.param (·.n) == 0 || d.series < d.param (·.n))

/-- The end of a gap (R73). -/
def DoorRun.endGap (v : DoorView) (r : DoorRun) : DoorRun :=
  if r.door.seriesGoesOn then r.enterBurst else r.enterRecovery (DoorRun.enterIdle v.group)

/-! ### Masks (R62, R63) -/

/-- A change of masks: a change of the effective mask from set to clear in IDLE with the latch at 1 takes the latched
trigger, unless the clearing comes from STOP (R63). `was` is the effective mask before. -/
def DoorRun.maskChanged (v : DoorView) (was byStop : Bool) (r : DoorRun) : DoorRun :=
  if v.active && was && !r.door.masked v.group && !byStop && r.door.latch && r.door.burst == .idle then
    (r.modify fun d => { d with latch := false }).idleTrigger v.group (DoorRun.enterIdle v.group)
  else r

/-! ### Commits, STOP and START (R78 to R81) -/

/-- The new burst fields at a DOOR commit that changed them (R78). -/
def Door.newFields (b : BurstFields) (d : Door) : Door :=
  if d.burst = .idle then
    { d with working := some b, staged := none, pv := if countsPv b.mode then b.n else d.pv }
  else { d with staged := some b }

/-- A door made unused: it leaves its activity at once (R79). -/
def DoorRun.retire (r : DoorRun) : DoorRun :=
  r.leaveBurst.modify fun d =>
    { d with
      timer := none, debounce := none, candidate := none, burst := .idle, latch := false, staged := none
      isOpen := false, pv := 0, series := 0, ending := false, accum := 0, openMs := 0 }

/-- A door made used: CLOSED, IDLE, its working record the burst fields of the new row, PV at N (R79); the door timer and
the pending record, which being made unused has cleared, stay clear. -/
def Door.enlist (b : BurstFields) (d : Door) : Door :=
  { d with isOpen := false, burst := .idle, timer := none, working := some b, staged := none, pv := b.n }

/-- STOP at a door, used or not (R80). -/
def DoorRun.stop (r : DoorRun) : DoorRun :=
  r.leaveBurst.modify fun d =>
    { d with
      timer := none, burst := .idle, working := d.staged.or d.working, staged := none, latch := false
      series := 0, ending := false, openMs := 0 }

/-- START at a used door (R81). -/
def Door.start (d : Door) : Door := { d with pv := d.param (·.n), accum := 0, openMs := 0 }

/-! ### The door unit -/

/-- The zone that a door's row names. -/
def DoorRow.zone (r : DoorRow) : Option (Fin 8) := if h : r.zoneCode < 8 then some ⟨r.zoneCode, h⟩ else none

def State.doorView (s : State) (d : Fin 8) : DoorView where
  active := s.part == .running && (s.doorRow d).used
  group := s.groupMask

/-- The result of door d's event: its record, its postings as claimant 8 + d, and DOOR_DROPPED for a dropped trigger
(R67, R76). -/
def State.finishDoor (s : State) (d : Fin 8) (r : DoorRun) : State :=
  ((s.setDoor d r.door).emit (r.posts.map fun q => .claimPosting (curtainClaim d) q)).raiseIf r.drop .doorDropped

/-- A transition of door d. -/
def State.runDoor (s : State) (d : Fin 8) (f : DoorView → DoorRun → DoorRun) : State :=
  s.finishDoor d (f (s.doorView d) ⟨s.doors[d], [], false⟩)

/-- A notification of the state slot of door d (R58); a change to EMPTY cancels a running debounce. -/
def State.doorNote (s : State) (d : Fin 8) (n : SlotNote) : State :=
  match n.status with
  | .empty => s.setDoor d s.doors[d].cancelDebounce
  | .held => s
  | _ => s.runDoor d fun v r => r.report v (s.doorRow d).debounce (n.value != 0)

/-- One door's part of a change of masks. -/
def State.doorMask (s : State) (d : Fin 8) (was byStop : Bool) : State :=
  s.runDoor d fun v r => r.maskChanged v was byStop

/-- The service mask of door d is set or cleared (R62). -/
def State.setServiceMask (s : State) (on : Bool) (d : Fin 8) : State :=
  let was := s.doors[d].masked s.groupMask
  (s.setDoor d { s.doors[d] with serviceMask := on }).doorMask d was false

/-- A CURTAIN_QUIET notice: the override mask of the door it names, or the group mask, which is the same for all eight
doors (R62, R129). -/
def State.maskNotice (s : State) (target : Target) (on byStop : Bool) : State :=
  match target with
  | .one d =>
    let was := s.doors[d].masked s.groupMask
    (s.setDoor d { s.doors[d] with overrideMask := on }).doorMask d was byStop
  | .all =>
    let before := s.groupMask
    forEach 8 (fun d t => t.doorMask d (t.doors[d].masked before) byStop) { s with groupMask := on }

/-- CLEAR_PENDING at door d: the latch is cleared without a trigger (R64). -/
def State.clearLatch (s : State) (d : Fin 8) : State := s.setDoor d { s.doors[d] with latch := false }

/-- The section that door d counts for: that of its zone, while that zone's row is used (R54). -/
def State.doorSection (s : State) (d : Fin 8) : Option (Fin 3) :=
  (s.doorRow d).zone.bind fun z => if (s.zoneRow z).used then (s.zoneRow z).sect else none

/-- Whether the row of door d names the slot as its boarded or alighted slot. -/
def DoorRow.countSlot (r : DoorRow) : CountDir → Nat
  | .boarded => r.boardedSlot
  | .alighted => r.alightedSlot

/-- A notification of a count slot of door d: delivered as an arrival, its value clamped to [0, 255] is handed to the
load counter for the door's section (R60). -/
def State.countNote (s : State) (d : Fin 8) (dir : CountDir) (n : SlotNote) : State :=
  if n.status = .fresh ∨ n.status = .substituted then
    match s.doorSection d with
    | some k =>
      let v := (clamp n.value 0 255).toNat
      s.emit [match dir with
        | .boarded => .boarding k v
        | .alighted => .alighting k v]
    | none => s
  else s

/-! ### The meanings -/

/-- DOOR_STATE_NOTIFICATION (R58). -/
def execDoorStateNotification (d : Fin 8) (n : SlotNote) (s : State) : Host.Outcome State Fault Refusal :=
  let s1 := s.take (.doorStateNotification d n)
  .next (if (s1.doorRow d).used ∧ slotOfCode (s1.doorRow d).stateSlot = some n.slot then s1.doorNote d n else s1)

/-- DEBOUNCE_EXPIRY (R59). -/
def execDebounceExpiry (d : Fin 8) (s : State) : Host.Outcome State Fault Refusal :=
  .next (s.runDoor d DoorRun.debounceExpiry)

/-- DELAY_EXPIRY (R68). -/
def execDelayExpiry (d : Fin 8) (s : State) : Host.Outcome State Fault Refusal :=
  .next (s.runDoor d fun v r => r.timerExpiry .delay (DoorRun.endDelay (DoorRun.enterIdle v.group)))

/-- BURST_EXPIRY (R70 to R73). -/
def execBurstExpiry (d : Fin 8) (s : State) : Host.Outcome State Fault Refusal :=
  .next (s.runDoor d fun v r => r.timerExpiry .burst (DoorRun.endBurst v))

/-- GAP_EXPIRY (R73). -/
def execGapExpiry (d : Fin 8) (s : State) : Host.Outcome State Fault Refusal :=
  .next (s.runDoor d fun v r => r.timerExpiry .gap (DoorRun.endGap v))

/-- RECOVERY_EXPIRY (R74). -/
def execRecoveryExpiry (d : Fin 8) (s : State) : Host.Outcome State Fault Refusal :=
  .next (s.runDoor d fun v r => r.timerExpiry .recovery (DoorRun.enterIdle v.group))

/-- MASK_CHANGE (R63, R129). -/
def execMaskChange (target : Target) (on byStop : Bool) (s : State) : Host.Outcome State Fault Refusal :=
  .next ((s.take (.maskChange target on byStop)).maskNotice target on byStop)

/-- COUNT_SLOT_NOTIFICATION (R60). -/
def execCountSlotNotification (d : Fin 8) (dir : CountDir) (n : SlotNote) (s : State) :
    Host.Outcome State Fault Refusal :=
  let s1 := s.take (.countSlotNotification d dir n)
  .next
    (if (s1.doorRow d).used ∧ slotOfCode ((s1.doorRow d).countSlot dir) = some n.slot then s1.countNote d dir n else s1)

end Sys2Proof.Machine
end

