-- ==== Sys2Proof/Machine/Screen.lean ====
section
/-! DEFINITION. The screen unit (chapter 5): the fog margin, the step list, the stages and what a stage change hands
over, the flap, and SCREEN_MAX. -/

namespace Sys2Proof.Machine

/-! ### The step list (R102) -/

/-- The step list: the used rows of the active STEP bank in ascending row index. -/
def State.stepList (s : State) : List Nat := (List.range 12).filter fun i => (s.stepRow i).used

/-- The first used step, or NONE when the list is empty. -/
def State.firstStep (s : State) : Option Nat := s.stepList.head?

/-- The next used step after a row index: the lowest above it, else the first, so the list wraps. -/
def State.nextStep (s : State) (i : Nat) : Option Nat := (s.stepList.find? fun j => i < j).or s.firstStep

/-- The first used RISING step. -/
def State.firstRising (s : State) : Option Nat := s.stepList.find? fun i => (s.stepRow i).rising

/-! ### Stages (R106 to R108) -/

/-- The parameters of the present stage. -/
def State.stageNow (s : State) : StageRow := s.stageRow s.screen.stage

/-- The screen heater is short of its claim (R108). -/
def Screen.short (c : Screen) : Bool := 0 < c.posted && c.grant < c.posted

/-- The flap value of the present stage, raised while the heater is short; 0 in stage OFF (R108). -/
def State.flapNow (s : State) : Nat :=
  if s.screen.stage = .off then 0
  else if s.screen.short then max s.stageNow.flap (s.stageRow .max).flap else s.stageNow.flap

/-- The flap value formed, and delivered to the output scheduler when it changed (R108). -/
def State.formFlap (s : State) : State :=
  if s.flapNow = s.screen.flap then s
  else State.emit { s with screen := { s.screen with flap := s.flapNow } } [.sourceDelivery .flap s.flapNow]

/-- The three hand-overs of the present stage: the screen claim, a stage notice to each cooling unit, and the flap
(R107, R113). -/
def State.handStage (s : State) : State :=
  let p := s.stageNow
  let t : State := { s with screen := { s.screen with posted := p.request } }
  (t.emit
    (.claimPosting screenClaim p.request :: (List.finRange 3).map fun k => .stageNotice k p.dry p.dryFloor)).formFlap

/-- The entry to a stage with an entry dwell in s; a stage change hands over the new stage's parameters (R106). -/
def State.enterStage (s : State) (stage : Stage) (dwell : Nat) : State :=
  let t : State := { s with screen := { s.screen with stage := stage, stageMs := 0, entryDwell := dwell } }
  if stage = s.screen.stage then t else t.handStage

def State.setPointer (s : State) (p : Option Nat) : State := { s with screen := { s.screen with pointer := p } }

/-! ### The pass (R104, R105) -/

/-- The fog margin from the two designated slots; UNKNOWN when either is not usable (R104). -/
def State.marginNow (s : State) : Option Int :=
  match s.roleValue .glass, s.roleValue .dewpoint with
  | some g, some d => some (g - d)
  | _, _ => none

/-- Whether the condition of a step is met (R105). -/
def StepRow.met (r : StepRow) (m : Int) : Bool := if r.rising then r.threshold ≤ m else m ≤ r.threshold

/-- The step under the pointer evaluated with a known margin (R105). -/
def State.evaluateStep (s : State) (m : Int) : State :=
  match s.screen.pointer with
  | none => if s.screen.stage = .watch then s else s.enterStage .watch 0
  | some i =>
    let r := s.stepRow i
    if r.met m ∧ 1000 * s.screen.entryDwell ≤ s.screen.stageMs then
      match stepStageOfCode r.stageCode with
      | some stage => (s.enterStage stage r.dwell).setPointer (s.nextStep i)
      | none => s
    else s

/-- A screen pass, the pass timer apart (R104, R108). -/
def State.screenPassBody (s : State) : State :=
  let m := s.marginNow
  let t : State := { s with screen := { s.screen with margin := m, blind := m.isNone } }
  (match t.screen.stage, m with
    | .max, _ => t
    | .off, _ => t
    | .demist, none => t
    | _, none => t.enterStage .demist 0
    | _, some v => t.evaluateStep v).formFlap

/-- The screen pass timer expires: it restarts with the interval and the unit takes one pass (R103). -/
def State.takeScreenPass (s : State) : State :=
  if s.screen.pass = none then s
  else State.screenPassBody { s with screen := { s.screen with pass := seconds s.screenInterval } }

/-! ### Maximum defrost (R110, R111) -/

/-- A SCREEN_MAX record has entered the table (R110). A count above 16, which only a sender's own notices can cause,
counts on: the model's choice (notes/assumptions/48.md). -/
def State.maxEntry (s : State) : State :=
  let t : State := { s with screen := { s.screen with maxCount := s.screen.maxCount + 1 } }
  if s.part = .running ∧ s.screen.maxCount = 0 then t.enterStage .max 0 else t

/-- The end of MAX: pointer and stage by the step list (R111). -/
def State.leaveMax (s : State) : State :=
  match s.firstRising with
  | some i => (s.setPointer (some i)).enterStage .clear 0
  | none => (s.setPointer s.firstStep).enterStage .watch 0

/-- A SCREEN_MAX record has left the table (R111). At a count of 0, which only a sender's own notice can meet, the count
stays 0 and the stage is kept: the model's choice (notes/assumptions/48.md). -/
def State.maxDeparture (s : State) : State :=
  let t : State := { s with screen := { s.screen with maxCount := s.screen.maxCount - 1 } }
  if s.part = .running ∧ s.screen.maxCount = 1 then t.leaveMax else t

/-- The step pointer after a STEP commit (R112). In STANDBY too a pointer of NONE moves to the first used step, as R112's
table says, where the operating sequence of 11_operating_sequences.md leaves it NONE until START: the model's choice
(notes/assumptions/47.md). -/
def State.movePointer (s : State) : State :=
  match s.screen.pointer with
  | some i => if (s.stepRow i).used then s else s.setPointer (s.nextStep i)
  | none => s.setPointer s.firstStep

/-! ### The meanings -/

/-- SCREEN_PASS (R103, R104). -/
def execScreenPass (s : State) : Host.Outcome State Fault Refusal := .next s.takeScreenPass

/-- SCREEN_GRANT_DELIVERY (R108). -/
def execScreenGrantDelivery (g : Nat) (s : State) : Host.Outcome State Fault Refusal :=
  let s1 := s.take (.screenGrantDelivery g)
  .next (State.formFlap { s1 with screen := { s1.screen with grant := g } })

/-- SCREEN_MAX_ENTRY_NOTICE (R110). -/
def execScreenMaxEntryNotice (s : State) : Host.Outcome State Fault Refusal :=
  .next (s.take .screenMaxEntryNotice).maxEntry

/-- SCREEN_MAX_DEPARTURE_NOTICE (R111). -/
def execScreenMaxDepartureNotice (s : State) : Host.Outcome State Fault Refusal :=
  .next (s.take .screenMaxDepartureNotice).maxDeparture

end Sys2Proof.Machine
end

