-- ==== Sys2Proof/Machine/Zones.lean ====
section
/-! DEFINITION. The zone pass in its eleven steps (section 2.3). -/

namespace Sys2Proof.Machine

/-! ### Step 1: the zone temperature (R32) -/

/-- The counted entries of a zone's run: weight and value of each entry whose weight is not 0 and whose slot is usable. -/
def State.countedSensors (s : State) (r : ZoneRow) : List (Int × Int) :=
  (List.range r.listCount).filterMap fun j =>
    let e := s.listRow (r.listFirst + j)
    if e.weight = 0 then none
    else ((slotOfCode e.slot).bind s.usableValue).map fun v => ((e.weight : Int), v)

/-- The weighted mean of the counted entries, rounded and clamped; none when no entry is counted (R32). -/
def State.sensorMean (s : State) (r : ZoneRow) : Option Int :=
  let es := s.countedSensors r
  if es = [] then none
  else some (clamp (rounded (es.map fun (e : Int × Int) => e.1 * e.2).sum (es.map fun (e : Int × Int) => e.1).sum.toNat) (-400) 850)

/-! ### Steps 2 to 7: setpoint, error, integral, feed-forward, demand (R33 to R37) -/

/-- The effective setpoint (R33). -/
def State.setpoint (s : State) (z : Fin 8) (r : ZoneRow) : Int :=
  let offset : Int := match s.overrides.applying .setpointOffset z with
    | some o => o.value
    | none => 0
  let bias : Int := if r.coupled then (match r.sect with
    | some k => (s.profile k).1
    | none => 0) else 0
  clamp (r.base + offset + bias) r.smin r.smax

/-- Whether the regular grant of the cooling unit of the zone's section is smaller than the unit's posted request, as the
allocator holds them (R35 condition 5, R154). -/
def State.coolingShort (s : State) (r : ZoneRow) : Bool :=
  match r.sect with
  | some k => s.alloc.claims[coolClaim k].regular < s.alloc.claims[coolClaim k].posted
  | none => false

/-- The conditions of R35 under which the integral is left unchanged. -/
def State.integralHeld (s : State) (z : Fin 8) (r : ZoneRow) (blind : Bool) (e : Int) : Bool :=
  blind || (0 < e && s.zones[z].lastR == 1000) || (e < 0 && s.zones[z].lastR == -1000)
    || (0 < e && s.alloc.claims[zoneClaim z].regular < s.zones[z].qh) || (e < 0 && s.coolingShort r)

/-- The integral term (R35). -/
def State.nextIntegral (s : State) (z : Fin 8) (r : ZoneRow) (blind : Bool) (e : Int) : Int :=
  if s.integralHeld z r blind e then s.zones[z].integral
  else clamp (s.zones[z].integral + rounded (r.ki * e) 16) (-(r.ilim : Int)) r.ilim

/-- The draft weights of the used doors of the zone that are in BURST, added (R36, R77). -/
def State.draftSum (s : State) (z : Fin 8) : Nat :=
  (List.finRange 8).foldl
    (fun sum d =>
      if (s.doorRow d).used && (s.doorRow d).zone == some z && s.doors[d].burst == .burst then
        sum + (s.doorRow d).draft
      else sum) 0

/-- The door feed-forward F with the sign that the outside-air slot gives (R36). -/
def State.feedForward (s : State) (z : Fin 8) (sz : Int) : Int :=
  match s.roleValue .outsideAir with
  | none => s.draftSum z
  | some v => if v < sz then s.draftSum z else if v ≤ sz + 20 then 0 else -(s.draftSum z : Int)

/-! ### Steps 8 to 10: mode, requests, air outputs (R38 to R40) -/

/-- The mode table (R38). A pass never finds the mode OFF; it is read as VENT. -/
def nextMode (mode : ZoneMode) (hyst : Nat) (r : Int) : ZoneMode :=
  if r = 0 then .vent
  else if 0 < r then (if (hyst : Int) ≤ r then .heat else if mode = .heat then .heat else .vent)
  else if r ≤ -(hyst : Int) then .cool else if mode = .cool then .cool else .vent

/-- The zone heater's capacity as the pass finds it (R39): the installed power, 0 when the heater channel is absent or
FAULTED. -/
def State.heaterCapacity (s : State) (z : Fin 8) (r : ZoneRow) : Nat :=
  if s.channelsReady (zoneClaim z) then r.heater else 0

/-- The requests of a mode: Qh and Qc (R39). -/
def requestsOf (mode : ZoneMode) (r : Int) (capacity : Nat) : Nat × Nat :=
  match mode with
  | .heat => (roundedNat (r.toNat * capacity) 1000, 0)
  | .cool => (0, (-r).toNat)
  | _ => (0, 0)

/-- The blower floor Fb (R40). -/
def State.blowerFloorOf (s : State) (r : ZoneRow) : Nat :=
  let band := if r.coupled then (match r.sect with
    | some k => (s.profile k).2.1
    | none => 0) else 0
  max (max r.blowerFloor band) (if r.cab then s.stageNow.blowerFloor else 0)

/-- The blower value (R40). -/
def State.blowerOf (s : State) (z : Fin 8) (r : ZoneRow) (demand : Int) : Nat :=
  let fb := s.blowerFloorOf r
  let boost := match s.overrides.applying .blowerBoost z with
    | some o => o.value.toNat
    | none => 0
  min 1000 (fb + (1000 - fb) * demand.natAbs / 1000 + boost)

/-- The fresh value (R40). -/
def State.freshOf (s : State) (z : Fin 8) (r : ZoneRow) : Nat :=
  let band := if r.coupled then (match r.sect with
    | some k => (s.profile k).2.2
    | none => 0) else 0
  let open' := if (s.overrides.applying .recirculate z).isSome then 0 else max r.freshFloor band
  if r.cab then max open' s.stageNow.freshFloor else open'

/-! ### The pass -/

/-- The zone record that a pass leaves, and whether it sets ZONE_BLIND (R32 to R41). -/
def State.passRecord (s : State) (z : Fin 8) : Zone × Bool :=
  let r := s.zoneRow z
  let old := s.zones[z]
  let mean := s.sensorMean r
  let blind := mean.isNone
  let tz : Int := mean.getD (old.tz.getD r.base)
  let sz := s.setpoint z r
  let e := clamp (sz - tz) (-200) 200
  let integral := s.nextIntegral z r blind e
  let f := s.feedForward z sz
  let demand := if blind then clamp (r.fallback + f) (-1000) 1000
    else clamp (r.kp * e + integral + f) (-1000) 1000
  let mode := nextMode old.mode r.hyst demand
  let q := requestsOf mode demand (s.heaterCapacity z r)
  ({ mode := mode, blind := blind, tz := some tz, sz := sz, integral := integral, lastR := demand,
     qh := q.1, qc := q.2, blower := s.blowerOf z r demand, freshAir := s.freshOf z r,
     published := ⟨mode, tz, blind, r.smax⟩, pass := seconds r.interval },
    blind && !old.blind)

/-- What a zone hands on at the end of its pass, in the order of R41: publication, Qh, Qc, the air outputs. The Qc goes
to the cooling unit of section k. -/
def zoneHandOvers (z : Fin 8) (k : Option (Fin 3)) (x : Zone) : List Instr :=
  [.statusPublication z, .claimPosting (zoneClaim z) x.qh]
    ++ (match k with
      | some k => [.qcPosting k z x.qc]
      | none => [])
    ++ [.sourceDelivery (.blower z) x.blower, .sourceDelivery (.freshAir z) x.freshAir]

/-- The pass timer of zone z expires: the zone takes one pass and the timer restarts (R31). -/
def State.zonePass (s : State) (z : Fin 8) : State :=
  if s.zones[z].pass = none then s
  else
    let p := s.passRecord z
    ((s.setZone z p.1).raiseIf p.2 .zoneBlind).emit (zoneHandOvers z (s.zoneRow z).sect p.1)

/-! ### The meaning -/

/-- ZONE_PASS (R31). -/
def execZonePass (z : Fin 8) (s : State) : Host.Outcome State Fault Refusal := .next (s.zonePass z)

end Sys2Proof.Machine
end

