-- ==== Sys2Proof/Machine/Commit.lean ====
section
/-! DEFINITION. What a COMMIT that succeeds does at each block, table by table: R25, R48 to R50, R78, R79, R95, R96,
R103, R112, R113, R135, R156 to R158, R177. `old` is the part before the commit, for the rows that are replaced. -/

namespace Sys2Proof.Machine

/-! ### SLOT (R25) -/

/-- A slot whose row changed becomes EMPTY, and its consumers are notified. -/
def State.emptySlot (s : State) (i : Fin 64) : State :=
  let x : Slot := { s.slots[i] with status := .empty, clamped := false, fresh := none, hold := none }
  let t := s.setSlot i x
  t.notify ⟨i, (t.readSlot i).1, .empty⟩

def State.commitSlot (old s : State) : State :=
  forEach 64 (fun i t => if s.slotRow i = old.slotRow i then t else t.emptySlot i) s

/-! ### ZONE (R48, R49) -/

/-- The effective setpoint of a zone before its next pass: its base setpoint, clamped (R48, R51, R53). -/
def ZoneRow.baseSetpoint (r : ZoneRow) : Int := clamp r.base r.smin r.smax

/-- The status a zone publishes: a copy of its mode, Tz and BLIND flag with its Smax; the base setpoint stands for a Tz
that is UNSET (R30). -/
def Zone.publish (r : ZoneRow) (x : Zone) : Zone :=
  { x with published := ⟨x.mode, x.tz.getD r.base, x.blind, r.smax⟩ }

/-- A zone that stays used with a changed row (R48). -/
def Zone.changed (running : Bool) (old new : ZoneRow) (x : Zone) : Zone :=
  Zone.publish new
    { x with
      integral := clamp x.integral (-(new.ilim : Int)) new.ilim
      sz := clamp x.sz new.smin new.smax
      pass := if running && old.interval != new.interval then seconds new.interval else x.pass }

/-- A zone made unused (R48). That the record keeps its BLIND flag and Sz too, and publishes the kept BLIND flag, is the
model's choice (notes/assumptions/59.md), as is the Smax that it publishes (43.md). -/
def Zone.unused (old : ZoneRow) (x : Zone) : Zone :=
  Zone.publish old { x with mode := .off, qh := 0, qc := 0, blower := 0, freshAir := 0, pass := none }

/-- A zone made used (R48): its published status holds what R30 gives before a first publication. That its Sz in STANDBY stays
as the record has it is the model's choice (notes/assumptions/60.md). The Qc that the unit of its section still holds for it
is not part of the zone: see `State.commitZone`. -/
def Zone.used (running : Bool) (new : ZoneRow) (x : Zone) : Zone :=
  let fresh : Zone := { x with integral := 0, lastR := 0, tz := none, blind := false,
                               published := ⟨.off, new.base, false, new.smax⟩ }
  if running then
    { fresh with mode := .vent, qh := 0, qc := 0, sz := new.baseSetpoint, pass := seconds new.interval }
  else { fresh with mode := .off }

/-- A changed zone that moves to another section: the unit of its old section forgets its Qc and the unit of its new
section records it (R48). -/
def State.moveQc (s : State) (z : Fin 8) (old new : ZoneRow) : State :=
  if old.sect = new.sect then s
  else
    let t := match old.sect with
      | some k => s.recordQc k z 0
      | none => s
    match new.sect with
    | some k => t.recordQc k z t.zones[z].qc
    | none => t

/-- One zone's part of a ZONE commit (R48). A changed row that is unused before and after leaves the zone and its published
status as they are: the model's choice (notes/assumptions/67.md). Of a zone made used the
spec gives the zone's own Qc and is silent on the record of its section's unit. The record stays as it is, so a Qc that the
unit still holds for the zone counts until the zone's next posting is taken: the model's choice too
(notes/assumptions/72.md). -/
def State.commitZone (s : State) (z : Fin 8) (old new : ZoneRow) : State :=
  if old = new then s
  else
    match old.used, new.used with
    | true, true =>
      ((s.setZone z (s.zones[z].changed (s.part == .running) old new)).moveQc z old new).emit [.statusPublication z]
    | true, false =>
      let x := s.zones[z].unused old
      (s.setZone z x).emit (zoneHandOvers z old.sect x)
    | false, true => s.setZone z (s.zones[z].used (s.part == .running) new)
    | false, false => s

/-- A unit whose rated power became 0 goes to OFF (R49). -/
def State.commitSect (old s : State) (k : Fin 3) : State :=
  if old.ratedPower k ≠ 0 ∧ s.ratedPower k = 0 then s.runCooler k CoolRun.switchOff else s

/-- The claimants whose capacity a ZONE commit brings up to date: all the zone heaters and cooling units, whose capacity a
row of the table gives (R146), at every ZONE commit; the model's choice (notes/assumptions/63.md). -/
def zoneClaimants : List (Fin 20) := (List.finRange 8).map zoneClaim ++ (List.finRange 3).map coolClaim

/-- Every zone row's part of a ZONE commit. -/
def State.commitZoneRows (old s : State) : State :=
  forEach 8 (fun z t => t.commitZone z (old.zoneRow z) (s.zoneRow z)) s

/-- Every section row's part of a ZONE commit. -/
def State.commitSectRows (old s : State) : State := forEach 3 (fun k t => old.commitSect t k) s

/-- A ZONE commit (R48, R49): the zone rows, the section rows, the units' requests, then the capacities. R146 names the
ZONE commit that changes an installed heater power or a section row; the model brings all eleven capacities up to date at
every ZONE commit, so a change of health whose push is still in flight acts here, and the push then finds nothing changed:
the model's choice (notes/assumptions/63.md). The order and the one recomputation are its choices too (17.md and 55.md). -/
def State.commitZones (old s : State) : State :=
  (old.commitSectRows (old.commitZoneRows s)).coolersCompute.refreshCapacities zoneClaimants false

/-! ### DOOR (R59, R78, R79) -/

/-- A door that stays used: a changed state slot cancels a running debounce, changed burst fields are installed or
staged. -/
def Door.relink (old new : DoorRow) (d : Door) : Door :=
  let d1 := if old.stateSlot = new.stateSlot then d else d.cancelDebounce
  if old.burst = new.burst then d1 else d1.newFields new.burst

def State.commitDoor (s : State) (d : Fin 8) (old new : DoorRow) : State :=
  match old.used, new.used with
  | true, true => s.setDoor d (s.doors[d].relink old new)
  | true, false => s.runDoor d fun _ r => r.retire
  | false, true => s.setDoor d (s.doors[d].enlist new.burst)
  | false, false => s

def State.commitDoors (old s : State) : State :=
  forEach 8 (fun d t => t.commitDoor d (old.doorRow d) (s.doorRow d)) s

/-! ### BAND (R95) and STAGE (R113) -/

def State.commitBand (s : State) : State :=
  forEach 3 (fun k t => t.setLoad k (t.loads[k].applyBand (t.bandOf t.loads[k].count))) s

/-- A STAGE commit: outside stage OFF the present stage's parameters are handed over (R113), and in every stage the
windscreen heater's capacity is brought up to date (R146). -/
def State.commitStage (s : State) : State :=
  (if s.screen.stage = .off then s else s.handStage).refreshCapacities [screenClaim] false

/-! ### CLAIM (R156) and BUDGET (R157) -/

def State.commitClaim (s : State) : State := s.coolersCompute.recompute false

/-- A BUDGET commit: the target with the recomputation of a fall of Beff, then the pool's, then the commit's own: the
model's order (notes/assumptions/50.md). -/
def State.commitBudget (s : State) : State := s.retarget.repool.recompute false

/-! ### OUTPUT (R177) -/

/-- A frame of channel c that is on the bus finishes there and is reported to no block. -/
def State.detachChannel (s : State) (c : Fin 24) : State :=
  let bus := s.climate.onBus.map fun t => if t.src = .channel c then { t with src := .detached } else t
  { s with climate := { s.climate with onBus := bus } }

/-- The source value that a row is formed from; 0 for a row that names none. -/
def State.sourceOf (s : State) (r : OutputRow) : Nat :=
  match r.source with
  | some src => s.sourceValue src
  | none => 0

/-- Channel c is taken as newly used when its row is used. -/
def State.beginChannel (s : State) (c : Fin 24) : State :=
  let r := s.outputRow c
  if r.used then
    s.setChannel c (Channel.begin (s.channelView c) (s.part == .running) (s.commandedFrom r (s.sourceOf r)))
  else s

/-- Channel c as it is after a power-on reset, with nothing of it on the bus. -/
def State.clearChannel (s : State) (c : Fin 24) : State := (s.detachChannel c).setChannel c Channel.reset

def State.clearChannels (s : State) (cs : List (Fin 24)) : State := cs.foldl State.clearChannel s

def State.beginChannels (s : State) (cs : List (Fin 24)) : State := cs.foldl State.beginChannel s

/-- The channels whose row a commit changed. -/
def State.changedChannels (old s : State) : List (Fin 24) :=
  (List.finRange 24).filter fun c => s.outputRow c ≠ old.outputRow c

/-- An OUTPUT commit (R177): the changed channels are cleared, every capacity is brought up to date, each changed channel
that is used begins from its source value with the capacity so updated, and one recomputation follows for all the changes of
capacity: the model's choices (notes/assumptions/62.md for the order, 55.md for the one recomputation). -/
def State.commitOutput (old s : State) : State :=
  let changed := old.changedChannels s
  let cleared := s.clearChannels changed
  let begun := (cleared.updateCapacities (List.finRange 20)).beginChannels changed
  if cleared.capacityChanges (List.finRange 20) then begun.recompute false else begun

/-! ### SYSTEM (R96, R103, R158) -/

/-- A capacity lowered below a count clamps it as a count event (R96). -/
def State.clampLoads (s : State) : State :=
  forEach 3 (fun k t => if t.capacityOf k < t.loads[k].count then t.countEvent k 0 else t) s

/-- The load counter's part: the counts are clamped, and a changed terminus-mark designation takes the mark level from
its slot as it stands (R96). A used SYSTEM row that changes the designation to NONE, which reads as EMPTY (R24), leaves the
level LOW: the model's choice (notes/assumptions/61.md). -/
def State.systemLoad (old s : State) : State :=
  let clamped := s.clampLoads
  if s.sys.used ∧ s.designated .terminusMark ≠ old.designated .terminusMark then
    { clamped with markHigh := (s.roleValue .terminusMark).any (· != 0) }
  else clamped

/-- A changed screen pass interval restarts a running pass timer (R103). -/
def State.systemScreen (old s : State) : State :=
  if s.screenInterval = old.screenInterval then s
  else { s with screen := { s.screen with pass := s.screen.pass.map fun _ => 1000 * s.screenInterval } }

/-- The slot designated for a role as a block reads it: EMPTY with 0 when there is none. -/
def State.readRole (s : State) (role : Role) : Int × SlotStatus :=
  match s.designated role with
  | some i => s.readSlot i
  | none => (0, .empty)

/-- What a changed designation makes of the line state, the permitted power and the surplus (R158). -/
def State.systemAlloc (old s : State) : State :=
  let line := s.readRole .lineState
  let power := s.readRole .permittedPower
  let surplus := s.readRole .surplus
  let a : Alloc :=
    { s.alloc with
      line := if s.designated .lineState = old.designated .lineState then s.alloc.line else lineOf ⟨0, line.1, line.2⟩
      permitted :=
        if s.designated .permittedPower = old.designated .permittedPower then s.alloc.permitted
        else if usableStatus power.2 then some power.1.toNat else none
      surplus :=
        if s.designated .surplus = old.designated .surplus then s.alloc.surplus
        else if surplus.2 = .fresh then some surplus.1.toNat else none }
  (State.retarget { s with alloc := a }).repool

def State.commitSystem (old s : State) : State :=
  old.systemAlloc (old.systemScreen (old.systemLoad s)).coolersCompute

/-! ### The commit -/

/-- The shadow bank of a table becomes its active bank, and its shadow-written mark is cleared (R195). -/
def State.installBank (s : State) (t : TableId) : State :=
  { s with active := s.active.put t (s.shadow.get t), marks := s.marks.set t.index false }

/-- A commit that succeeds: the bank is installed and each block concerned takes it as its event (R195). FRAME, FIELD
and LIST commits change no state but the bank (R14, R50). -/
def State.commitTable (s : State) (t : TableId) : State :=
  let n := s.installBank t
  match t with
  | .frame => n
  | .field => n
  | .slot => s.commitSlot n
  | .zone => s.commitZones n
  | .list => n
  | .door => s.commitDoors n
  | .band => n.commitBand
  | .step => n.movePointer
  | .stage => n.commitStage
  | .claim => n.commitClaim
  | .budget => n.commitBudget
  | .output => s.commitOutput n
  | .system => s.commitSystem n

end Sys2Proof.Machine
end

