-- ==== Sys2Proof/Machine/PartState.lean ====
section
/-! DEFINITION. START, STOP, RESTART and power-on reset at every block (R8, R26, R51 to R53, R80 to R82, R97, R98, R114
to R116, R136, R137, R159, R160, R178, R179, R183 to R186). -/

namespace Sys2Proof.Machine

/-! ### START (R183) -/

/-- START at a used zone (R51). -/
def Zone.start (r : ZoneRow) (x : Zone) : Zone :=
  { x with
    mode := .vent, integral := 0, lastR := 0, qh := 0, qc := 0, sz := r.baseSetpoint, blind := false
    pass := seconds r.interval }

/-- START at zone z: a used zone enters VENT and posts its Qh of 0 (R51, R159). -/
def State.startZone (s : State) (z : Fin 8) : State :=
  if (s.zoneRow z).used then
    (s.setZone z (s.zones[z].start (s.zoneRow z))).emit [.claimPosting (zoneClaim z) 0]
  else s

/-- START at the cooling units: each is in OFF, with no Qc posted since START, and computes and posts its request (R51). -/
def State.startCoolers (s : State) : State := (forEach 3 (fun k t => t.runCooler k CoolRun.rest) s).coolersCompute

/-- START at door d (R81). -/
def State.startDoor (s : State) (d : Fin 8) : State :=
  if (s.doorRow d).used then s.setDoor d s.doors[d].start else s

/-- START at the screen unit (R114). -/
def State.startScreen (s : State) : State :=
  let walking := (s.setPointer s.firstStep).enterStage .watch 0
  let maxed := if 0 < walking.screen.maxCount then walking.enterStage .max 0 else walking
  { maxed with screen := { maxed.screen with margin := none, blind := false, pass := seconds s.screenInterval } }

/-- START at channel c (R178). The source value is as the deliveries taken so far have left it, also where those of an
earlier STOP are still in flight: the model's choice (notes/assumptions/68.md). -/
def State.startChannel (s : State) (c : Fin 24) : State :=
  let r := s.outputRow c
  if r.used then
    s.setChannel c (s.channels[c].start (s.channelView c) (s.commandedFrom r (s.sourceOf r)))
  else s

def State.startZones (s : State) : State := forEach 8 (fun z t => t.startZone z) s

def State.startDoors (s : State) : State := forEach 8 (fun d t => t.startDoor d) s

def State.startChannels (s : State) : State := forEach 24 (fun c t => t.startChannel c) s

/-- START at the override unit: the status timer starts (R133, R136). -/
def State.startOverrides (s : State) : State := { s with overrides := { s.overrides with statusTimer := seconds 1 } }

/-- START with its requirement met: the part is RUNNING, and every block takes START. -/
def State.startPart (s : State) : State :=
  let running : State := { s with part := .running }
  running.startZones.startCoolers.startDoors.startScreen.startOverrides.startChannels.recompute false

/-! ### STOP (R184) -/

/-- STOP at a zone, used or not: mode OFF, and OFF is published with the BLIND flag clear (R52). -/
def Zone.stop (r : ZoneRow) (x : Zone) : Zone :=
  { x with
    mode := .off, qh := 0, qc := 0, blower := 0, freshAir := 0, pass := none
    published := ⟨.off, x.tz.getD r.base, false, r.smax⟩ }

/-- STOP at zone z (R52): it posts its Qc of 0 to the unit of its row's section. An unused zone does so by its unused row,
to no unit where that row's section byte is none of A, B and C, and publishes that row's Smax: the model's choice
(notes/assumptions/70.md). -/
def State.stopZone (s : State) (z : Fin 8) : State :=
  let x := s.zones[z].stop (s.zoneRow z)
  (s.setZone z x).emit (zoneHandOvers z (s.zoneRow z).sect x)

/-- STOP at the screen unit (R115). -/
def State.stopScreen (s : State) : State :=
  let off := s.enterStage .off 0
  { off with screen := { off.screen with margin := none, blind := false, pass := none } }

/-- STOP at channel c (R178). -/
def State.stopChannel (s : State) (c : Fin 24) : State :=
  if (s.outputRow c).used then s.setChannel c (s.channels[c].stop (s.channelView c)) else s

def State.stopZones (s : State) : State := forEach 8 (fun z t => t.stopZone z) s

def State.stopCoolers (s : State) : State := forEach 3 (fun k t => t.runCooler k CoolRun.stop) s

def State.stopDoors (s : State) : State := forEach 8 (fun d t => t.runDoor d fun _ r => r.stop) s

def State.stopChannels (s : State) : State := forEach 24 (fun c t => t.stopChannel c) s

/-- STOP in RUNNING: the part is in STANDBY, and every block takes STOP. What is in flight stays so, but for the notices
of override records (notes/assumptions/53.md), and is taken afterwards by its own rule: the model's choice
(notes/assumptions/64.md). -/
def State.stopPart (s : State) : State :=
  let standby : State := { s with part := .standby }
  standby.stopZones.stopCoolers.stopDoors.stopScreen.emptyTable.clearGrants.stopChannels

/-! ### RESTART (R185) -/

/-- A zone after RESTART (R53). -/
def Zone.restart (r : ZoneRow) : Zone :=
  { Zone.reset with
    sz := if r.used then r.baseSetpoint else 100
    published := ⟨.off, r.base, false, r.smax⟩ }

/-- A door after RESTART: the burst fields of the active row are its working record (R56, R82). -/
def Door.restart (r : DoorRow) : Door :=
  { Door.reset with working := some r.burst, pv := if r.used then r.burst.n else 0 }

/-- A port after RESTART; a frame on its bus is allowed to finish, reported to no block (R8). -/
def Port.restart (x : Port) : Port := { Port.reset with onBus := x.onBus.map fun t => { t with src := .orphan } }

/-- A section record after RESTART: the band looked up for a count of 0 (R98). -/
def State.restartLoad (s : State) (k : Fin 3) : State := s.setLoad k { Load.reset with current := s.bandOf 0 }

/-- The target, the ramp and the capacities after RESTART (R160). -/
def State.restartAlloc (s : State) : State :=
  let base := (s.budgetRow .unknown).base
  let claims : Vector Claim 20 := Vector.ofFn fun c : Fin 20 => ⟨0, s.capacityNow c, 0, 0⟩
  { s with
    alloc := { s.alloc with target := base, ramp := if 0 < base then seconds 1 else none, claims := claims } }

/-- What RESTART keeps, and the records it builds from the kept rows one by one. -/
def State.restartKept (s : State) : State :=
  { State.reset with
    node := s.node, rate := s.rate, active := s.active, shadow := s.shadow, marks := s.marks
    vehicle := s.vehicle.restart, climate := s.climate.restart
    zones := Vector.ofFn fun z : Fin 8 => Zone.restart (s.zoneRow z)
    doors := Vector.ofFn fun d : Fin 8 => Door.restart (s.doorRow d)
    draws := s.draws, pending := s.pending }

def State.restartLoads (s : State) : State := forEach 3 (fun k t => t.restartLoad k) s

/-- RESTART at the part: both banks, the shadow-written marks and the straps are kept, and every block takes the state
its chapter gives (R185). -/
def State.restartPart (s : State) : State := s.restartKept.restartLoads.restartAlloc.beginChannels (List.finRange 24)

/-! ### Power-on reset (R186) -/

/-- Power-on reset: every block in its reset state, the straps sampled. -/
def State.powerOn (s : State) (node : Fin 4) (rate : BitRate) : State :=
  { State.reset with node := node, rate := rate, draws := s.draws, pending := s.pending }

/-! ### The meaning -/

/-- POWER_ON_RESET (R186). -/
def execPowerOnReset (node : Fin 4) (rate : BitRate) (s : State) : Host.Outcome State Fault Refusal :=
  .next (s.powerOn node rate)

end Sys2Proof.Machine
end

