-- ==== Sys2Proof/Machine/Responses.lean ====
section
/-! DEFINITION. Service responses: their frames (R181, R207), the room check (R182), and the content that the part
reports about its state (R197 to R200, R207). -/

namespace Sys2Proof.Machine

/-! ### Frames of a response (R181, R207) -/

/-- Frame k, counted from 0, of a response of n frames: request code, place, count, result and six content bytes. -/
def responseFrame (node : Fin 4) (code : Nat) (r : Result) (content : List Byte) (n k : Nat) : Frame :=
  ⟨canId (serviceResponseId node),
    [byteOf (code + 32 * (k + 1) : Nat), byteOf (n + 8 * r.code : Nat)]
      ++ (List.range 6).map fun j => content.getD (6 * k + j) 0⟩

/-- The number of frames that carry a content: one for each six bytes, and one at least. -/
def framesOf (content : List Byte) : Nat := max 1 ((content.length + 5) / 6)

/-- The frames of a response, in place order. -/
def responseFrames (node : Fin 4) (code : Nat) (r : Result) (content : List Byte) : List Frame :=
  (List.range (framesOf content)).map fun k => responseFrame node code r content (framesOf content) k

/-- A response is offered to the vehicle port: it joins the response queue, and a port in BUS_OFF discards it (R3). The
free bytes of the response after it are others. -/
def State.answer (s : State) (code : Nat) (r : Result) (content : List Byte) : State :=
  if s.vehicle.link = .on then
    { s with responses := s.responses ++ responseFrames s.node code r content, draws := s.draws + 1 }
  else s

/-- A byte of the next response for which the spec states no value, by its place (notes/assumptions/21.md). -/
def State.freeByte (s : State) (place : Nat) : Byte := Config.freeByte place s.draws

/-! ### The room check (R182) -/

/-- A request whose response takes n frames: carried out with room for them all, else answered BUSY while one place is
free, else discarded with SERVICE_DROPPED set. -/
def State.withRoom (s : State) (code n : Nat) (act : State → State) : State :=
  if s.responses.length + n ≤ 16 then act s
  else if s.responses.length < 16 then s.answer code .busy []
  else s.raise .serviceDropped

/-- A request that changes the part by `f` and is answered in one frame with the result and content that `f` gives. -/
def State.serveOne (s : State) (code : Nat) (f : State → State × Result × List Byte) : State :=
  s.withRoom code 1 fun t => let r := f t; r.1.answer code r.2.1 r.2.2

/-- A read: its content, or a refusal with RANGE when there is none; it changes nothing but the queue. -/
def State.serveRead (s : State) (code : Nat) (content : Option (List Byte)) : State :=
  match content with
  | some c => s.withRoom code (framesOf c) fun t => t.answer code .ok c
  | none => s.withRoom code 1 fun t => t.answer code .range []

/-! ### Contents (R207) -/

/-- A number in two bytes, from a natural number. -/
def two (n : Nat) : List Byte := le16 n

/-- The code of a halt code; 0 is NONE (R204). -/
def HaltCode.code : HaltCode → Nat
  | .sequence => 1
  | .length => 2
  | .range => 3
  | .timeout => 4

/-- The load engine's state, halt code and fragment pointer (R190); with no open row the pointer's byte is free. -/
def Engine.report (free : Byte) : Engine → List Byte
  | .idle => [0, 0, free]
  | .assembling o => [1, 0, byteOf o.buffer.length]
  | .halted h => [2, byteOf h.code, free]

/-- The open table and row; with no open row the table reads 0 (R207) and the row's byte is free. -/
def Engine.openReport (free : Byte) : Engine → List Byte
  | .assembling o => [byteOf o.table.code, byteOf o.row]
  | _ => [0, free]

/-- The code of the bit rate in the IDENTIFY response. -/
def bitRateCode : BitRate → Nat
  | .kbit125 => 0
  | .kbit250 => 1
  | .kbit500 => 2
  | .kbit1000 => 3

def State.isRunning (s : State) : Bool := s.part == .running

/-- IDENTIFY (R198). The design level is the one open number of the spec (notes/assumptions/1.md). -/
def State.identifyContent (s : State) : List Byte :=
  two 740 ++ [byteOf (Config.designLevelLess1.val + 1 : Nat),
    byteOf (s.node.val + 4 * bitRateCode s.rate + flagBit s.isRunning 16 : Nat)]

/-- READ_SLOT (R22): an unused slot reads as EMPTY with 0, and reports kind 0. -/
def State.slotContent (s : State) (i : Fin 64) : List Byte :=
  let r := s.slotRow i
  let kind := if r.used then (match r.kind with
    | some k => k.code
    | none => 0) else 0
  le16 (s.readSlot i).1
    ++ [byteOf (slotStatusCode (s.readSlot i).2), byteOf (flagBit s.slots[i].clamped 1 : Nat), byteOf kind]

/-- READ_ZONE (R41). -/
def State.zoneContent (s : State) (z : Fin 8) : List Byte :=
  let x := s.zones[z]
  [byteOf x.mode.code, byteOf (flagBit x.blind 1 : Nat)] ++ le16 (x.tz.getD (s.zoneRow z).base) ++ le16 x.sz
    ++ le16 x.integral ++ le16 x.lastR ++ two x.qh ++ two x.qc ++ two x.blower ++ two x.freshAir

/-- The code of a burst state (R204). -/
def BurstState.code : BurstState → Nat
  | .idle => 0
  | .delay => 1
  | .burst => 2
  | .gap => 3
  | .recovery => 4

/-- READ_DOOR (R57); the remaining time of a stopped door timer is free. -/
def State.doorContent (s : State) (i : Fin 8) : List Byte :=
  let d := s.doors[i]
  let candidate := match d.candidate with
    | none => 0
    | some false => 1
    | some true => 2
  [byteOf (flagBit d.isOpen 1 + flagBit d.latch 2 + flagBit d.serviceMask 4 + flagBit d.overrideMask 8
      + flagBit s.groupMask 16 + flagBit (d.masked s.groupMask) 32 + flagBit d.ending 64
      + flagBit d.staged.isSome 128 : Nat),
    byteOf (candidate : Nat), byteOf d.burst.code, byteOf d.pv]
    ++ (if d.timer = none then [s.freeByte 4, s.freeByte 5] else two (Timer.wholeSeconds d.timer)) ++ [byteOf d.series, byteOf d.dropped] ++ two d.accum ++ [0, 0]

/-- The code of a cooling unit's state (R204). -/
def CoolState.code : CoolState → Nat
  | .off => 0
  | .run => 1
  | .lockout => 2

/-- A band as one byte: 0xFF for NONE. -/
def bandByte : Option Nat → Byte
  | some i => byteOf i
  | none => 255

/-- READ_SECTION (R47, R83); with no band pending the pending target is free, and with the dwell timer stopped the
remaining dwell. -/
def State.sectContent (s : State) (k : Fin 3) : List Byte :=
  let l := s.loads[k]
  let c := s.coolers[k]
  [byteOf l.count, byteOf (s.capacityOf k),
    byteOf (flagBit l.isOver 1 + flagBit l.isUnder 2 + flagBit l.armed 4 + flagBit s.markHigh 8
      + flagBit l.pendingBand.isSome 16 : Nat),
    bandByte l.current, (l.pendingBand.map bandByte).getD (s.freeByte 2),
    if l.dwell = none then s.freeByte 3 else byteOf (Timer.wholeSeconds l.dwell), byteOf c.state.code, 0]
    ++ two c.posted ++ two c.grant ++ two c.demand ++ [0, 0, 0, 0]

/-- READ_CLAIM (R138). -/
def State.claimContent (s : State) (c : Fin 20) : List Byte :=
  let x := s.alloc.claims[c]
  two (x.posted + 4096 * (s.claimRow c).level) ++ two (x.capacity + 4096 * s.effectiveLevel c)
    ++ two (x.effective + 4096 * s.alloc.line.code) ++ two (s.claimRow c).minimum ++ two x.regular ++ two x.absorption
    ++ two s.alloc.target ++ two s.alloc.beff ++ two s.alloc.pool

/-- The code of a pending frame (R207). -/
def PendingFrame.code : PendingFrame → Nat
  | .none => 0
  | .waiting => 1
  | .offered => 2

/-- An OUTPUT row as READ_CHANNEL sends it: its layout, the spare bits of byte 0 as 0 (R203, R207). -/
def sentOutputRow (r : RowBytes) : RowBytes := byteOf (u8 r 0 % 2 : Nat) :: r.drop 1

/-- The source value that channel c is formed from (R163). An unused row, whose fields have no effect (R162), and a row whose
function and target name no source have none: two free bytes (notes/assumptions/21.md). -/
def State.channelSource (s : State) (c : Fin 24) : List Byte :=
  let r := s.outputRow c
  match r.used, r.source with
  | true, some src => two (s.sourceValue src)
  | _, _ => [s.freeByte 6, s.freeByte 7]

/-- READ_CHANNEL (R163): the OUTPUT row, then the channel's record. A channel that is not SWITCH reports its window elapsed
and ON time as 0, which is what R179 and the taking into use of a changed row leave: the model's choice
(notes/assumptions/51.md). -/
def State.channelContent (s : State) (c : Fin 24) : List Byte :=
  let x := s.channels[c]
  sentOutputRow (s.active.row .output c)
    ++ two (x.commanded + 1024 * x.frame.code + flagBit x.faulted 4096 + flagBit x.replyWait.isSome 8192
      + 16384 * x.misses)
    ++ two x.output ++ two (x.lastCarried.getD 0xFFFF) ++ s.channelSource c ++ two x.elapsed ++ two x.onTime

/-- The thirteen shadow-written marks, bit (table code − 1) for each table (R207). -/
def State.markBits (s : State) : Nat := (allTables.map fun t => flagBit s.marks[t.index] (2 ^ t.index.val)).sum

/-- STATUS (R197). -/
def State.statusContent (s : State) : List Byte :=
  let c := s.screen
  [byteOf (flagBit s.isRunning 1 : Nat)] ++ (s.engine.report (s.freeByte 0)).take 2
    ++ s.engine.openReport (s.freeByte 1) ++ (s.engine.report (s.freeByte 0)).drop 2
    ++ two s.flags.bits ++ two s.markBits
    ++ [byteOf (flagBit (s.vehicle.link == .busOff) 1 + flagBit (s.climate.link == .busOff) 2 : Nat)]
    ++ two s.vehicle.drops ++ two s.climate.drops
    ++ [byteOf c.stage.code, bandByte c.pointer] ++ le24 (c.margin.getD 0)
    ++ [byteOf (flagBit c.margin.isNone 1 + flagBit c.blind 2 : Nat)] ++ two (min 65535 (c.stageMs / 1000))
    ++ [byteOf s.overrides.seq, byteOf s.overrides.table.length, byteOf (flagBit s.overrides.present 1 : Nat),
      0, 0, 0, 0]

/-- The row that READ_ROW names: known table, row index below the row count, bank ACTIVE (0) or SHADOW (1) (R199). -/
def State.rowContent (s : State) (table row bank : Byte) : Option (List Byte) :=
  match TableId.ofCode table.toNat with
  | none => none
  | some t =>
    if row.toNat < t.rowCount then
      match bank.toNat with
      | 0 => some (s.active.row t row.toNat)
      | 1 => some (s.shadow.row t row.toNat)
      | _ => none
    else none

end Sys2Proof.Machine
end

