-- ==== Sys2Proof/Machine/Loading.lean ====
section
/-! DEFINITION. The load engine (section 9.4): the assembly of table rows, COMMIT, ABANDON, ROW_CLEAR, LOAD_RESUME and
the assembly timer. -/

namespace Sys2Proof.Machine

/-- What a load request leaves: the part, the result, and the refused row index of INVALID. -/
abbrev LoadOutcome := State × Result × List Byte

/-- The entry to HALTED: the open row is discarded with its timer, and LOAD_HALTED is set (R190). -/
def State.halt (s : State) (h : HaltCode) : State := State.raise { s with engine := .halted h } .loadHalted

/-- The result of a request that halts the engine. -/
def HaltCode.result : HaltCode → Result
  | .sequence => .sequence
  | .length => .length
  | .range => .range
  | .timeout => .halted

/-- A request that halts the engine. -/
def State.haltWith (s : State) (h : HaltCode) : LoadOutcome := (s.halt h, h.result, [])

/-- A request that only the state IDLE carries out: SEQUENCE in ASSEMBLING, HALTED in HALTED. -/
def State.whenIdle (s : State) (f : State → LoadOutcome) : LoadOutcome :=
  match s.engine with
  | .idle => f s
  | .assembling _ => s.haltWith .sequence
  | .halted _ => (s, .halted, [])

/-- A request that only the state ASSEMBLING carries out: SEQUENCE in IDLE, HALTED in HALTED. -/
def State.whenAssembling (s : State) (f : OpenRow → LoadOutcome) : LoadOutcome :=
  match s.engine with
  | .idle => s.haltWith .sequence
  | .assembling o => f o
  | .halted _ => (s, .halted, [])

/-- The table that a byte names, or a refusal with RANGE. -/
def State.withTable (s : State) (table : Byte) (f : TableId → LoadOutcome) : LoadOutcome :=
  match TableId.ofCode table.toNat with
  | some t => f t
  | none => (s, .range, [])

/-- A load request is answered in one frame that reports the engine after it (R190, R207). -/
def State.serveLoad (s : State) (code : Nat) (f : State → LoadOutcome) : State :=
  s.serveOne code fun t => let r := f t; (r.1, r.2.1, r.1.engine.report (t.freeByte 0) ++ r.2.2)

/-- The shadow bank's rows of a table replaced, and its mark set (R187). -/
def State.writeShadow (s : State) (t : TableId) (rows : List RowBytes) : State :=
  { s with shadow := s.shadow.put t rows, marks := s.marks.set t.index true }

/-! ### The requests (R191 to R196) -/

/-- ROW_OPEN (R191). -/
def State.openRow (table row : Byte) (s : State) : LoadOutcome :=
  s.whenIdle fun s => s.withTable table fun t =>
    if row.toNat < t.rowCount then ({ s with engine := .assembling ⟨t, row.toNat, [], 5000⟩ }, .ok, [])
    else (s, .range, [])

/-- ROW_DATA (R192). -/
def State.placeData (bytes : List Byte) (s : State) : LoadOutcome :=
  s.whenAssembling fun o =>
    if o.buffer.length + 6 ≤ o.table.rowLength then
      ({ s with engine := .assembling { o with buffer := o.buffer ++ bytes } }, .ok, [])
    else s.haltWith .length

/-- ROW_CLOSE (R193). -/
def State.closeRow (s : State) : LoadOutcome :=
  s.whenAssembling fun o =>
    if o.buffer.length < o.table.rowLength then s.haltWith .length
    else if rowCloseOk o.table o.row o.buffer then
      ({ s.writeShadow o.table ((s.shadow.get o.table).set o.row o.buffer) with engine := .idle }, .ok, [])
    else s.haltWith .range

/-- ROW_CLEAR (R196); the row byte 0xFF is ALL. -/
def State.clearRow (table row : Byte) (s : State) : LoadOutcome :=
  s.whenIdle fun s => s.withTable table fun t =>
    if row = 255 then (s.writeShadow t t.resetRows, .ok, [])
    else if row.toNat < t.rowCount then (s.writeShadow t ((s.shadow.get t).set row.toNat t.resetRow), .ok, [])
    else (s, .range, [])

/-- COMMIT (R195). -/
def State.commitBank (table : Byte) (s : State) : LoadOutcome :=
  s.whenIdle fun s => s.withTable table fun t =>
    match firstBadRow s.node t (s.shadow.get t) with
    | some i => (s, .invalid, [byteOf i])
    | none => (s.commitTable t, .ok, [])

/-- ABANDON (R196). -/
def State.abandonBank (table : Byte) (s : State) : LoadOutcome :=
  s.whenIdle fun s => s.withTable table fun t =>
    ({ s with shadow := s.shadow.put t (s.active.get t), marks := s.marks.set t.index false }, .ok, [])

/-- LOAD_RESUME (R194). -/
def State.resumeLoad (s : State) : LoadOutcome :=
  match s.engine with
  | .halted _ => ({ s with engine := .idle }, .ok, [])
  | _ => (s, .ok, [])

/-- The assembly timer expires in ASSEMBLING (R194). -/
def State.assemblyExpiry (s : State) : State :=
  match s.engine with
  | .assembling _ => s.halt .timeout
  | _ => s

end Sys2Proof.Machine
end

