-- ==== Sys2Proof/Machine/Service.lean ====
section
/-! DEFINITION. The service engine (chapter 9): each service request as it is taken, and the sorting of a service
frame by its code and length (R180, R206). -/

namespace Sys2Proof.Machine

/-! ### Reading (R197 to R200) -/

def State.reqIdentify (s : State) : State := s.serveRead 1 (some s.identifyContent)

/-- STATUS clears the flags as its response is queued (R197). Sent as a direct command to a part whose vehicle port is in
BUS_OFF, which discards the response (R3), it clears them all the same: the model's choice (notes/assumptions/66.md). -/
def State.reqStatus (s : State) : State :=
  s.withRoom 2 5 fun t => { t.answer 2 .ok t.statusContent with flags := EventFlags.clear }

def State.reqReadRow (s : State) (table row bank : Byte) : State := s.serveRead 9 (s.rowContent table row bank)
def State.reqReadSlot (s : State) (i : Byte) : State := s.serveRead 10 ((indexOf 64 i).map s.slotContent)
def State.reqReadZone (s : State) (i : Byte) : State := s.serveRead 11 ((indexOf 8 i).map s.zoneContent)
def State.reqReadDoor (s : State) (i : Byte) : State := s.serveRead 12 ((indexOf 8 i).map s.doorContent)
def State.reqReadSection (s : State) (i : Byte) : State := s.serveRead 13 ((indexOf 3 i).map s.sectContent)
def State.reqReadClaim (s : State) (i : Byte) : State := s.serveRead 14 ((indexOf 20 i).map s.claimContent)
def State.reqReadChannel (s : State) (i : Byte) : State := s.serveRead 15 ((indexOf 24 i).map s.channelContent)

/-! ### Loading (R191 to R196) -/

def State.reqRowOpen (s : State) (table row : Byte) : State := s.serveLoad 3 (State.openRow table row)
def State.reqRowData (s : State) (bytes : List Byte) : State := s.serveLoad 4 (State.placeData bytes)
def State.reqRowClose (s : State) : State := s.serveLoad 5 State.closeRow
def State.reqRowClear (s : State) (table row : Byte) : State := s.serveLoad 6 (State.clearRow table row)
def State.reqCommit (s : State) (table : Byte) : State := s.serveLoad 7 (State.commitBank table)
def State.reqAbandon (s : State) (table : Byte) : State := s.serveLoad 8 (State.abandonBank table)
def State.reqLoadResume (s : State) : State := s.serveLoad 19 State.resumeLoad

/-! ### Part state (R183 to R185) -/

/-- START needs a used SYSTEM row and a used zone row (R183). -/
def State.canStart (s : State) : Bool := s.sys.used && (List.finRange 8).any fun z => (s.zoneRow z).used

def State.reqStart (s : State) : State :=
  s.serveOne 16 fun t =>
    if t.part = .running then (t, .state, [])
    else if t.canStart then (t.startPart, .ok, []) else (t, .incomplete, [])

def State.reqStop (s : State) : State :=
  s.serveOne 17 fun t => if t.part = .running then (t.stopPart, .ok, []) else (t, .state, [])

/-- RESTART is not subject to the room check: its response is the first frame of the emptied queue (R182, R185). -/
def State.reqRestart (s : State) : State := s.restartPart.answer 18 .ok []

/-! ### Requests to the blocks (R201) -/

/-- The service mask of each door of the set (R62). -/
def State.maskSet (s : State) (on : Bool) (doors : Byte) : State :=
  (doorSet doors).foldl (fun (u : State) d => u.setServiceMask on d) s

/-- The terminus arm of each section of the set (R92). -/
def State.armSet (s : State) (armed : Bool) (sections : Byte) : State :=
  (sectSet sections).foldl (fun (u : State) k => u.setArm armed k) s

/-- The pending latch of each door of the set (R64). -/
def State.clearSet (s : State) (doors : Byte) : State := (doorSet doors).foldl State.clearLatch s

def State.reqClearPending (s : State) (doors : Byte) : State :=
  s.serveOne 20 fun t => (t.clearSet doors, .ok, [])

def State.reqMaskDoors (s : State) (on : Bool) (doors : Byte) : State :=
  s.serveOne (if on then 21 else 22) fun t => (t.maskSet on doors, .ok, [])

def State.reqArmTerminus (s : State) (armed : Bool) (sections : Byte) : State :=
  s.serveOne (if armed then 23 else 24) fun t => (t.armSet armed sections, .ok, [])

def State.reqLoadSet (s : State) (sec count : Byte) : State :=
  s.serveOne 25 fun t =>
    match indexOf 3 sec with
    | some k =>
      if count.toNat ≤ t.capacityOf k then
        let u := t.loadSet k count.toNat
        (u, .ok, [byteOf u.loads[k].count, bandByte u.loads[k].current])
      else (t, .range, [])
    | none => (t, .range, [])

/-- The content of an OVERRIDE_SET or OVERRIDE_RELEASE response: the record as stored, and always the table sequence
(R134, R207). -/
def State.overrideContent (s : State) (r : Report) : List Byte :=
  le16 r.value ++ [byteOf r.duration, byteOf r.seq, byteOf r.place, byteOf s.overrides.seq]

def State.reqOverrideSet (s : State) (kind target : Byte) (v : BitVec 16) (d : Byte) : State :=
  s.serveOne 26 fun t =>
    let r := t.setOverride kind target v d .service
    (r.1, r.2.result, r.1.overrideContent r.2)

def State.reqOverrideRelease (s : State) (kind target : Byte) : State :=
  s.serveOne 27 fun t =>
    let r := t.releaseOverride kind target
    (r.1, r.2.result, r.1.overrideContent r.2)

/-! ### Service frames (R180, R206) -/

/-- The length of each request, its code byte counted; none for a code that names no request (R206). -/
def requestLength (code : Nat) : Option Nat :=
  [none, some 1, some 1, some 3, some 7, some 1, some 3, some 2, some 2, some 4, some 2, some 2, some 2, some 2,
    some 2, some 2, some 1, some 1, some 1, some 1, some 2, some 2, some 2, some 2, some 2, some 3, some 6,
    some 3].getD code none

/-- A FORMAT answer to a known code: a load request reports its engine, and an override request the table sequence
(R180, R207). -/
def State.formatContent (s : State) (code : Nat) : List Byte :=
  if (3 ≤ code ∧ code ≤ 8) ∨ code = 19 then s.engine.report (s.freeByte 0)
  else if code = 26 ∨ code = 27 then s.overrideContent (Report.only .format)
  else []

/-- A frame with no data bytes or an unknown code is answered FORMAT under the code 0, with the code received as
content byte 0 (R203). -/
def State.formatUnknown (s : State) (received : Byte) : State := s.serveOne 0 fun t => (t, .format, [received])

/-- A request of a known code and sufficient length is carried out; `a i` is byte i of the frame (R206). -/
def State.carryOut (s : State) (code : Nat) (a : Nat → Byte) : State :=
  match code with
  | 1 => s.reqIdentify
  | 2 => s.reqStatus
  | 3 => s.reqRowOpen (a 1) (a 2)
  | 4 => s.reqRowData [a 1, a 2, a 3, a 4, a 5, a 6]
  | 5 => s.reqRowClose
  | 6 => s.reqRowClear (a 1) (a 2)
  | 7 => s.reqCommit (a 1)
  | 8 => s.reqAbandon (a 1)
  | 9 => s.reqReadRow (a 1) (a 2) (a 3)
  | 10 => s.reqReadSlot (a 1)
  | 11 => s.reqReadZone (a 1)
  | 12 => s.reqReadDoor (a 1)
  | 13 => s.reqReadSection (a 1)
  | 14 => s.reqReadClaim (a 1)
  | 15 => s.reqReadChannel (a 1)
  | 16 => s.reqStart
  | 17 => s.reqStop
  | 18 => s.reqRestart
  | 19 => s.reqLoadResume
  | 20 => s.reqClearPending (a 1)
  | 21 => s.reqMaskDoors true (a 1)
  | 22 => s.reqMaskDoors false (a 1)
  | 23 => s.reqArmTerminus true (a 1)
  | 24 => s.reqArmTerminus false (a 1)
  | 25 => s.reqLoadSet (a 1) (a 2)
  | 26 => s.reqOverrideSet (a 1) (a 2) (a 4 ++ a 3) (a 5)
  | 27 => s.reqOverrideRelease (a 1) (a 2)
  | _ => s

/-- A service request frame, sorted by its first byte and its data length (R180). -/
def State.serviceFrame (s : State) (data : List Byte) : State :=
  match data with
  | [] => s.formatUnknown 0
  | c :: _ =>
    match requestLength c.toNat with
    | none => s.formatUnknown c
    | some n =>
      if data.length < n then s.serveOne c.toNat fun t => (t, .format, t.formatContent c.toNat)
      else s.carryOut c.toNat fun i => data.getD i 0

/-! ### The meanings -/

/-- ASSEMBLY_TIMER_EXPIRY (R194). -/
def execAssemblyTimerExpiry (s : State) : Host.Outcome State Fault Refusal := .next s.assemblyExpiry

/-- IDENTIFY (R198). -/
def execIdentify (s : State) : Host.Outcome State Fault Refusal := .next s.reqIdentify

/-- STATUS (R197). -/
def execStatus (s : State) : Host.Outcome State Fault Refusal := .next s.reqStatus

/-- ROW_OPEN (R191). -/
def execRowOpen (table row : Byte) (s : State) : Host.Outcome State Fault Refusal := .next (s.reqRowOpen table row)

/-- ROW_DATA (R192). -/
def execRowData (b0 b1 b2 b3 b4 b5 : Byte) (s : State) : Host.Outcome State Fault Refusal :=
  .next (s.reqRowData [b0, b1, b2, b3, b4, b5])

/-- ROW_CLOSE (R193). -/
def execRowClose (s : State) : Host.Outcome State Fault Refusal := .next s.reqRowClose

/-- ROW_CLEAR (R196). -/
def execRowClear (table row : Byte) (s : State) : Host.Outcome State Fault Refusal := .next (s.reqRowClear table row)

/-- COMMIT (R195). -/
def execCommit (table : Byte) (s : State) : Host.Outcome State Fault Refusal := .next (s.reqCommit table)

/-- ABANDON (R196). -/
def execAbandon (table : Byte) (s : State) : Host.Outcome State Fault Refusal := .next (s.reqAbandon table)

/-- LOAD_RESUME (R194). -/
def execLoadResume (s : State) : Host.Outcome State Fault Refusal := .next s.reqLoadResume

/-- READ_ROW (R199). -/
def execReadRow (table row bank : Byte) (s : State) : Host.Outcome State Fault Refusal :=
  .next (s.reqReadRow table row bank)

/-- READ_SLOT (R200). -/
def execReadSlot (slot : Byte) (s : State) : Host.Outcome State Fault Refusal := .next (s.reqReadSlot slot)

/-- READ_ZONE (R200). -/
def execReadZone (zone : Byte) (s : State) : Host.Outcome State Fault Refusal := .next (s.reqReadZone zone)

/-- READ_DOOR (R200). -/
def execReadDoor (door : Byte) (s : State) : Host.Outcome State Fault Refusal := .next (s.reqReadDoor door)

/-- READ_SECTION (R200). -/
def execReadSection (sec : Byte) (s : State) : Host.Outcome State Fault Refusal := .next (s.reqReadSection sec)

/-- READ_CLAIM (R200). -/
def execReadClaim (claimant : Byte) (s : State) : Host.Outcome State Fault Refusal := .next (s.reqReadClaim claimant)

/-- READ_CHANNEL (R200). -/
def execReadChannel (channel : Byte) (s : State) : Host.Outcome State Fault Refusal := .next (s.reqReadChannel channel)

/-- START (R183). -/
def execStart (s : State) : Host.Outcome State Fault Refusal := .next s.reqStart

/-- STOP (R184). -/
def execStop (s : State) : Host.Outcome State Fault Refusal := .next s.reqStop

/-- RESTART (R185). -/
def execRestart (s : State) : Host.Outcome State Fault Refusal := .next s.reqRestart

/-- CLEAR_PENDING (R64, R201). -/
def execClearPending (doors : Byte) (s : State) : Host.Outcome State Fault Refusal := .next (s.reqClearPending doors)

/-- MASK_DOORS (R62, R201). -/
def execMaskDoors (doors : Byte) (s : State) : Host.Outcome State Fault Refusal := .next (s.reqMaskDoors true doors)

/-- UNMASK_DOORS (R62, R201). -/
def execUnmaskDoors (doors : Byte) (s : State) : Host.Outcome State Fault Refusal := .next (s.reqMaskDoors false doors)

/-- ARM_TERMINUS (R92, R201). -/
def execArmTerminus (sections : Byte) (s : State) : Host.Outcome State Fault Refusal :=
  .next (s.reqArmTerminus true sections)

/-- DISARM_TERMINUS (R92, R201). -/
def execDisarmTerminus (sections : Byte) (s : State) : Host.Outcome State Fault Refusal :=
  .next (s.reqArmTerminus false sections)

/-- LOAD_SET (R94). -/
def execLoadSet (sec count : Byte) (s : State) : Host.Outcome State Fault Refusal := .next (s.reqLoadSet sec count)

/-- OVERRIDE_SET (R134). -/
def execOverrideSet (kind target : Byte) (v : BitVec 16) (d : Byte) (s : State) : Host.Outcome State Fault Refusal :=
  .next (s.reqOverrideSet kind target v d)

/-- OVERRIDE_RELEASE (R134). -/
def execOverrideRelease (kind target : Byte) (s : State) : Host.Outcome State Fault Refusal :=
  .next (s.reqOverrideRelease kind target)

end Sys2Proof.Machine
end

