-- ==== Sys2Proof/Machine/Arrival.lean ====
section
/-! DEFINITION. The frame classifier (sections 1.2 and 1.3): the lookup of an arrival, the delivery of its fields, its
hand-over to a block, and its forward copy. -/

namespace Sys2Proof.Machine

/-- The frame map row that an arrival hits, if any: a used row with its port and identifier (R10). -/
def State.lookup (s : State) (p : PortName) (id : CanId) : Option Nat :=
  (List.range 48).find? fun i =>
    (s.frameRow i).used && portOfCode (s.frameRow i).portCode == some p && (s.frameRow i).id == id.toNat

/-- One field row of the run: skipped at width 0, skipped with FIELD_SHORT when short, else scaled and delivered to its
target slot (R11, R16, R17). -/
def State.deliverField (data : List Byte) (s : State) (r : FieldRow) : State :=
  if r.width = 0 then s
  else if r.isShort data.length then s.raise .fieldShort
  else
    match slotOfCode r.target with
    | some i => s.slotArrival i (r.scaled data)
    | none => s

/-- The field rows of a SIGNAL row, in run order (R9). -/
def State.run (s : State) (r : FrameRow) : List FieldRow :=
  (List.range r.count).map fun j => s.fieldRow (r.first + j)

/-- What a hit does by its class (R11, R12). -/
def State.hit (s : State) (r : FrameRow) (f : Frame) : State :=
  match r.cls with
  | some .signal => (s.run r).foldl (State.deliverField f.data) s
  | some .panel => s.panelFrame f
  | some .reply => s.takeReply f.id f.data
  | some .pass => s
  | none => s

/-- Whether the arrival is forwarded (R13). -/
def State.forwards (s : State) (p : PortName) (found : Option Nat) : Bool :=
  match found with
  | some i => (s.frameRow i).forward
  | none => s.passThrough p

/-- Whether the arrival carries the part's service request identifier on the vehicle port (R10). -/
def State.isService (s : State) (p : PortName) (f : Frame) : Bool :=
  p == .vehicle && f.id.toNat == serviceRequestId s.node

/-- An arrival that is no service request: what its hit does, and its forward copy (R10 to R14). -/
def State.classify (s : State) (p : PortName) (f : Frame) : State :=
  let found := s.lookup p f.id
  let t := match found with
    | some i => s.hit (s.frameRow i) f
    | none => s
  if s.forwards p found then t.offerForward (otherPort p) f else t

/-- A complete data frame on the bus of port p; a port in BUS_OFF does not take it (R1). -/
def State.arrive (s : State) (p : PortName) (f : Frame) : State :=
  if (s.port p).link = .busOff then s
  else if s.isService p f then s.serviceFrame f.data
  else s.classify p f

/-! ### The meaning -/

/-- FRAME_ARRIVAL (R10). A frame of more than 8 data bytes is no CAN frame (R1). -/
def execFrameArrival (p : PortName) (f : Frame) (s : State) : Host.Outcome State Fault Refusal :=
  if f.data.length ≤ 8 then .next (s.arrive p f) else .refused .notACanFrame

end Sys2Proof.Machine
end

