-- ==== Sys2Proof/Machine/Time.lean ====
section
/-! DEFINITION. Time: the expiries that are due, in a fixed order, and the passing of one ms over every running timer
(00_scope.md, Time and events; notes/assumptions/4.md and 6.md). -/

namespace Sys2Proof.Machine

/-- A timer is due when it runs with no time remaining. -/
def Timer.due (t : Timer) : Bool := t == some 0

/-- One ms off a running timer. -/
def Timer.tick (t : Timer) : Timer := t.map fun n => n - 1

/-- e when the condition holds. -/
def dueIf (b : Bool) (e : Instr) : List Instr := if b then [e] else []

/-! ### Due expiries -/

def State.dueSlots (s : State) : List Instr :=
  (List.finRange 64).flatMap fun i =>
    dueIf (Timer.due s.slots[i].fresh) (.freshTimerExpiry i) ++ dueIf (Timer.due s.slots[i].hold) (.holdTimerExpiry i)

def State.dueCoolers (s : State) : List Instr :=
  (List.finRange 3).flatMap fun k =>
    dueIf (Timer.due s.coolers[k].minOn) (.minimumOnExpiry k)
      ++ dueIf (Timer.due s.coolers[k].minOff) (.minimumOffExpiry k)

/-- The expiry of a door timer, by the burst state that it ends. -/
def doorExpiry (d : Fin 8) : BurstState → List Instr
  | .idle => []
  | .delay => [.delayExpiry d]
  | .burst => [.burstExpiry d]
  | .gap => [.gapExpiry d]
  | .recovery => [.recoveryExpiry d]

def State.dueDoors (s : State) : List Instr :=
  (List.finRange 8).flatMap fun d =>
    dueIf (Timer.due s.doors[d].debounce) (.debounceExpiry d)
      ++ (if Timer.due s.doors[d].timer then doorExpiry d s.doors[d].burst else [])

/-- Records whose remaining time is over, while the part is RUNNING (R127). -/
def State.dueRecords (s : State) : List Instr :=
  if s.part = .running then
    s.overrides.table.flatMap fun r => dueIf (Timer.due r.remaining) (.recordExpiry r.kind r.target)
  else []

def State.dueChannels (s : State) : List Instr :=
  (List.finRange 24).flatMap fun c =>
    let x := s.channels[c]
    dueIf (x.hasOnEnd (s.channelView c) && x.onTime ≤ x.elapsed) (.onEnd c)
      ++ dueIf (Timer.due x.window) (.windowExpiry c)
      ++ dueIf (Timer.due x.spacing) (.spacingExpiry c)
      ++ dueIf (Timer.due x.periodic) (.periodicExpiry c)
      ++ dueIf (Timer.due x.replyWait) (.replyWaitExpiry c)

/-- Every expiry that is due. -/
def State.dueNow (s : State) : List Instr :=
  dueIf (Timer.due s.vehicle.busOff) (.busOffExpiry .vehicle)
    ++ dueIf (Timer.due s.climate.busOff) (.busOffExpiry .climate)
    ++ s.dueSlots
    ++ (List.finRange 3).flatMap (fun k => dueIf (Timer.due s.loads[k].dwell) (.dwellTimerExpiry k))
    ++ s.dueDoors
    ++ s.dueRecords
    ++ dueIf (Timer.due s.overrides.panelTimer) .panelTimerExpiry
    ++ dueIf (Timer.due s.alloc.ramp) .rampExpiry
    ++ s.dueCoolers
    ++ (List.finRange 8).flatMap (fun z => dueIf (Timer.due s.zones[z].pass) (.zonePass z))
    ++ dueIf (Timer.due s.screen.pass) .screenPass
    ++ s.dueChannels
    ++ dueIf (Timer.due s.overrides.statusTimer) .statusTimerExpiry
    ++ (match s.engine with
      | .assembling o => dueIf (o.timer == 0) .assemblyTimerExpiry
      | _ => [])

/-! ### One ms -/

def Port.tick (x : Port) : Port := { x with busOff := Timer.tick x.busOff }

def Slot.tick (x : Slot) : Slot := { x with fresh := Timer.tick x.fresh, hold := Timer.tick x.hold }

def Cooler.tick (x : Cooler) : Cooler := { x with minOn := Timer.tick x.minOn, minOff := Timer.tick x.minOff }

/-- The current open time is measured while `measured` holds and the door is OPEN, up to 65535 s (R57, R61;
notes/assumptions/26.md). -/
def Door.tick (measured : Bool) (x : Door) : Door :=
  { x with
    debounce := Timer.tick x.debounce
    timer := Timer.tick x.timer
    openMs := if measured && x.isOpen then min 65535000 (x.openMs + 1) else x.openMs }

/-- The remaining time of a timed record counts down in RUNNING alone (R127). -/
def Overrides.tick (running : Bool) (o : Overrides) : Overrides :=
  { o with
    table := if running then o.table.map fun r => { r with remaining := Timer.tick r.remaining } else o.table
    panelTimer := Timer.tick o.panelTimer
    statusTimer := Timer.tick o.statusTimer }

def Channel.tick (x : Channel) : Channel :=
  { x with
    spacing := Timer.tick x.spacing
    periodic := Timer.tick x.periodic
    replyWait := Timer.tick x.replyWait
    window := Timer.tick x.window
    elapsed := if x.window.isSome then x.elapsed + 1 else x.elapsed }

def Engine.tick : Engine → Engine
  | .assembling o => .assembling { o with timer := o.timer - 1 }
  | e => e

/-- One ms passes: every running timer, the time in stage, the open times and the window elapsed move on. -/
def State.passMs (s : State) : State :=
  let running := s.part == .running
  { s with
    vehicle := s.vehicle.tick
    climate := s.climate.tick
    slots := s.slots.map Slot.tick
    zones := s.zones.map fun x => { x with pass := Timer.tick x.pass }
    coolers := s.coolers.map Cooler.tick
    doors := Vector.ofFn fun d : Fin 8 => s.doors[d].tick (running && (s.doorRow d).used)
    loads := s.loads.map fun l => { l with dwell := Timer.tick l.dwell }
    screen := { s.screen with stageMs := s.screen.stageMs + 1, pass := Timer.tick s.screen.pass }
    overrides := s.overrides.tick running
    alloc := { s.alloc with ramp := Timer.tick s.alloc.ramp }
    channels := s.channels.map Channel.tick
    engine := s.engine.tick }

end Sys2Proof.Machine
end

