-- ==== Sys2Proof/Machine/Dispatch.lean ====
section
/-! DEFINITION. One arm per command, each a direct call of that command's meaning. -/

namespace Sys2Proof.Machine

def exec (i : Instr) (s : State) : Host.Outcome State Fault Refusal :=
  match i with
  | .powerOnReset node rate => Sys2Proof.Machine.execPowerOnReset node rate s
  | .frameArrival port frame => Sys2Proof.Machine.execFrameArrival port frame s
  | .reply id data => Sys2Proof.Machine.execReply id data s
  | .transmitStart port => Sys2Proof.Machine.execTransmitStart port s
  | .transmitComplete port => Sys2Proof.Machine.execTransmitComplete port s
  | .arbitrationLost port => Sys2Proof.Machine.execArbitrationLost port s
  | .transmitError port => Sys2Proof.Machine.execTransmitError port s
  | .busOffExpiry port => Sys2Proof.Machine.execBusOffExpiry port s
  | .freshTimerExpiry slot => Sys2Proof.Machine.execFreshTimerExpiry slot s
  | .holdTimerExpiry slot => Sys2Proof.Machine.execHoldTimerExpiry slot s
  | .zonePass zone => Sys2Proof.Machine.execZonePass zone s
  | .statusPublication zone => Sys2Proof.Machine.execStatusPublication zone s
  | .claimPosting claimant request => Sys2Proof.Machine.execClaimPosting claimant request s
  | .capacityEvent claimant => Sys2Proof.Machine.execCapacityEvent claimant s
  | .lineStateNotification note => Sys2Proof.Machine.execLineStateNotification note s
  | .permittedPowerNotification note => Sys2Proof.Machine.execPermittedPowerNotification note s
  | .surplusNotification note => Sys2Proof.Machine.execSurplusNotification note s
  | .rampExpiry => Sys2Proof.Machine.execRampExpiry s
  | .maxCountNotice entered => Sys2Proof.Machine.execMaxCountNotice entered s
  | .qcPosting sec zone qc => Sys2Proof.Machine.execQcPosting sec zone qc s
  | .stageNotice sec dry dryFloor => Sys2Proof.Machine.execStageNotice sec dry dryFloor s
  | .coolingGrantDelivery sec grant => Sys2Proof.Machine.execCoolingGrantDelivery sec grant s
  | .minimumOnExpiry sec => Sys2Proof.Machine.execMinimumOnExpiry sec s
  | .minimumOffExpiry sec => Sys2Proof.Machine.execMinimumOffExpiry sec s
  | .doorStateNotification door note => Sys2Proof.Machine.execDoorStateNotification door note s
  | .debounceExpiry door => Sys2Proof.Machine.execDebounceExpiry door s
  | .delayExpiry door => Sys2Proof.Machine.execDelayExpiry door s
  | .burstExpiry door => Sys2Proof.Machine.execBurstExpiry door s
  | .gapExpiry door => Sys2Proof.Machine.execGapExpiry door s
  | .recoveryExpiry door => Sys2Proof.Machine.execRecoveryExpiry door s
  | .maskChange target set byStop => Sys2Proof.Machine.execMaskChange target set byStop s
  | .countSlotNotification door dir note => Sys2Proof.Machine.execCountSlotNotification door dir note s
  | .boarding sec value => Sys2Proof.Machine.execBoarding sec value s
  | .alighting sec value => Sys2Proof.Machine.execAlighting sec value s
  | .dwellTimerExpiry sec => Sys2Proof.Machine.execDwellTimerExpiry sec s
  | .terminusMarkNotification note => Sys2Proof.Machine.execTerminusMarkNotification note s
  | .screenPass => Sys2Proof.Machine.execScreenPass s
  | .screenGrantDelivery grant => Sys2Proof.Machine.execScreenGrantDelivery grant s
  | .screenMaxEntryNotice => Sys2Proof.Machine.execScreenMaxEntryNotice s
  | .screenMaxDepartureNotice => Sys2Proof.Machine.execScreenMaxDepartureNotice s
  | .set tag kind target value duration => Sys2Proof.Machine.execSet tag kind target value duration s
  | .release tag kind target => Sys2Proof.Machine.execRelease tag kind target s
  | .heartbeat tag => Sys2Proof.Machine.execHeartbeat tag s
  | .tripEnd tag => Sys2Proof.Machine.execTripEnd tag s
  | .recordExpiry kind target => Sys2Proof.Machine.execRecordExpiry kind target s
  | .panelTimerExpiry => Sys2Proof.Machine.execPanelTimerExpiry s
  | .statusTimerExpiry => Sys2Proof.Machine.execStatusTimerExpiry s
  | .sourceDelivery source value => Sys2Proof.Machine.execSourceDelivery source value s
  | .windowExpiry channel => Sys2Proof.Machine.execWindowExpiry channel s
  | .onEnd channel => Sys2Proof.Machine.execOnEnd channel s
  | .spacingExpiry channel => Sys2Proof.Machine.execSpacingExpiry channel s
  | .periodicExpiry channel => Sys2Proof.Machine.execPeriodicExpiry channel s
  | .replyWaitExpiry channel => Sys2Proof.Machine.execReplyWaitExpiry channel s
  | .assemblyTimerExpiry => Sys2Proof.Machine.execAssemblyTimerExpiry s
  | .identify => Sys2Proof.Machine.execIdentify s
  | .status => Sys2Proof.Machine.execStatus s
  | .rowOpen table row => Sys2Proof.Machine.execRowOpen table row s
  | .rowData b0 b1 b2 b3 b4 b5 => Sys2Proof.Machine.execRowData b0 b1 b2 b3 b4 b5 s
  | .rowClose => Sys2Proof.Machine.execRowClose s
  | .rowClear table row => Sys2Proof.Machine.execRowClear table row s
  | .commit table => Sys2Proof.Machine.execCommit table s
  | .abandon table => Sys2Proof.Machine.execAbandon table s
  | .loadResume => Sys2Proof.Machine.execLoadResume s
  | .readRow table row bank => Sys2Proof.Machine.execReadRow table row bank s
  | .readSlot slot => Sys2Proof.Machine.execReadSlot slot s
  | .readZone zone => Sys2Proof.Machine.execReadZone zone s
  | .readDoor door => Sys2Proof.Machine.execReadDoor door s
  | .readSection sec => Sys2Proof.Machine.execReadSection sec s
  | .readClaim claimant => Sys2Proof.Machine.execReadClaim claimant s
  | .readChannel channel => Sys2Proof.Machine.execReadChannel channel s
  | .start => Sys2Proof.Machine.execStart s
  | .stop => Sys2Proof.Machine.execStop s
  | .restart => Sys2Proof.Machine.execRestart s
  | .clearPending doors => Sys2Proof.Machine.execClearPending doors s
  | .maskDoors doors => Sys2Proof.Machine.execMaskDoors doors s
  | .unmaskDoors doors => Sys2Proof.Machine.execUnmaskDoors doors s
  | .armTerminus sections => Sys2Proof.Machine.execArmTerminus sections s
  | .disarmTerminus sections => Sys2Proof.Machine.execDisarmTerminus sections s
  | .loadSet sec count => Sys2Proof.Machine.execLoadSet sec count s
  | .overrideSet kind target value duration => Sys2Proof.Machine.execOverrideSet kind target value duration s
  | .overrideRelease kind target => Sys2Proof.Machine.execOverrideRelease kind target s

end Sys2Proof.Machine
end

