-- ==== Sys2Proof/Machine/Advance.lean ====
section
/-! DEFINITION. What the part does by itself when no command waits: the oldest hand-over in flight, then the first
expiry that is due, and else one ms passes (notes/assumptions/4.md). -/

namespace Sys2Proof.Machine

/-- The next event of the part itself. -/
def State.advance (s : State) : Host.Outcome State Fault Refusal :=
  match s.inFlight with
  | e :: _ => exec e s
  | [] =>
    match s.dueNow with
    | e :: _ => exec e s
    | [] => .next s.passMs

end Sys2Proof.Machine
end

