-- ==== Sys2Proof/Safety.lean ====
section
/-! DEFINITION. What counts as a safe run: the standing conditions that the spec's prose gives for every state (bounds of
queues and counts, the override keys, the power budget, valid banks, a quiet STANDBY), the terms in which the statements
put the spec's shared rules (recomputations, channels, cooling units, notifications), and the two tables that say which
command a frame spells (R206, R208). -/

namespace Sys2Proof.Machine

/-! ### Standing conditions -/

/-- Every queue and count of the ports is within the size that R2, R4, R5 and R182 give it. -/
def State.queuesKept (s : State) : Prop :=
  s.responses.length ≤ 16 ∧ s.acks.length ≤ 4
    ∧ ∀ p : PortName, (s.port p).forwards.length ≤ 8 ∧ (s.port p).drops ≤ 65535 ∧ (s.port p).errors ≤ 255

/-- The override table holds at most 16 records, no two with the same kind and target, and the table sequence is a
number from 0 to 255 (R117, R118). -/
def State.overridesKept (s : State) : Prop :=
  s.overrides.table.length ≤ 16 ∧ (s.overrides.table.map fun r => (r.kind, r.target)).Nodup ∧ s.overrides.seq < 256

/-- No section counts more passengers than its capacity (R83). -/
def State.countsKept (s : State) : Prop := ∀ k : Fin 3, s.loads[k].count ≤ s.capacityOf k

/-- The sum of a number over the twenty claimants. -/
def sumClaims (f : Fin 20 → Nat) : Nat := ((List.finRange 20).map f).sum

/-- The power budget: the regular grants fit Beff, Beff never exceeds the target, the absorption grants fit the pool, no
claimant is granted more than its capacity, and in STANDBY every grant is 0 (R142, R148, R151, R153). -/
def State.budgetKept (s : State) : Prop :=
  sumClaims (fun c => s.alloc.claims[c].regular) ≤ s.alloc.beff
    ∧ s.alloc.beff ≤ s.alloc.target
    ∧ sumClaims (fun c => s.alloc.claims[c].absorption) ≤ s.alloc.pool
    ∧ (∀ c : Fin 20, s.alloc.claims[c].regular + s.alloc.claims[c].absorption ≤ s.alloc.claims[c].capacity)
    ∧ (s.part = .standby → ∀ c : Fin 20, s.alloc.claims[c].regular = 0 ∧ s.alloc.claims[c].absorption = 0)

/-- The open row of an assembly lies in its table, and the fragment pointer is within the row (R190). -/
def Engine.kept : Engine → Prop
  | .assembling o => o.row < o.table.rowCount ∧ o.buffer.length ≤ o.table.rowLength
  | _ => True

/-- Both banks have the rows of R189, and every table of the active bank meets the conditions of its commit (R195). -/
def State.banksKept (s : State) : Prop :=
  s.active.shaped = true ∧ s.shadow.shaped = true ∧ s.engine.kept
    ∧ ∀ t : TableId, firstBadRow s.node t (s.active.get t) = none

/-- In STANDBY no zone, no door, no screen stage and no status frame is at work (R30, R52, R80, R115, R136). -/
def State.standbyQuiet (s : State) : Prop :=
  s.part = .standby →
    (∀ z : Fin 8, s.zones[z].mode = .off ∧ s.zones[z].pass = none)
      ∧ (∀ d : Fin 8, s.doors[d].burst = .idle)
      ∧ s.screen.stage = .off ∧ s.screen.pass = none ∧ s.overrides.statusTimer = none

/-- The door timer runs exactly outside IDLE, and a staged record waits only outside IDLE (R57, R75, R78). -/
def State.doorsKept (s : State) : Prop :=
  ∀ d : Fin 8, (s.doors[d].timer = none ↔ s.doors[d].burst = .idle)
    ∧ (s.doors[d].burst = .idle → s.doors[d].staged = none)

/-- A cooling unit commands its compressor only in RUN, and a unit in LOCKOUT posts 0 (R43, R47). -/
def State.coolersKept (s : State) : Prop :=
  ∀ k : Fin 3, (s.coolers[k].state ≠ .run → s.coolers[k].demand = 0)
    ∧ (s.coolers[k].state = .lockout → s.coolers[k].posted = 0)

/-! ### What the power allocator does at a trigger -/

/-- Whether a row's function and target name claimant c (R146; the function codes are those of R204). -/
def OutputRow.isFor (r : OutputRow) (c : Fin 20) : Bool :=
  (r.functionCode == 1 && c.val < 8 && r.target == c.val)
    || (r.functionCode == 4 && c.val < 16 && 8 + r.target == c.val)
    || (r.functionCode == 7 && c.val < 19 && 16 + r.target == c.val)
    || (r.functionCode == 5 && c.val == 19 && r.target == 0)

/-- Whether channel i is one of claimant c's channels: a used row of its function and target (R146). -/
def State.serves (s : State) (i : Fin 24) (c : Fin 20) : Bool := (s.outputRow i).used && (s.outputRow i).isFor c

/-- The capacity of claimant c: 0 with no channel or a FAULTED one, else what its owner can use at present (R146). -/
def State.usablePower (s : State) (c : Fin 20) : Nat :=
  let mine := (List.finRange 24).filter fun i => s.serves i c
  if mine = [] ∨ ∃ i ∈ mine, s.channels[i].faulted = true then 0
  else if h : c.val < 8 then (if (s.zoneRow ⟨c.val, h⟩).used = true then (s.zoneRow ⟨c.val, h⟩).heater else 0)
  else if h : c.val < 16 then
    (let d := s.doors[c.val - 8]
     if d.burst = .burst then (d.working.map fun w => w.curtain).getD 0 else 0)
  else if h : c.val < 19 then
    (let r := s.sectRow ⟨c.val - 16, by omega⟩
     if r.used = true then r.rated else 0)
  else (s.stageRow s.screen.stage).request

/-- What claimant c brings to a recomputation: its effective level, its minimum and its effective request, and
whether it is the windscreen heater (R147, R149). -/
def State.shareOf (s : State) (c : Fin 20) : Share where
  level := if c.val = 19 ∧ 0 < s.alloc.maxCount then 0 else (s.claimRow c).level
  minimum := (s.claimRow c).minimum
  request := min s.alloc.claims[c].posted s.alloc.claims[c].capacity
  windscreen := c.val == 19

/-- What claimant c can absorb: the capacity that its regular grant leaves, for a zone heater whose published status is
HEAT or VENT, not BLIND, with Tz below Smax (R153). -/
def State.headroomOf (s : State) (regular : List Nat) (c : Fin 20) : Nat :=
  if h : c.val < 8 then
    let p := s.zones[c.val].published
    if (p.mode = .heat ∨ p.mode = .vent) ∧ p.blind = false ∧ p.tz < p.smax then
      s.alloc.claims[c].capacity - regular.getD c 0
    else 0
  else 0

/-- The claimant records after a recomputation: the regular grants of the effective levels out of Beff (R149 to R151; the
windscreen heater at level 0 first, R147, notes/assumptions/65.md), and the absorption grants of the headrooms out of the pool (R153). -/
def State.regrantedClaims (s : State) : Vector Claim 20 :=
  let regular := regularGrants s.alloc.beff ((List.finRange 20).map s.shareOf)
  let absorbed := shareOut s.alloc.pool ((List.finRange 20).map (s.headroomOf regular))
  Vector.ofFn fun c : Fin 20 =>
    ⟨s.alloc.claims[c].posted, s.alloc.claims[c].capacity, regular.getD c 0, absorbed.getD c 0⟩

/-- The grants that differ from those that stand, delivered to their owners (R154): in claimant order, the screen unit
before its channels, which is the model's choice (notes/assumptions/27.md). -/
def State.grantDeliveries (s : State) (new : Vector Claim 20) : List Instr :=
  let total (k : Claim) : Nat := k.regular + k.absorption
  let moved (c : Fin 20) (f : Claim → Nat) (e : Nat → Instr) : List Instr :=
    if f new[c] = f s.alloc.claims[c] then [] else [e (f new[c])]
  (List.finRange 8).flatMap (fun z => moved (zoneClaim z) total (.sourceDelivery (.zoneGrant z)))
    ++ (List.finRange 8).flatMap (fun d => moved (curtainClaim d) total (.sourceDelivery (.curtainGrant d)))
    ++ (List.finRange 3).flatMap (fun k => moved (coolClaim k) (·.regular) (.coolingGrantDelivery k))
    ++ moved 19 (·.regular) .screenGrantDelivery ++ moved 19 total (.sourceDelivery .screenGrant)

/-- The part after a trigger of the power allocator: in RUNNING every grant anew, each that changed delivered to its
owner; in STANDBY nothing (R148, R154). -/
def State.regranted (s : State) : State :=
  if s.part = .standby then s
  else
    { s with
      alloc := { s.alloc with claims := s.regrantedClaims }
      inFlight := s.inFlight ++ s.grantDeliveries s.regrantedClaims }

/-- The part after the recomputation of a fall of Beff: BUDGET_SHED is set when it lowers a regular grant (R155). -/
def State.regrantedByFall (s : State) : State :=
  if s.part = .running ∧ ∃ c : Fin 20, s.regrantedClaims[c].regular < s.alloc.claims[c].regular then
    { s.regranted with flags := { s.flags with budgetShed := true } }
  else s.regranted

/-- The part after a recomputation of the target budget, with its action on Beff and the ramp timer (R141, R142). -/
def State.targeted (s : State) : State :=
  let base := (s.budgetRow s.alloc.line).base
  let target := min base (s.alloc.permitted.getD base)
  if target < s.alloc.beff then
    State.regrantedByFall { s with alloc := { s.alloc with target := target, beff := target, ramp := none } }
  else
    { s with alloc := { s.alloc with
        target := target, ramp := if target = s.alloc.beff then none else some (s.alloc.ramp.getD 1000) } }

/-- The part after a recomputation of the absorption pool; a change is a trigger (R152). -/
def State.pooled (s : State) : State :=
  let pool := if s.alloc.line = .wired then min (s.alloc.surplus.getD 0) (s.budgetRow .wired).cap else 0
  if pool = s.alloc.pool then s else State.regranted { s with alloc := { s.alloc with pool := pool } }

/-! ### What a channel does with its commanded value -/

/-- Whether a row is formed from a source value: its function and target name it (R161, R163, R204). -/
def OutputRow.fedBy (r : OutputRow) : Source → Bool
  | .zoneGrant z => r.functionCode == 1 && r.target == z.val
  | .blower z => r.functionCode == 2 && r.target == z.val
  | .freshAir z => r.functionCode == 3 && r.target == z.val
  | .curtainGrant d => r.functionCode == 4 && r.target == d.val
  | .screenGrant => r.functionCode == 5 && r.target == 0
  | .flap => r.functionCode == 6 && r.target == 0
  | .demand k => r.functionCode == 7 && r.target == k.val

/-- The commanded value that channel c forms from the value v of its source: the standby value in STANDBY; in RUNNING the
value, or for a heater function its part of the claimant's capacity (R165). -/
def State.commandedValue (s : State) (c : Fin 24) (v : Nat) : Nat :=
  let r := s.outputRow c
  let capacity : Nat := match (List.finRange 20).find? fun k => s.serves c k with
    | some k => s.alloc.claims[k].capacity
    | none => 0
  if s.part = .standby then r.standby
  else if r.functionCode = 1 ∨ r.functionCode = 4 ∨ r.functionCode = 5 then
    (if capacity = 0 then 0 else min 1000 (v * 1000 / capacity))
  else v

/-- The pending frame of channel c after its output has changed to `out`: none at level 15; one that is on the bus stays;
else OFFERED when the spacing timer is stopped or the frame cuts power, and WAITING otherwise; an offer to a port in BUS_OFF
is discarded (R3, R169, R170, R173). -/
def State.frameAfterChange (s : State) (c : Fin 24) (out : Nat) : PendingFrame :=
  let r := s.outputRow c
  let x := s.channels[c]
  if x.frame = .none ∧ 14 < r.level then .none
  else if x.frame = .offered ∧ (s.climate.onBus.any fun b => b.src == .channel c) = true then .offered
  else if x.spacing = none ∨ ((r.functionCode = 1 ∨ r.functionCode = 4 ∨ r.functionCode = 5 ∨ r.functionCode = 7)
      ∧ (x.lastCarried.any fun last => out < last) = true) then
    (if s.climate.link = .on then .offered else .none)
  else .waiting

/-- Channel c with its output formed as `out`: an output that stays makes no frame (R166, R169). -/
def State.withOutput (s : State) (c : Fin 24) (out : Nat) (y : Channel) : Channel :=
  { y with
    output := out
    frame := if out = s.channels[c].output then s.channels[c].frame else s.frameAfterChange c out }

/-- The output that an encoding other than SWITCH gives a commanded value; 0, which is OFF, for a SWITCH row outside its
windows (R166, R167). -/
def OutputRow.encoded (r : OutputRow) (cmd : Nat) : Nat :=
  if r.encodingCode = 1 then cmd
  else if 11 ≤ r.encodingCode ∧ r.encodingCode ≤ 14 then cmd * (r.encodingCode - 10) / 1000 else 0

/-- Channel c after it takes the commanded value cmd: a SWITCH channel cuts the present window for a lower value and leaves
a higher one to its next window; every other channel forms its output at once (R166, R168). -/
def State.withCommand (s : State) (c : Fin 24) (cmd : Nat) : Channel :=
  let r := s.outputRow c
  let x := s.channels[c]
  if r.encodingCode ≠ 2 then s.withOutput c (r.encoded cmd) { x with commanded := cmd }
  else if cmd < x.commanded ∧ x.window ≠ none then
    (let onTime := cmd * (1000 * r.window) / 1000
     s.withOutput c (if onTime ≤ x.elapsed then 0 else x.output) { x with commanded := cmd, onTime := onTime })
  else { x with commanded := cmd }

/-- SWITCH channel c after a window start with the commanded value cmd (R167). -/
def State.withWindow (s : State) (c : Fin 24) (cmd : Nat) : Channel :=
  let r := s.outputRow c
  let onTime := cmd * (1000 * r.window) / 1000
  s.withOutput c (if 0 < onTime then 1 else 0)
    { s.channels[c] with commanded := cmd, elapsed := 0, window := some (1000 * r.window), onTime := onTime }

/-- The part after the capacities of the claimants listed are brought up to date: the heater channels of each that changed
form again from the grant as it stands, before the recomputation that the change triggers (R146, R165; the order is log
17). -/
def State.recapacitated (s : State) (listed : Fin 20 → Bool) : State :=
  let claims : Vector Claim 20 := Vector.ofFn fun c : Fin 20 =>
    { s.alloc.claims[c] with
      capacity := if listed c = true then s.usablePower c else s.alloc.claims[c].capacity }
  let t : State := { s with alloc := { s.alloc with claims := claims } }
  let formed (i : Fin 24) : Channel :=
    match (List.finRange 20).find? fun c => s.serves i c && (claims[c].capacity != s.alloc.claims[c].capacity) with
    | some c =>
      if c.val < 16 ∨ c.val = 19 then
        t.withCommand i (t.commandedValue i (s.alloc.claims[c].regular + s.alloc.claims[c].absorption))
      else s.channels[i]
    | none => s.channels[i]
  if claims = s.alloc.claims then s else State.regranted { t with channels := Vector.ofFn formed }

/-! ### Cooling units, consumers of a slot, and the claims of the windscreen -/

/-- What cooling unit k records and hands over when it computes and posts its request (R43, R45, R46): in RUN with no
request after the minimum on time it enters LOCKOUT, and with a minimum off time of 0 it passes through it to OFF. -/
def State.coolComputed (s : State) (k : Fin 3) : Cooler × List Instr :=
  let u := s.coolers[k]
  let r := s.sectRow k
  let power := roundedNat (s.coolPerMille k * (if r.used = true then r.rated else 0)) 1000
  let q := if power = 0 then 0 else max power (s.claimRow (coolClaim k)).minimum
  let cut : List Instr := if u.demand = 0 then [] else [.sourceDelivery (.demand k) 0]
  if u.state = .lockout then ({ u with posted := 0 }, [.claimPosting (coolClaim k) 0])
  else if u.state = .off ∨ power ≠ 0 ∨ u.minOn ≠ none then ({ u with posted := q }, [.claimPosting (coolClaim k) q])
  else if r.minOff ≠ 0 then
    ({ u with state := .lockout, minOff := some (1000 * r.minOff), posted := 0, demand := 0 },
      cut ++ [.claimPosting (coolClaim k) 0])
  else
    ({ u with state := .off, minOff := none, posted := 0, demand := 0 },
      cut ++ [.claimPosting (coolClaim k) 0, .claimPosting (coolClaim k) 0])

/-- The part after each cooling unit has computed and posted its request. -/
def State.coolersComputed (s : State) : State :=
  { s with
    coolers := Vector.ofFn fun k : Fin 3 => (s.coolComputed k).1
    inFlight := s.inFlight ++ (List.finRange 3).flatMap fun k => (s.coolComputed k).2 }

/-- The part with each cooling unit brought to OFF and its zones' Qc forgotten, as START finds them (R51). -/
def State.coolersRested (s : State) : State :=
  { s with
    coolers := Vector.ofFn fun k : Fin 3 =>
      { s.coolers[k] with state := .off, minOn := none, minOff := none, demand := 0, qcs := Vector.replicate 8 0 }
    inFlight := s.inFlight ++ (List.finRange 3).flatMap fun k =>
      if s.coolers[k].demand = 0 then [] else [.sourceDelivery (.demand k) 0] }

/-- The notifications of a slot event: to every consumer of the slot, but of a change to HELD to the power allocator alone
(R23, R24). Their order is the model's choice (notes/assumptions/27.md). -/
def State.notified (s : State) (n : SlotNote) : List Instr :=
  let designates (code : Nat) (e : Instr) : List Instr := if s.sys.used = true ∧ code = n.slot.val then [e] else []
  (if n.status = .held then []
    else
      ((List.finRange 8).flatMap fun d =>
        let r := s.doorRow d
        let names (code : Nat) (e : Instr) : List Instr := if r.used = true ∧ code = n.slot.val then [e] else []
        names r.stateSlot (.doorStateNotification d n) ++ names r.boardedSlot (.countSlotNotification d .boarded n)
          ++ names r.alightedSlot (.countSlotNotification d .alighted n))
        ++ designates s.sys.terminusMark (.terminusMarkNotification n))
    ++ designates s.sys.lineState (.lineStateNotification n)
    ++ designates s.sys.permittedPower (.permittedPowerNotification n)
    ++ designates s.sys.surplus (.surplusNotification n)

/-- The flap value of a stage with a posted claim and a grant: raised to that of MAX while the heater is short (R108). -/
def State.flapOf (s : State) (stage : Stage) (posted grant : Nat) : Nat :=
  if stage = .off then 0
  else if 0 < posted ∧ grant < posted then max (s.stageRow stage).flap (s.stageRow .max).flap
  else (s.stageRow stage).flap

/-- The part after the screen unit hands over the parameters of its present stage: the claim, a stage notice to each
cooling unit, and the flap value when it changed (R107, R108, R113). -/
def State.stageHanded (s : State) : State :=
  let p := s.stageRow s.screen.stage
  let flap := s.flapOf s.screen.stage p.request s.screen.grant
  { s with
    screen := { s.screen with posted := p.request, flap := flap }
    inFlight := s.inFlight
      ++ (.claimPosting screenClaim p.request
        :: (List.finRange 3).map fun k => .stageNotice k (p.dryCode == 1) p.dryFloor)
      ++ (if flap = s.screen.flap then [] else [.sourceDelivery .flap flap]) }

/-! ### The command that a frame spells -/

/-- The command of a service request frame, by its code, its length and the placing of its arguments (R206). -/
def requestCommand : List Byte → Option Instr
  | 1 :: _ => some .identify
  | 2 :: _ => some .status
  | 3 :: t :: r :: _ => some (.rowOpen t r)
  | 4 :: a :: b :: c :: d :: e :: f :: _ => some (.rowData a b c d e f)
  | 5 :: _ => some .rowClose
  | 6 :: t :: r :: _ => some (.rowClear t r)
  | 7 :: t :: _ => some (.commit t)
  | 8 :: t :: _ => some (.abandon t)
  | 9 :: t :: r :: b :: _ => some (.readRow t r b)
  | 10 :: i :: _ => some (.readSlot i)
  | 11 :: i :: _ => some (.readZone i)
  | 12 :: i :: _ => some (.readDoor i)
  | 13 :: i :: _ => some (.readSection i)
  | 14 :: i :: _ => some (.readClaim i)
  | 15 :: i :: _ => some (.readChannel i)
  | 16 :: _ => some .start
  | 17 :: _ => some .stop
  | 18 :: _ => some .restart
  | 19 :: _ => some .loadResume
  | 20 :: d :: _ => some (.clearPending d)
  | 21 :: d :: _ => some (.maskDoors d)
  | 22 :: d :: _ => some (.unmaskDoors d)
  | 23 :: x :: _ => some (.armTerminus x)
  | 24 :: x :: _ => some (.disarmTerminus x)
  | 25 :: x :: n :: _ => some (.loadSet x n)
  | 26 :: k :: t :: lo :: hi :: d :: _ => some (.overrideSet k t (hi ++ lo) d)
  | 27 :: k :: t :: _ => some (.overrideRelease k t)
  | _ => none

/-- The command of a well-formed panel request, by its code, its length and the placing of its fields (R120, R208). -/
def panelCommand : List Byte → Option Instr
  | 1 :: tag :: k :: t :: lo :: hi :: d :: _ => some (.set tag k t (hi ++ lo) d)
  | 2 :: tag :: k :: t :: _ => some (.release tag k t)
  | 3 :: tag :: _ => some (.heartbeat tag)
  | 4 :: tag :: _ => some (.tripEnd tag)
  | _ => none

end Sys2Proof.Machine
end

