-- ==== Sys2Proof/WellFormed.lean ====
section
/-! DEFINITION. Which commands the spec gives a meaning: the ranges of the operands that their types do not already
bound (R1, R18, R42, R60, R138, R163). -/

namespace Sys2Proof

/-- A data frame of CAN 2.0A has 0 to 8 data bytes (R1). -/
def Frame.wellFormed (f : Frame) : Bool := f.data.length ≤ 8

/-- A slot value is a signed 16-bit number (R18). -/
def SlotNote.wellFormed (n : SlotNote) : Bool := -32768 ≤ n.value && n.value ≤ 32767

/-- The largest value of a source: 2000 for a total grant, 1000 for a demand, an air output and the flap (R163). -/
def Source.most : Source → Nat
  | .zoneGrant _ => 2000
  | .curtainGrant _ => 2000
  | .screenGrant => 2000
  | .demand _ => 1000
  | .blower _ => 1000
  | .freshAir _ => 1000
  | .flap => 1000

/-- The operand ranges of a command. Every command whose operands the types bound is well formed. -/
def Instr.wellFormed : Instr → Bool
  | .frameArrival _ f => f.wellFormed
  | .reply _ data => data.length ≤ 8
  | .claimPosting _ q => q ≤ 2000
  | .lineStateNotification n => n.wellFormed
  | .permittedPowerNotification n => n.wellFormed
  | .surplusNotification n => n.wellFormed
  | .qcPosting _ _ qc => qc ≤ 1000
  | .stageNotice _ _ fl => fl ≤ 1000
  | .coolingGrantDelivery _ g => g ≤ 2000
  | .doorStateNotification _ n => n.wellFormed
  | .countSlotNotification _ _ n => n.wellFormed
  | .boarding _ v => v ≤ 255
  | .alighting _ v => v ≤ 255
  | .terminusMarkNotification n => n.wellFormed
  | .screenGrantDelivery g => g ≤ 2000
  | .sourceDelivery src v => v ≤ src.most
  | _ => true

end Sys2Proof
end

