-- ==== Sys2Proof/Certificates/Slice0/Obligations.lean ====
section
/-! DEFINITION. The statements for the provers. The hand-overs between blocks stand in the list `inFlight`, oldest first,
wherever a statement speaks of them: the model's choice (notes/assumptions/3.md). -/

open Sys2Proof Sys2Proof.Machine

/-! ### Steps -/

/-- One step takes the command at the front of the queue and answers what its meaning answers, with the queue's rest. -/
def Obligations.StepRunsTheFrontCommand : Prop :=
  ∀ (c : Instr) (rest : List Instr) (s : State),
    s.pending = c :: rest → step s = exec c { s with pending := rest }

/-- On an empty queue the part takes its oldest hand-over, else its first due expiry, else one ms passes: every running
timer of the part loses one ms, a stopped timer stays stopped, a record's remaining time runs in RUNNING alone, and the
time in stage, the open time of an OPEN door of the running part and the elapsed time of a window grow by one ms. The
model's choices: what an empty queue does (notes/assumptions/4.md), the order of the due expiries in State.dueNow (6.md),
and the bound of the open time (26.md). -/
def Obligations.EmptyQueueRunsThePartItself : Prop :=
  ∀ s : State, s.pending = [] →
    let less (t : Timer) : Timer := t.map fun n => n - 1
    (∀ e es, s.inFlight = e :: es → step s = exec e s)
      ∧ (s.inFlight = [] → ∀ e es, s.dueNow = e :: es → step s = exec e s)
      ∧ (s.inFlight = [] → s.dueNow = [] → step s = .next { s with
          vehicle := { s.vehicle with busOff := less s.vehicle.busOff }
          climate := { s.climate with busOff := less s.climate.busOff }
          slots := s.slots.map fun x => { x with fresh := less x.fresh, hold := less x.hold }
          zones := s.zones.map fun x => { x with pass := less x.pass }
          coolers := s.coolers.map fun x => { x with minOn := less x.minOn, minOff := less x.minOff }
          doors := Vector.ofFn fun d : Fin 8 => { s.doors[d] with
            debounce := less s.doors[d].debounce
            timer := less s.doors[d].timer
            openMs := if s.part = .running ∧ (s.doorRow d).used = true ∧ s.doors[d].isOpen = true then
                min 65535000 (s.doors[d].openMs + 1)
              else s.doors[d].openMs }
          loads := s.loads.map fun x => { x with dwell := less x.dwell }
          screen := { s.screen with stageMs := s.screen.stageMs + 1, pass := less s.screen.pass }
          overrides := { s.overrides with
            table := if s.part = .running then s.overrides.table.map fun r => { r with remaining := less r.remaining }
              else s.overrides.table
            panelTimer := less s.overrides.panelTimer
            statusTimer := less s.overrides.statusTimer }
          alloc := { s.alloc with ramp := less s.alloc.ramp }
          channels := s.channels.map fun x => { x with
            spacing := less x.spacing
            periodic := less x.periodic
            replyWait := less x.replyWait
            window := less x.window
            elapsed := if x.window = none then x.elapsed else x.elapsed + 1 }
          engine := match s.engine with
            | .assembling o => .assembling { o with timer := o.timer - 1 }
            | e => e })

/-- Every command within its operand ranges answers a next state, and leaves the queue of waiting commands alone:
of the two resets, RESTART and POWER_ON_RESET, that last clause is the model's choice (notes/assumptions/34.md). -/
def Obligations.WellFormedCommandsComplete : Prop :=
  ∀ (c : Instr) (s : State), c.wellFormed = true → ∃ t, exec c s = .next t ∧ t.pending = s.pending

/-! ### Resets -/

/-- R186: what power-on reset leaves of the service engine, with the reset values of R196 in both banks. -/
def Obligations.PowerOnResetOfTheServiceEngine : Prop :=
  ∀ (node : Fin 4) (rate : BitRate) (s : State), ∃ t, exec (.powerOnReset node rate) s = .next t
    ∧ t.part = .standby ∧ t.engine = .idle ∧ t.node = node ∧ t.rate = rate ∧ t.responses = []
    ∧ t.flags = EventFlags.clear ∧ (∀ i : Fin 13, t.marks[i] = false)
    ∧ ∀ (table : TableId) (i : Nat), i < table.rowCount →
        t.active.row table i = t.shadow.row table i
          ∧ t.active.row table i
            = (if table = .claim then [15, 0, 0, 0, 0, 0] else List.replicate table.rowLength 0)

/-- What power-on reset leaves of the ports and the blocks. The model's choices: the hand-overs in flight are dropped
(notes/assumptions/15.md), and a frame on a bus is gone (45.md). -/
def Obligations.PowerOnResetOfTheBlocks : Prop :=
  ∀ (node : Fin 4) (rate : BitRate) (s : State), ∃ t, exec (.powerOnReset node rate) s = .next t
    ∧ (∀ p : PortName, t.port p = { link := .on, errors := 0, forwards := [], drops := 0, busOff := none, onBus := none })
    ∧ t.acks = [] ∧ t.panelStatus = none ∧ t.inFlight = []
    ∧ (∀ i : Fin 64, t.slots[i].status = .empty ∧ t.slots[i].clamped = false ∧ t.slots[i].fresh = none
        ∧ t.slots[i].hold = none)
    ∧ (∀ z : Fin 8, t.zones[z] =
        { mode := .off, blind := false, tz := none, sz := 100, integral := 0, lastR := 0, qh := 0, qc := 0, blower := 0
          freshAir := 0, published := ⟨.off, 0, false, 0⟩, pass := none })
    ∧ (∀ k : Fin 3, t.coolers[k] =
        { state := .off, qcs := Vector.replicate 8 0, dry := false, dryFloor := 0, posted := 0, grant := 0
          minOn := none, minOff := none, demand := 0 })
    ∧ (∀ d : Fin 8, t.doors[d] = Door.reset) ∧ t.groupMask = false
    ∧ (∀ k : Fin 3, t.loads[k] = ⟨0, false, false, false, none, none, none⟩) ∧ t.markHigh = false
    ∧ t.screen = ⟨.off, none, 0, 0, none, false, 0, 0, 0, 0, none⟩
    ∧ t.overrides = ⟨[], 0, false, none, none⟩
    ∧ t.alloc.line = .unknown ∧ t.alloc.permitted = none ∧ t.alloc.surplus = none ∧ t.alloc.target = 0
    ∧ t.alloc.beff = 0 ∧ t.alloc.ramp = none ∧ t.alloc.pool = 0 ∧ t.alloc.maxCount = 0
    ∧ (∀ c : Fin 20, t.alloc.claims[c] = ⟨0, 0, 0, 0⟩)
    ∧ (∀ src : Source, t.sourceValue src = 0)
    ∧ (∀ c : Fin 24, t.channels[c] = ⟨0, 0, none, .none, none, none, false, 0, none, none, 0, 0⟩)

/-- RESTART keeps both banks, the marks and the straps; the engine, the flags, the slots, the zones, the cooling units, the
doors, the counts, the screen unit, the override table, the allocator with its capacities, the source values and the
channels take the state their chapters give; its response is the one frame in the queue. The model's choices: the queue of
waiting commands is kept (notes/assumptions/34.md), and the hand-overs in flight are dropped (15.md). -/
def Obligations.RestartKeepsTheTables : Prop :=
  ∀ s : State, ∃ t, exec .restart s = .next t
    ∧ t.part = .standby ∧ t.engine = .idle ∧ t.flags = EventFlags.clear
    ∧ t.active = s.active ∧ t.shadow = s.shadow ∧ t.marks = s.marks ∧ t.node = s.node ∧ t.rate = s.rate
    ∧ t.pending = s.pending ∧ t.inFlight = []
    ∧ t.responses = [⟨canId (0x6E1 + 2 * s.node.val), [50, 1, 0, 0, 0, 0, 0, 0]⟩]
    ∧ t.acks = [] ∧ t.panelStatus = none
    ∧ (∀ p : PortName, (t.port p).link = .on ∧ (t.port p).errors = 0 ∧ (t.port p).forwards = []
        ∧ (t.port p).drops = 0 ∧ (t.port p).busOff = none
        ∧ (t.port p).onBus = (s.port p).onBus.map fun x => { x with src := .orphan })
    ∧ (∀ i : Fin 64, t.slots[i].status = .empty ∧ t.slots[i].clamped = false ∧ t.slots[i].fresh = none
        ∧ t.slots[i].hold = none)
    ∧ (∀ z : Fin 8, t.zones[z] =
        { mode := .off, blind := false, tz := none
          sz := if (s.zoneRow z).used = true then clamp (s.zoneRow z).base (s.zoneRow z).smin (s.zoneRow z).smax else 100
          integral := 0, lastR := 0, qh := 0, qc := 0, blower := 0, freshAir := 0
          published := ⟨.off, (s.zoneRow z).base, false, (s.zoneRow z).smax⟩
          pass := none })
    ∧ (∀ k : Fin 3, t.coolers[k] = ⟨.off, Vector.replicate 8 0, false, 0, 0, 0, none, none, 0⟩)
    ∧ (∀ d : Fin 8, t.doors[d] =
        { isOpen := false, candidate := none, debounce := none, burst := .idle, timer := none, latch := false
          serviceMask := false, overrideMask := false
          pv := if (s.doorRow d).used = true then (s.doorRow d).burst.n else 0
          series := 0, ending := false, accum := 0, openMs := 0, working := some (s.doorRow d).burst, staged := none
          dropped := 0 })
    ∧ t.groupMask = false
    ∧ (∀ k : Fin 3, t.loads[k] = ⟨0, false, false, false, s.bandOf 0, none, none⟩) ∧ t.markHigh = false
    ∧ t.screen = ⟨.off, none, 0, 0, none, false, 0, 0, 0, 0, none⟩
    ∧ t.overrides = ⟨[], 0, false, none, none⟩
    ∧ t.alloc =
        { line := .unknown, permitted := none, surplus := none, target := (s.budgetRow .unknown).base, beff := 0
          ramp := if 0 < (s.budgetRow .unknown).base then some 1000 else none
          pool := 0, maxCount := 0, claims := Vector.ofFn fun c : Fin 20 => ⟨0, t.usablePower c, 0, 0⟩ }
    ∧ (∀ src : Source, t.sourceValue src = 0)
    ∧ (∀ c : Fin 24, t.channels[c] =
        (let r := s.outputRow c
         { commanded := if r.used = true then r.standby else 0
           output := if r.used = true then r.encoded r.standby else 0
           lastCarried := none
           frame := if r.used = true ∧ r.level ≤ 14 then .offered else .none
           spacing := none
           periodic := if r.used = true ∧ r.level ≤ 14 then some r.period else none
           faulted := false, misses := 0, replyWait := none, window := none, elapsed := 0, onTime := 0 }))

/-! ### Ports -/

/-- The transmit error count, the entry to BUS_OFF with what it discards, and its end, which returns the port to ON with a
count of 0; a lost arbitration frees the bus and changes nothing else. That the count is kept during BUS_OFF is the
model's choice (notes/assumptions/14.md). -/
def Obligations.TransmitErrorsLeadToBusOff : Prop :=
  ∀ (s : State) (p : PortName),
    (∀ x, (s.port p).onBus = some x → x.src ≠ .orphan →
      (∃ t, exec (.transmitComplete p) s = .next t ∧ (t.port p).errors = (s.port p).errors - 1
          ∧ (t.port p).link = (s.port p).link ∧ (t.port p).onBus = none)
        ∧ ((s.port p).errors + 8 ≤ 255 →
            exec (.transmitError p) s
              = .next (s.setPort p { s.port p with errors := (s.port p).errors + 8, onBus := none }))
        ∧ (255 < (s.port p).errors + 8 → ∃ t, exec (.transmitError p) s = .next t
            ∧ t.port p = { s.port p with link := .busOff, forwards := [], busOff := some 500, onBus := none }
            ∧ t.port (otherPort p) = s.port (otherPort p) ∧ t.flags = s.flags
            ∧ (p = .vehicle → t.responses = [] ∧ t.acks = [] ∧ t.panelStatus = none ∧ t.channels = s.channels)
            ∧ (p = .climate → t.responses = s.responses ∧ t.acks = s.acks ∧ t.panelStatus = s.panelStatus
                ∧ ∀ c : Fin 24, t.channels[c] = { s.channels[c] with frame := .none })))
    ∧ exec (.arbitrationLost p) s = .next (s.setPort p { s.port p with onBus := none })
    ∧ ∀ n, (s.port p).busOff = some n →
        exec (.busOffExpiry p) s = .next (s.setPort p { s.port p with link := .on, errors := 0, busOff := none })

/-- The vehicle port's arbiter takes the first non-empty source in its order of precedence, and changes nothing but what is
on the bus. The climate port's arbiter: the lowest level first, the lower channel index among equals, a channel before the
forward queue at an equal level; a channel's frame carries the output as its transmission begins. -/
def Obligations.ArbitersTakeByPrecedence : Prop :=
  (∀ s : State, s.vehicle.link = .on → s.vehicle.onBus = none →
     let sent (x : Tx) : Prop :=
       exec (.transmitStart .vehicle) s = .next { s with vehicle := { s.vehicle with onBus := some x } }
     (∀ f fs, s.responses = f :: fs → sent ⟨.response, f, 0⟩)
       ∧ (s.responses = [] → ∀ f fs, s.acks = f :: fs → sent ⟨.ack, f, 0⟩)
       ∧ (s.responses = [] → s.acks = [] → ∀ f, s.panelStatus = some f → sent ⟨.panelStatus, f, 0⟩)
       ∧ (s.responses = [] → s.acks = [] → s.panelStatus = none → ∀ f fs, s.vehicle.forwards = f :: fs →
           sent ⟨.forward, f, 0⟩)
       ∧ (s.responses = [] → s.acks = [] → s.panelStatus = none → s.vehicle.forwards = [] →
           exec (.transmitStart .vehicle) s = .next s))
  ∧ ∀ s : State, s.climate.link = .on → s.climate.onBus = none → ∃ t, exec (.transmitStart .climate) s = .next t
    ∧ t = { s with climate := { s.climate with onBus := t.climate.onBus } }
    ∧ (t.climate.onBus = none → s.climate.forwards = [] ∧ ∀ c : Fin 24, s.channels[c].frame ≠ .offered)
    ∧ ∀ x, t.climate.onBus = some x →
        (∃ c : Fin 24, x.src = .channel c ∧ s.channels[c].frame = .offered ∧ x.carried = s.channels[c].output
            ∧ x.frame.id = BitVec.ofNat 11 (s.outputRow c).commandId
            ∧ x.frame.data = (if (s.outputRow c).encoding = some .permille then le16 s.channels[c].output
                else [byteOf s.channels[c].output])
            ∧ (∀ d : Fin 24, s.channels[d].frame = .offered →
                (s.outputRow c).level < (s.outputRow d).level
                  ∨ ((s.outputRow c).level = (s.outputRow d).level ∧ c.val ≤ d.val))
            ∧ (s.climate.forwards ≠ [] → (s.outputRow c).level ≤ s.forwardLevel))
          ∨ (x.src = .forward ∧ s.climate.forwards.head? = some x.frame
            ∧ ∀ d : Fin 24, s.channels[d].frame = .offered → s.forwardLevel < (s.outputRow d).level)

/-- A frame that completes leaves its source: the head of its queue, the pending status frame, or nothing for a frame
that no source holds (notes/assumptions/12.md and 13.md). The outcome of a frame from before a RESTART changes nothing. A
channel's frame leaves its value, the spacing timer and the reply wait; a change frame is made when the output has moved on,
held back by the spacing unless it cuts power. -/
def Obligations.CompletionLeavesItsSource : Prop :=
  (∀ (s : State) (p : PortName) (x : Tx), (s.port p).onBus = some x →
      let freed : State := s.setPort p { s.port p with onBus := none, errors := (s.port p).errors - 1 }
      (x.src = .response → exec (.transmitComplete p) s = .next { freed with responses := s.responses.tail })
        ∧ (x.src = .ack → exec (.transmitComplete p) s = .next { freed with acks := s.acks.tail })
        ∧ (x.src = .panelStatus → exec (.transmitComplete p) s = .next { freed with panelStatus := none })
        ∧ (x.src = .forward → exec (.transmitComplete p) s
            = .next (s.setPort p { s.port p with
                onBus := none, errors := (s.port p).errors - 1, forwards := (s.port p).forwards.tail }))
        ∧ (x.src = .detached → exec (.transmitComplete p) s = .next freed)
        ∧ (x.src = .orphan → exec (.transmitComplete p) s = .next (s.setPort p { s.port p with onBus := none })
            ∧ exec (.transmitError p) s = .next (s.setPort p { s.port p with onBus := none })))
  ∧ ∀ (s : State) (x : Tx) (c : Fin 24), s.climate.link = .on → s.climate.onBus = some x → x.src = .channel c →
      let o := s.channels[c]
      let r := s.outputRow c
      ∃ t, exec (.transmitComplete .climate) s = .next t
        ∧ t = { s with
            climate := { s.climate with onBus := none, errors := s.climate.errors - 1 }
            channels := s.channels.set c
              { o with
                lastCarried := some x.carried
                spacing := some r.spacing
                replyWait := some (o.replyWait.getD r.replyTimeout)
                frame := t.channels[c].frame } }
        ∧ (o.output = x.carried → t.channels[c].frame = .none)
        ∧ (o.output ≠ x.carried → r.level ≤ 14 →
            t.channels[c].frame = (if r.isPower = true ∧ o.output < x.carried then .offered else .waiting))
        ∧ (14 < r.level → t.channels[c].frame = .none)

/-! ### Arrivals -/

/-- A port in BUS_OFF takes no frame. An arrival that hits no row, or a PASS row, is forwarded to the other port or
dropped; a copy that the queue refuses is counted. -/
def Obligations.ArrivalsAreForwardedOrDropped : Prop :=
  ∀ (s : State) (p : PortName) (f : Frame), f.data.length ≤ 8 →
    let out := otherPort p
    let x := s.port out
    let hits (i : Nat) : Prop :=
      (s.frameRow i).used = true ∧ portOfCode (s.frameRow i).portCode = some p ∧ (s.frameRow i).id = f.id.toNat
    let copied : State :=
      if x.link = .on ∧ x.forwards.length < 8 then s.setPort out { x with forwards := x.forwards ++ [f] }
      else { s.setPort out { x with drops := min 65535 (x.drops + 1) } with
        flags := { s.flags with forwardDropped := true } }
    ((s.port p).link = .busOff → exec (.frameArrival p f) s = .next s)
      ∧ ((s.port p).link = .on → (p = .vehicle → f.id.toNat ≠ 0x6E0 + 2 * s.node.val) →
          ((∀ i < 48, ¬ hits i) →
              exec (.frameArrival p f) s
                = .next (if s.sys.used = true ∧ (if p = .vehicle then s.sys.passVehicle else s.sys.passClimate) = true
                    then copied else s))
            ∧ ∀ i < 48, hits i → (∀ j < i, ¬ hits j) → (s.frameRow i).classCode = 4 →
                exec (.frameArrival p f) s = .next (if (s.frameRow i).forward = true then copied else s))

/-- A service request frame of a known code and sufficient length acts as the command it spells. One that forms no
request is answered FORMAT in one frame, and nothing else changes; with the response queue full it is discarded, and
SERVICE_DROPPED is set. The fragment pointer of a FORMAT answer to a load request
with no open row is a free byte (the model's reading, notes/assumptions/21.md). -/
def Obligations.ServiceFrameActsAsItsCommand : Prop :=
  ∀ (s : State) (id : CanId) (data : List Byte), s.vehicle.link = .on → data.length ≤ 8 →
    id.toNat = 0x6E0 + 2 * s.node.val →
    (∀ c : Instr, requestCommand data = some c → exec (.frameArrival .vehicle ⟨id, data⟩) s = exec c s)
    ∧ (requestCommand data = none → 16 ≤ s.responses.length →
     exec (.frameArrival .vehicle ⟨id, data⟩) s = .next { s with flags := { s.flags with serviceDropped := true } })
    ∧ (requestCommand data = none → s.responses.length < 16 →
     let code := u8 data 0
     let answered (head : Byte) (content : List Byte) : Prop :=
       exec (.frameArrival .vehicle ⟨id, data⟩) s
         = .next { s with draws := s.draws + 1, responses := s.responses ++ [⟨canId (0x6E1 + 2 * s.node.val), head :: 9 :: content⟩] }
     (data = [] → answered 32 [0, 0, 0, 0, 0, 0])
       ∧ (data ≠ [] → (code = 0 ∨ 27 < code) → answered 32 [byteOf code, 0, 0, 0, 0, 0])
       ∧ ((3 ≤ code ∧ code ≤ 8) → answered (byteOf (code + 32)) (s.engine.report (Config.freeByte 0 s.draws) ++ [0, 0, 0]))
       ∧ ((9 ≤ code ∧ code ≤ 25) → answered (byteOf (code + 32)) [0, 0, 0, 0, 0, 0])
       ∧ ((26 ≤ code ∧ code ≤ 27) → answered (byteOf (code + 32)) [0, 0, 0, 0, 0, byteOf s.overrides.seq]))

/-- A frame that hits a PANEL row acts as the panel request it spells; another identifier, or fewer than two bytes, is
discarded; a short request of a known code, and any request of an unknown code, is answered FORMAT and changes no other
state. A row with the forward flag then sends a copy to the climate port, or drops and counts it. That an unknown code is
answered with the request's tag is the model's reading (notes/assumptions/36.md). -/
def Obligations.PanelFrameActsAsItsCommand : Prop :=
  ∀ (s : State) (f : Frame) (i : Nat), s.vehicle.link = .on → f.data.length ≤ 8 → i < 48 →
    f.id.toNat ≠ 0x6E0 + 2 * s.node.val →
    let hits (j : Nat) : Prop :=
      (s.frameRow j).used = true ∧ portOfCode (s.frameRow j).portCode = some .vehicle
        ∧ (s.frameRow j).id = f.id.toNat
    let forwarded (x : State) : State :=
      if (s.frameRow i).forward = false then x
      else if x.climate.link = .on ∧ x.climate.forwards.length < 8 then
        { x with climate := { x.climate with forwards := x.climate.forwards ++ [f] } }
      else { x with
        climate := { x.climate with drops := min 65535 (x.climate.drops + 1) }
        flags := { x.flags with forwardDropped := true } }
    let code := if u8 f.data 0 ≤ 4 then u8 f.data 0 else 0
    hits i → (∀ j < i, ¬ hits j) → (s.frameRow i).classCode = 2 →
    ((s.sys.used = false ∨ f.id.toNat ≠ s.sys.panelRequestId ∨ f.data.length < 2) →
        exec (.frameArrival .vehicle f) s = .next (forwarded s))
      ∧ (s.sys.used = true → f.id.toNat = s.sys.panelRequestId → ∀ c, panelCommand f.data = some c →
          ∃ t, exec c s = .next t ∧ exec (.frameArrival .vehicle f) s = .next (forwarded t))
      ∧ (s.sys.used = true → f.id.toNat = s.sys.panelRequestId → panelCommand f.data = none → 2 ≤ f.data.length →
          exec (.frameArrival .vehicle f) s
            = .next (forwarded { s with
                acks := if s.acks.length < 4 then s.acks ++ [⟨canId s.sys.panelAckId,
                    [byteOf (code + 8 : Nat), byteOf (u8 f.data 1), 0, 0, 0, 0, 0, byteOf s.overrides.seq]⟩]
                  else s.acks }))

/-- A hit on a SIGNAL row takes the field rows of its run in order: each scaled value, clamped into its slot's range,
reaches a used slot as FRESH, with its CLAMPED flag, its consumers told and, but at a COUNT slot, its timers; a short field
sets FIELD_SHORT alone; a field row of width 0 and an unused slot change nothing. A row with the forward flag then sends a
copy to the other port, or drops and counts it. -/
def Obligations.SignalFieldsReachTheirSlots : Prop :=
  ∀ (s : State) (p : PortName) (f : Frame) (i : Nat), (s.port p).link = .on → f.data.length ≤ 8 → i < 48 →
    (p = .vehicle → f.id.toNat ≠ 0x6E0 + 2 * s.node.val) →
    let row := s.frameRow i
    let hits (j : Nat) : Prop :=
      (s.frameRow j).used = true ∧ portOfCode (s.frameRow j).portCode = some p ∧ (s.frameRow j).id = f.id.toNat
    let run : List FieldRow := (List.range row.count).map fun j => s.fieldRow (row.first + j)
    let taken (x : State) (fld : FieldRow) : State :=
      if fld.width = 0 then x
      else if fld.isShort f.data.length = true then { x with flags := { x.flags with fieldShort := true } }
      else if h : fld.target < 64 then
        let k : Fin 64 := ⟨fld.target, h⟩
        let slot := s.slotRow k
        let scaled : Int := rounded (fld.rawValue f.data * fld.gain) 256 + fld.bias
        let v : Int := clamp scaled slot.lo slot.hi
        if slot.used = true then
          { x with
            slots := x.slots.set k
              ⟨v, .fresh, decide (v ≠ scaled), if slot.kindCode = 3 then x.slots[k].fresh else some slot.freshPeriod,
                if slot.kindCode = 3 then x.slots[k].hold else none⟩
            inFlight := x.inFlight ++ s.notified ⟨k, v, .fresh⟩ }
        else x
      else x
    let forwarded (x : State) : State :=
      let q := x.port (otherPort p)
      if row.forward = false then x
      else if q.link = .on ∧ q.forwards.length < 8 then x.setPort (otherPort p) { q with forwards := q.forwards ++ [f] }
      else { x.setPort (otherPort p) { q with drops := min 65535 (q.drops + 1) } with
        flags := { x.flags with forwardDropped := true } }
    hits i → (∀ j < i, ¬ hits j) → row.classCode = 1 →
    exec (.frameArrival p f) s = .next (forwarded (run.foldl taken s))

/-- Where the bits of a field lie in the data bytes, in either byte order, when the field is short, and how its bits are
read: as an unsigned number of its width, or with the signed flag in two's complement. -/
def Obligations.FieldBitsLieInTheirBytes : Prop :=
  ∀ (r : FieldRow) (data : List Byte), r.bitOff ≤ 7 → 1 ≤ r.width → r.width ≤ 16 →
    (r.signedFlag = 0 → r.rawValue data = r.rawBits data)
    ∧ (r.signedFlag = 1 → r.rawValue data =
        if (r.rawBits data).testBit (r.width - 1) = true then (r.rawBits data : Int) - 2 ^ r.width else r.rawBits data)
    ∧ (r.orderCode = 1 → r.byteOff + r.span - 1 ≤ 7 →
      (r.isShort data.length = true ↔ data.length ≤ r.byteOff + r.span - 1)
        ∧ ∀ n, (r.rawBits data).testBit n
            = (decide (n < r.width) && (u8 data (r.byteOff + (r.bitOff + n) / 8)).testBit ((r.bitOff + n) % 8)))
    ∧ (r.orderCode = 2 → r.span ≤ r.byteOff + 1 → r.byteOff ≤ 7 →
      (r.isShort data.length = true ↔ data.length ≤ r.byteOff)
        ∧ ∀ n, (r.rawBits data).testBit n
            = (decide (n < r.width) && (u8 data (r.byteOff - (r.bitOff + n) / 8)).testBit ((r.bitOff + n) % 8)))

/-- A reply acts on every used channel with its identifier: OK makes it READY with no misses, any other status FAULTED; the
wait ends. Each change of health of a power channel goes to the allocator, in ascending channel order, as a capacity event
in `inFlight`, which names the claimant and carries no health: the model's choices (notes/assumptions/3.md and 69.md). A
frame that hits a REPLY row of the climate port is such a reply, and a row with the forward flag then sends a copy to the
vehicle port, or drops and counts it. -/
def Obligations.RepliesSetHealth : Prop :=
  (∀ (s : State) (id : CanId) (status : Byte) (rest : List Byte), rest.length ≤ 7 →
     exec (.reply id []) s = .next s
       ∧ ∃ t, exec (.reply id (status :: rest)) s = .next t
         ∧ t = { s with channels := t.channels, flags := t.flags, inFlight := t.inFlight }
         ∧ (∀ c : Fin 24, t.channels[c]
             = (if (s.outputRow c).used = true ∧ (s.outputRow c).replyId = id.toNat then
                 { s.channels[c] with
                   replyWait := none
                   faulted := decide (status ≠ 0)
                   misses := if status = 0 then 0 else s.channels[c].misses }
               else s.channels[c]))
         ∧ t.flags = (if status ≠ 0 ∧ ∃ c : Fin 24, (s.outputRow c).used = true ∧ (s.outputRow c).replyId = id.toNat
               ∧ s.channels[c].faulted = false then { s.flags with channelFaulted := true } else s.flags)
         ∧ t.inFlight = s.inFlight ++ (List.finRange 24).filterMap (fun c =>
             if (s.outputRow c).used = true ∧ (s.outputRow c).replyId = id.toNat
                 ∧ s.channels[c].faulted ≠ decide (status ≠ 0) then
               ((List.finRange 20).find? (s.outputRow c).isFor).map Instr.capacityEvent
             else none))
  ∧ ∀ (s : State) (f : Frame) (i : Nat), s.climate.link = .on → f.data.length ≤ 8 → i < 48 →
      let hits (j : Nat) : Prop :=
        (s.frameRow j).used = true ∧ portOfCode (s.frameRow j).portCode = some .climate ∧ (s.frameRow j).id = f.id.toNat
      let forwarded (x : State) : State :=
        if (s.frameRow i).forward = false then x
        else if x.vehicle.link = .on ∧ x.vehicle.forwards.length < 8 then
          { x with vehicle := { x.vehicle with forwards := x.vehicle.forwards ++ [f] } }
        else { x with
          vehicle := { x.vehicle with drops := min 65535 (x.vehicle.drops + 1) }
          flags := { x.flags with forwardDropped := true } }
      hits i → (∀ j < i, ¬ hits j) → (s.frameRow i).classCode = 3 →
      ∃ t, exec (.reply f.id f.data) s = .next t ∧ exec (.frameArrival .climate f) s = .next (forwarded t)

/-! ### Slots -/

/-- The fresh timer ages a slot to HELD, or with a hold period of 0 to SUBSTITUTED; the hold timer ages it to
SUBSTITUTED. HELD is told to the allocator alone. A stopped timer expires without effect (the model's reading,
notes/assumptions/5.md). -/
def Obligations.SlotTimersAgeASlot : Prop :=
  ∀ (s : State) (i : Fin 64),
    let row := s.slotRow i
    let x := s.slots[i]
    let substituted : State :=
      { s with
        slots := s.slots.set i { x with value := row.substitute, status := .substituted, fresh := none, hold := none }
        flags := { s.flags with slotSubstituted := true }
        inFlight := s.inFlight ++ s.notified ⟨i, row.substitute, .substituted⟩ }
    (x.fresh ≠ none → row.holdPeriod ≠ 0 →
        exec (.freshTimerExpiry i) s
          = .next { s with
              slots := s.slots.set i { x with status := .held, fresh := none, hold := some (1000 * row.holdPeriod) }
              inFlight := s.inFlight ++ s.notified ⟨i, x.value, .held⟩ })
      ∧ (x.fresh ≠ none → row.holdPeriod = 0 → exec (.freshTimerExpiry i) s = .next substituted)
      ∧ (x.hold ≠ none → exec (.holdTimerExpiry i) s = .next substituted)
      ∧ (x.fresh = none → exec (.freshTimerExpiry i) s = .next s)
      ∧ (x.hold = none → exec (.holdTimerExpiry i) s = .next s)

/-! ### Zones -/

/-- Steps 1 to 7 of a pass, and what the pass hands on: the temperature, the setpoint, the integral term and the demand;
nothing else of the part changes but the zone's record, ZONE_BLIND and the hand-overs, which stand in `inFlight`: the model's
choice (notes/assumptions/3.md). -/
def Obligations.ZonePassFormsItsDemand : Prop :=
  ∀ (s : State) (z : Fin 8), s.zones[z].pass ≠ none →
    let r := s.zoneRow z
    let old := s.zones[z]
    let es : List (Int × Int) := (List.range r.listCount).filterMap fun j =>
      let e := s.listRow (r.listFirst + j)
      if h : e.slot < 64 then
        let i : Fin 64 := ⟨e.slot, h⟩
        if e.weight ≠ 0 ∧ (s.slotRow i).used = true ∧ (s.slots[i].status = .fresh ∨ s.slots[i].status = .held) then
          some ((e.weight : Int), s.slots[i].value)
        else none
      else none
    let offset : Int := match s.overrides.find .setpointOffset (.one z), s.overrides.find .setpointOffset .all with
      | some o, _ => o.value
      | none, some o => o.value
      | none, none => 0
    let bias : Int := match r.sect with
      | some k => if r.coupled = true then (s.profile k).1 else 0
      | none => 0
    let draft : Int := ((List.finRange 8).map fun d =>
      if (s.doorRow d).used = true ∧ (s.doorRow d).zoneCode = z.val ∧ s.doors[d].burst = .burst then
        ((s.doorRow d).draft : Int)
      else 0).sum
    let tz : Int := if es = [] then old.tz.getD r.base
      else
        clamp (rounded (es.map fun (w : Int × Int) => w.1 * w.2).sum (es.map fun (w : Int × Int) => w.1).sum.toNat)
          (-400) 850
    let sz : Int := clamp (r.base + offset + bias) r.smin r.smax
    let e : Int := clamp (sz - tz) (-200) 200
    let short : Prop :=
      ∃ k : Fin 3, r.sectCode = k.val ∧ s.alloc.claims[coolClaim k].regular < s.alloc.claims[coolClaim k].posted
    let held : Prop := es = [] ∨ (0 < e ∧ old.lastR = 1000) ∨ (e < 0 ∧ old.lastR = -1000)
      ∨ (0 < e ∧ s.alloc.claims[zoneClaim z].regular < old.qh) ∨ (e < 0 ∧ short)
    let f : Int := match s.roleValue .outsideAir with
      | none => draft
      | some v => if v < sz then draft else if sz + 20 < v then -draft else 0
    ∃ t, exec (.zonePass z) s = .next t
      ∧ t = { s with
          zones := s.zones.set z t.zones[z]
          flags := if es = [] ∧ old.blind = false then { s.flags with zoneBlind := true } else s.flags
          inFlight := s.inFlight ++ [.statusPublication z, .claimPosting (zoneClaim z) t.zones[z].qh]
            ++ (match r.sect with
              | some k => [.qcPosting k z t.zones[z].qc]
              | none => [])
            ++ [.sourceDelivery (.blower z) t.zones[z].blower, .sourceDelivery (.freshAir z) t.zones[z].freshAir] }
      ∧ t.zones[z].tz = some tz ∧ t.zones[z].blind = decide (es = []) ∧ t.zones[z].sz = sz
      ∧ (held → t.zones[z].integral = old.integral)
      ∧ (¬ held → t.zones[z].integral = clamp (old.integral + rounded (r.ki * e) 16) (-(r.ilim : Int)) r.ilim)
      ∧ t.zones[z].lastR
        = (if es = [] then clamp (r.fallback + f) (-1000) 1000
            else clamp (r.kp * e + t.zones[z].integral + f) (-1000) 1000)
      ∧ t.zones[z].published = ⟨t.zones[z].mode, tz, t.zones[z].blind, r.smax⟩
      ∧ t.zones[z].pass = some (1000 * r.interval)

/-- Steps 8 to 10 of a pass: the mode table, the two requests and the two air outputs, from the demand of the pass. -/
def Obligations.ZonePassChoosesModeAndOutputs : Prop :=
  ∀ (s : State) (z : Fin 8), s.zones[z].pass ≠ none → s.zones[z].mode ≠ .off →
    let r := s.zoneRow z
    let old := s.zones[z]
    let mine := (List.finRange 24).filter fun i => s.serves i (zoneClaim z)
    let capacity := if mine = [] ∨ ∃ i ∈ mine, s.channels[i].faulted = true then 0 else r.heater
    let band : Nat × Nat := match r.sect with
      | some k => if r.coupled = true then (s.profile k).2 else (0, 0)
      | none => (0, 0)
    let stage : StageRow := s.stageRow s.screen.stage
    let fb := max (max r.blowerFloor band.1) (if r.cab = true then stage.blowerFloor else 0)
    let boost : Nat := match s.overrides.find .blowerBoost (.one z), s.overrides.find .blowerBoost .all with
      | some o, _ => o.value.toNat
      | none, some o => o.value.toNat
      | none, none => 0
    let closed : Prop :=
      s.overrides.find .recirculate (.one z) ≠ none ∨ s.overrides.find .recirculate .all ≠ none
    ∃ t, exec (.zonePass z) s = .next t ∧
      let x := t.zones[z]
      (x.lastR = 0 → x.mode = .vent)
        ∧ (0 < x.lastR → r.hyst ≤ x.lastR → x.mode = .heat)
        ∧ (0 < x.lastR → x.lastR < r.hyst → x.mode = if old.mode = .heat then .heat else .vent)
        ∧ (x.lastR < 0 → x.lastR ≤ -(r.hyst : Int) → x.mode = .cool)
        ∧ (x.lastR < 0 → -(r.hyst : Int) < x.lastR → x.mode = if old.mode = .cool then .cool else .vent)
        ∧ x.qh = (if x.mode = .heat then roundedNat (x.lastR.toNat * capacity) 1000 else 0)
        ∧ (x.qc : Int) = (if x.mode = .cool then -x.lastR else 0)
        ∧ x.blower = min 1000 (fb + (1000 - fb) * x.lastR.natAbs / 1000 + boost)
        ∧ (r.cab = false → (closed → x.freshAir = 0) ∧ (¬ closed → x.freshAir = max r.freshFloor band.2))
        ∧ (r.cab = true → (closed → x.freshAir = stage.freshFloor)
            ∧ (¬ closed → x.freshAir = max (max r.freshFloor band.2) stage.freshFloor))

/-! ### Cooling units -/

/-- The request of a cooling unit in per mille is the largest Qc of the used zones of its section, and in the cab's
section with the dry flag set at least the dry floor. A posting of Qc and a stage notice are recorded, and the unit
computes and posts its request by its state, in STANDBY too where STOP found the posting or the notice in flight
(notes/assumptions/64.md), and a Qc of a zone that has left the section is recorded as well (72.md): the model's choices. -/
def Obligations.CoolingUnitsPostTheirRequest : Prop :=
  ∀ (s : State) (k : Fin 3),
    (
      let m := s.coolPerMille k
      let mine (z : Fin 8) : Prop := (s.zoneRow z).used = true ∧ (s.zoneRow z).sectCode = k.val
      let dried : Prop := s.coolers[k].dry = true ∧ ∃ z, s.cabZone = some z ∧ (s.zoneRow z).sectCode = k.val
      (∀ z : Fin 8, mine z → s.coolers[k].qcs[z] ≤ m) ∧ (dried → s.coolers[k].dryFloor ≤ m)
        ∧ (m = 0 ∨ (∃ z : Fin 8, mine z ∧ m = s.coolers[k].qcs[z]) ∨ (dried ∧ m = s.coolers[k].dryFloor)))
    ∧ ∀ (c : Instr) (u : Cooler),
        ((∃ z qc, c = .qcPosting k z qc ∧ u = { s.coolers[k] with qcs := s.coolers[k].qcs.set z qc })
          ∨ (∃ dry fl, c = .stageNotice k dry fl ∧ u = { s.coolers[k] with dry := dry, dryFloor := fl })) →
        let r := s.sectRow k
        let power := roundedNat
          (State.coolPerMille { s with coolers := s.coolers.set k u } k * (if r.used = true then r.rated else 0)) 1000
        let q := if power = 0 then 0 else max power (s.claimRow (coolClaim k)).minimum
        let leaves (x : Cooler) (es : List Instr) : Prop :=
          exec c s = .next { s with coolers := s.coolers.set k x, inFlight := s.inFlight.erase c ++ es }
        let cut : List Instr := if u.demand = 0 then [] else [.sourceDelivery (.demand k) 0]
        (u.state = .lockout → leaves { u with posted := 0 } [.claimPosting (coolClaim k) 0])
          ∧ (u.state = .off ∨ (u.state = .run ∧ (power ≠ 0 ∨ u.minOn ≠ none)) →
              leaves { u with posted := q } [.claimPosting (coolClaim k) q])
          ∧ (u.state = .run → power = 0 → u.minOn = none → r.minOff ≠ 0 →
              leaves { u with state := .lockout, minOff := some (1000 * r.minOff), posted := 0, demand := 0 }
                (cut ++ [.claimPosting (coolClaim k) 0]))
          ∧ (u.state = .run → power = 0 → u.minOn = none → r.minOff = 0 →
              leaves { u with state := .off, minOff := none, posted := 0, demand := 0 }
                (cut ++ [.claimPosting (coolClaim k) 0, .claimPosting (coolClaim k) 0]))

/-- A grant delivered to a cooling unit, by the unit's state, and the expiries of the two minimum times: a running unit with
nothing to do stops, a unit in LOCKOUT returns to OFF and posts its request; a minimum time of 0 is over at once. The
model's choices: a grant of 0 with nothing posted keeps a unit in RUN whatever its minimum (notes/assumptions/41.md), a grant
at a rated power of 0 is recorded only (42.md), a stopped timer expires without effect (5.md), and a
grant that STOP found in flight acts in STANDBY too (64.md). -/
def Obligations.CoolingGrantsAndMinimumTimes : Prop :=
  ∀ (s : State) (k : Fin 3) (g : Nat),
    let r := s.sectRow k
    let rated := if r.used = true then r.rated else 0
    let u := s.coolers[k]
    let minimum := (s.claimRow (coolClaim k)).minimum
    let power := roundedNat (s.coolPerMille k * rated) 1000
    let q := if power = 0 then 0 else max power minimum
    let d := min 1000 (g * 1000 / rated)
    let changed (before now : Nat) : List Instr := if now = before then [] else [.sourceDelivery (.demand k) now]
    let posts (n : Nat) : Instr := .claimPosting (coolClaim k) n
    let stopped (x : Cooler) : Cooler :=
      if r.minOff = 0 then { x with state := .off, minOn := none, minOff := none, demand := 0, posted := q }
      else { x with state := .lockout, minOn := none, minOff := some (1000 * r.minOff), demand := 0, posted := 0 }
    let stops (x : Cooler) : List Instr := changed x.demand 0 ++ posts 0 :: (if r.minOff = 0 then [posts q] else [])
    let started : Cooler :=
      { u with state := .run, minOn := if r.minOn = 0 then none else some (1000 * r.minOn), grant := g, demand := d }
    let granted (x : Cooler) (es : List Instr) : Prop :=
      exec (.coolingGrantDelivery k g) s
        = .next { s with coolers := s.coolers.set k x, inFlight := s.inFlight.erase (.coolingGrantDelivery k g) ++ es }
    let leaves (c : Instr) (x : Cooler) (es : List Instr) : Prop :=
      exec c s = .next { s with coolers := s.coolers.set k x, inFlight := s.inFlight ++ es }
    (u.state = .off → (g = 0 ∨ u.posted = 0 ∨ rated = 0) → granted { u with grant := g } [])
      ∧ (u.state = .off → g ≠ 0 → u.posted ≠ 0 → rated ≠ 0 →
          ((power ≠ 0 ∨ r.minOn ≠ 0) → granted { started with posted := q } (changed u.demand d ++ [posts q]))
            ∧ (power = 0 → r.minOn = 0 → granted (stopped started) (changed u.demand d ++ stops started)))
      ∧ (u.state = .run → ((g ≠ 0 ∧ minimum ≤ g) ∨ (g = 0 ∧ u.posted = 0)) →
          granted { u with grant := g, demand := d } (changed u.demand d))
      ∧ (u.state = .run → ((g ≠ 0 ∧ g < minimum) ∨ (g = 0 ∧ u.posted ≠ 0)) →
          granted (stopped { u with grant := g }) (stops u))
      ∧ (u.state = .lockout → granted { u with grant := g } [])
      ∧ (u.state = .lockout → u.minOff ≠ none →
          leaves (.minimumOffExpiry k) { u with state := .off, minOff := none, posted := q } [posts q])
      ∧ (u.state = .run → u.minOn ≠ none → power ≠ 0 →
          leaves (.minimumOnExpiry k) { u with minOn := none, posted := q } [posts q])
      ∧ (u.state = .run → u.minOn ≠ none → power = 0 → leaves (.minimumOnExpiry k) (stopped u) (stops u))
      ∧ (u.minOff = none ∨ u.state ≠ .lockout → exec (.minimumOffExpiry k) s = .next s)
      ∧ (u.minOn = none ∨ u.state ≠ .run → exec (.minimumOnExpiry k) s = .next s)

/-! ### The power allocator -/

/-- The share of one level: every need in full when the budget holds them; else the floored proportion, with the units
lost to flooring given out one at a time in ascending index to those below their need. -/
def Obligations.ShareOfALevel : Prop :=
  ∀ (remaining : Nat) (needs : List Nat),
    let got := shareOut remaining needs
    let floorOf (i : Nat) : Nat := needs.getD i 0 * remaining / needs.sum
    got.length = needs.length
      ∧ (needs.sum ≤ remaining → got = needs)
      ∧ (remaining < needs.sum → got.sum = remaining
          ∧ (∀ i < needs.length, floorOf i ≤ got.getD i 0 ∧ got.getD i 0 ≤ floorOf i + 1
              ∧ got.getD i 0 ≤ needs.getD i 0)
          ∧ ∀ j < needs.length, floorOf j < got.getD j 0 → ∀ i < j, floorOf i < needs.getD i 0 →
              got.getD i 0 = floorOf i + 1)

/-- The levels are served in ascending order. A claimant receives its share of what the lower levels have left of the budget,
or 0 when that share is below its minimum. At level 0 the windscreen heater's share comes out of the whole budget, and the
other claimants of the level share what it leaves: a single windscreen heater there has the share of its request, as far as the
budget goes, and the others of level 0 together receive no more than the rest, also where it is refused its share. So the
regular grants fit the budget; each is within its request, is 0 or at least its minimum, and is 0 at level 15; when all
requests below level 15 fit the budget, each that reaches its minimum is granted in full. That the windscreen heater comes
first at level 0 (R147), though R150 shares a level among all its claimants, is the model's reading
(notes/assumptions/65.md). -/
def Obligations.RegularGrantsFitTheBudget : Prop :=
  ∀ (beff : Nat) (cs : List Share),
    let got := regularGrants beff cs
    let first (c : Share) : Bool := c.windscreen && c.level == 0
    let sumOver (p : Share → Bool) : Nat := (List.zipWith (fun (c : Share) q => if p c then q else 0) cs got).sum
    let needs (p : Share → Bool) : List Nat := cs.map fun c => if p c then c.request else 0
    let before : List Nat := shareOut beff (needs first)
    let left (n : Nat) : Nat := if n = 0 then beff - before.sum else beff - sumOver fun c => c.level < n
    let others (n : Nat) : List Nat := shareOut (left n) (needs fun c => c.level == n && !first c)
    let share (i : Nat) (c : Share) : Nat := if first c then before.getD i 0 else (others c.level).getD i 0
    got.length = cs.length ∧ got.sum ≤ beff
      ∧ (∀ (i : Nat) (c : Share), cs[i]? = some c → c.level < 15 →
          got.getD i 0 = if c.minimum ≤ share i c then share i c else 0)
      ∧ (∀ (i : Nat) (c : Share), cs[i]? = some c → c.windscreen = true → c.level = 0 →
          (cs.map fun x => x.windscreen).count true = 1 →
          got.getD i 0 = (if c.minimum ≤ min c.request beff then min c.request beff else 0)
            ∧ sumOver (fun x => x.level == 0 && !x.windscreen) ≤ beff - min c.request beff)
      ∧ ∀ (i : Nat) (c : Share), cs[i]? = some c →
          got.getD i 0 ≤ c.request ∧ (got.getD i 0 = 0 ∨ c.minimum ≤ got.getD i 0)
            ∧ (15 ≤ c.level → got.getD i 0 = 0)
            ∧ (((cs.filter fun x => x.level < 15).map fun x => x.request).sum ≤ beff → c.level < 15 →
                c.minimum ≤ c.request → got.getD i 0 = c.request)

/-- The triggers that reach the allocator: a publication, a posting that differs, a change of claimant 19's effective level.
In RUNNING every grant is formed anew and each that changed is delivered; in STANDBY only the record changes. The model's
choices: the hand-overs stand in `inFlight` (notes/assumptions/3.md), and a departure at a MAX count of 0 leaves it at 0 and
an entry at 16 counts on (48.md); the windscreen heater comes first at level 0 (65.md). -/
def Obligations.AllocatorTriggersRegrant : Prop :=
  ∀ s : State,
    (∀ z : Fin 8, exec (.statusPublication z) s
        = .next (State.regranted { s with inFlight := s.inFlight.erase (.statusPublication z) }))
      ∧ (∀ (c : Fin 20) (q : Nat), (c.val < 8 ∨ (16 ≤ c.val ∧ c.val < 19)) →
          let noted : State := { s with
            inFlight := s.inFlight.erase (.claimPosting c q)
            alloc := { s.alloc with claims := s.alloc.claims.set c { s.alloc.claims[c] with posted := q } } }
          exec (.claimPosting c q) s = .next (if q = s.alloc.claims[c].posted then noted else noted.regranted))
      ∧ ∀ entered : Bool,
          let n := if entered = true then s.alloc.maxCount + 1 else s.alloc.maxCount - 1
          let noted : State := { s with
            inFlight := s.inFlight.erase (.maxCountNotice entered)
            alloc := { s.alloc with maxCount := n } }
          exec (.maxCountNotice entered) s
            = .next (if (s.claimRow 19).level ≠ 0 ∧ ¬ (n = 0 ↔ s.alloc.maxCount = 0) then noted.regranted else noted)

/-- A capacity event, and a posting of a curtain or of the windscreen heater, bring the claimant's capacity up to what its
owner can use at present. When the capacity changes, each of its heater channels forms its commanded value again from the
grant as it stands; a change of the capacity or of the request is a trigger, taken after that (the model's order,
notes/assumptions/17.md; the windscreen heater comes first at level 0, 65.md). The event carries no health, and a
capacity follows the health, the burst state and the stage that stand when the event is taken: the model's choice too
(69.md). -/
def Obligations.CapacitiesFollowTheirOwners : Prop :=
  ∀ (s : State) (c : Fin 20) (e : Instr) (posted : Nat),
    ((e = .capacityEvent c ∧ posted = s.alloc.claims[c].posted)
      ∨ (e = .claimPosting c posted ∧ ((8 ≤ c.val ∧ c.val < 16) ∨ c.val = 19))) →
    let old := s.alloc.claims[c]
    let capacity := s.usablePower c
    let noted : State := { s with
      inFlight := s.inFlight.erase e
      alloc := { s.alloc with claims := s.alloc.claims.set c { old with posted := posted, capacity := capacity } } }
    ∃ t, exec e s = .next t
      ∧ (posted = old.posted → capacity = old.capacity → t = noted)
      ∧ (posted ≠ old.posted ∨ capacity ≠ old.capacity → t = { noted.regranted with channels := t.channels })
      ∧ ∀ i : Fin 24, t.channels[i]
          = (if capacity ≠ old.capacity ∧ s.serves i c = true ∧ (c.val < 16 ∨ c.val = 19) then
              noted.withCommand i (noted.commandedValue i (old.regular + old.absorption))
            else s.channels[i])

/-- The notifications of the three power slots: the line state, the permitted power and the surplus; the target budget
with its action on Beff and the ramp timer; the absorption pool. In RUNNING a changed pool forms every grant
anew and delivers each that changed. The model's choices: a slot that is not designated changes nothing
(notes/assumptions/20.md), a notification that a SLOT commit has overtaken acts as it stands (56.md), and the windscreen
heater comes first at level 0 (65.md). -/
def Obligations.PowerSlotsSetTheBudget : Prop :=
  ∀ (s : State) (n : SlotNote),
    let a := s.alloc
    let line : LineState :=
      if n.status = .fresh then
        (if n.value = 0 then .wired else if n.value = 1 then .dewired else if n.value = 2 then .shore else .unknown)
      else .unknown
    let permitted : Option Nat :=
      if n.status = .fresh then some n.value.toNat else if n.status = .held then a.permitted else none
    let surplus : Option Nat := if n.status = .fresh then some n.value.toNat else none
    let target (l : LineState) (p : Option Nat) : Nat := min (s.budgetRow l).base (p.getD (s.budgetRow l).base)
    let pool (l : LineState) (v : Option Nat) : Nat :=
      if l = .wired then min (v.getD 0) (s.budgetRow .wired).cap else 0
    let budget (t : State) (T : Nat) : Prop :=
      t.alloc.target = T ∧ t.alloc.beff = min T a.beff
        ∧ t.alloc.ramp = (if T ≤ a.beff then none else some (a.ramp.getD 1000))
    let others (e : Instr) (t : State) : Prop :=
      t = { s with alloc := t.alloc, inFlight := t.inFlight, flags := t.flags }
        ∧ t.alloc.maxCount = a.maxCount
        ∧ (∀ c : Fin 20, t.alloc.claims[c].posted = a.claims[c].posted
            ∧ t.alloc.claims[c].capacity = a.claims[c].capacity)
        ∧ (s.part = .standby →
            t.alloc.claims = a.claims ∧ t.flags = s.flags ∧ t.inFlight = s.inFlight.erase e)
    (∃ t, exec (.lineStateNotification n) s = .next t ∧ others (.lineStateNotification n) t
        ∧ t.alloc.permitted = a.permitted ∧ t.alloc.surplus = a.surplus
        ∧ (s.designated .lineState = some n.slot → line ≠ a.line →
            t.alloc.line = line ∧ budget t (target line a.permitted) ∧ t.alloc.pool = pool line a.surplus)
        ∧ (s.designated .lineState ≠ some n.slot ∨ line = a.line →
            t.alloc = a ∧ t.flags = s.flags ∧ t.inFlight = s.inFlight.erase (.lineStateNotification n)))
      ∧ (∃ t, exec (.permittedPowerNotification n) s = .next t ∧ others (.permittedPowerNotification n) t
        ∧ t.alloc.line = a.line ∧ t.alloc.surplus = a.surplus ∧ t.alloc.pool = a.pool
        ∧ (s.designated .permittedPower = some n.slot →
            t.alloc.permitted = permitted ∧ budget t (target a.line permitted))
        ∧ (s.designated .permittedPower ≠ some n.slot →
            t.alloc = a ∧ t.flags = s.flags ∧ t.inFlight = s.inFlight.erase (.permittedPowerNotification n)))
      ∧ (∃ t, exec (.surplusNotification n) s = .next t ∧ others (.surplusNotification n) t ∧ t.flags = s.flags
        ∧ t.alloc.line = a.line ∧ t.alloc.permitted = a.permitted ∧ t.alloc.target = a.target
        ∧ t.alloc.beff = a.beff ∧ t.alloc.ramp = a.ramp
        ∧ (s.designated .surplus = some n.slot →
            t.alloc.surplus = surplus ∧ t.alloc.pool = pool a.line surplus
              ∧ t = State.pooled { s with
                  inFlight := s.inFlight.erase (.surplusNotification n), alloc := { a with surplus := surplus } })
        ∧ (s.designated .surplus ≠ some n.slot →
            t.alloc = a ∧ t.inFlight = s.inFlight.erase (.surplusNotification n)))

/-- The ramp timer's expiry raises Beff by the ramp rate up to the target; a change of Beff is a trigger. A fall of Beff,
whatever arrival lowers the target, by a notification of the permitted power or of the line state, is a recomputation that
sets BUDGET_SHED when it lowers a regular grant, and does not when it lowers none. The model's choices: a stopped ramp timer
expires without effect (notes/assumptions/5.md), a line state's change of the pool comes after its fall (50.md), a
notification that a SLOT commit has overtaken acts as it stands (56.md), and the windscreen heater comes first at level
0 (65.md). -/
def Obligations.BeffRisesByTheRampAndShedsOnAFall : Prop :=
  ∀ s : State,
    (
      let rate := if s.sys.used = true then s.sys.rampRate else 10
      let b := min s.alloc.target (s.alloc.beff + rate)
      let risen : State :=
        { s with alloc := { s.alloc with beff := b, ramp := if b < s.alloc.target then some 1000 else none } }
      (s.alloc.ramp = none → exec .rampExpiry s = .next s)
        ∧ (s.alloc.ramp ≠ none → exec .rampExpiry s = .next (if b = s.alloc.beff then risen else risen.regranted)))
    ∧ ∀ (n : SlotNote),
      let line : LineState :=
        if n.status = .fresh then
          (if n.value = 0 then .wired else if n.value = 1 then .dewired else if n.value = 2 then .shore else .unknown)
        else .unknown
      let permitted : Option Nat :=
        if n.status = .fresh then some n.value.toNat else if n.status = .held then s.alloc.permitted else none
      let taken (e : Instr) (a : Alloc) : State := { s with inFlight := s.inFlight.erase e, alloc := a }
      let limit (a : Alloc) : Nat := min (s.budgetRow a.line).base (a.permitted.getD (s.budgetRow a.line).base)
      let fallen (e : Instr) (a : Alloc) : State :=
        taken e { a with target := limit a, beff := limit a, ramp := none }
      let lowered (e : Instr) (a : Alloc) : Prop :=
        ∃ c : Fin 20, (fallen e a).regrantedClaims[c].regular < s.alloc.claims[c].regular
      let after (e : Instr) (a : Alloc) : State :=
        if s.alloc.beff ≤ limit a then
          taken e { a with
            target := limit a, ramp := if limit a = s.alloc.beff then none else some (s.alloc.ramp.getD 1000) }
        else if s.part = .running ∧ lowered e a then
          { (fallen e a).regranted with flags := { s.flags with budgetShed := true } }
        else (fallen e a).regranted
      (s.designated .permittedPower = some n.slot → exec (.permittedPowerNotification n) s
          = .next (after (.permittedPowerNotification n) { s.alloc with permitted := permitted }))
        ∧ (s.designated .lineState = some n.slot → line ≠ s.alloc.line → exec (.lineStateNotification n) s
            = .next (after (.lineStateNotification n) { s.alloc with line := line }).pooled)

/-! ### Doors -/

/-- A report of the state slot at the debounce: agreement cancels a running debounce, a difference starts one or leaves
it running, a debounce of 0 accepts at once; a change to EMPTY cancels. The model's choices: a running debounce is left
running also when a commit has since set the row's debounce to 0 (notes/assumptions/46.md), and a notification that a SLOT
commit has overtaken acts as it stands (56.md). -/
def Obligations.DoorReportsAreDebounced : Prop :=
  ∀ (s : State) (d : Fin 8) (n : SlotNote), (s.doorRow d).used = true → (s.doorRow d).stateSlot = n.slot.val →
    let x := s.doors[d]
    let reported := decide (n.value ≠ 0)
    let e : Instr := .doorStateNotification d n
    let taken : State := { s with inFlight := s.inFlight.erase e }
    let leaves (y : Door) : Prop := exec e s = .next { taken with doors := s.doors.set d y }
    (n.status = .fresh ∨ n.status = .substituted →
        (reported = x.isOpen → leaves { x with candidate := none, debounce := none })
          ∧ (reported ≠ x.isOpen → x.candidate ≠ none → leaves x)
          ∧ (reported ≠ x.isOpen → x.candidate = none → (s.doorRow d).debounce ≠ 0 →
              leaves { x with candidate := some reported, debounce := some (s.doorRow d).debounce })
          ∧ (reported ≠ x.isOpen → x.candidate = none → (s.doorRow d).debounce = 0 →
              exec e s = exec (.debounceExpiry d)
                { taken with doors := s.doors.set d { x with candidate := some reported, debounce := some 0 } }))
      ∧ (n.status = .empty → leaves { x with candidate := none, debounce := none })
      ∧ (n.status = .held → exec e s = .next taken)

/-- The debounce expires toward OPEN: the accepted state, and in RUNNING the open time and the trigger by mode, mask and
burst state. -/
def Obligations.OpenedEventAtADoor : Prop :=
  ∀ (s : State) (d : Fin 8) (w : BurstFields), s.doors[d].debounce ≠ none → s.doors[d].candidate = some true →
    s.doors[d].working = some w →
    let x := s.doors[d]
    let shut : Door := { x with isOpen := true, candidate := none, debounce := none }
    let y : Door := { shut with openMs := 0 }
    let masked : Prop := x.serviceMask = true ∨ x.overrideMask = true ∨ s.groupMask = true
    let runs : Prop := s.part = .running ∧ (s.doorRow d).used = true
    let leaves (z : Door) : Prop := exec (.debounceExpiry d) s = .next { s with doors := s.doors.set d z }
    let started : Door :=
      if w.modeCode = 3 then { y with pv := w.n }
      else if w.modeCode = 5 then { y with series := 0, ending := false } else y
    (¬ runs → leaves shut)
      ∧ (runs → w.modeCode = 4 → leaves y)
      ∧ (runs → w.modeCode ≠ 4 →
          (x.burst = .idle → masked → leaves { y with latch := true })
            ∧ (x.burst = .idle → ¬ masked → w.modeCode = 3 → 1 < x.pv → leaves { y with pv := x.pv - 1 })
            ∧ (x.burst = .idle → ¬ masked → (w.modeCode ≠ 3 ∨ x.pv ≤ 1) → w.delay ≠ 0 →
                leaves { started with burst := .delay, timer := some (1000 * w.delay) })
            ∧ (x.burst = .idle → ¬ masked → (w.modeCode ≠ 3 ∨ x.pv ≤ 1) → w.delay = 0 →
                exec (.debounceExpiry d) s
                  = .next { s with
                      doors := s.doors.set d
                        { started with
                          burst := .burst
                          timer := some (1000 * (if w.modeCode = 2 then w.tmax else w.tb))
                          series := if w.modeCode = 5 then 1 else x.series }
                      inFlight := s.inFlight ++ [.claimPosting (curtainClaim d) w.curtain] })
            ∧ (x.burst = .recovery → leaves { y with latch := true })
            ∧ (x.burst = .delay ∨ x.burst = .burst ∨ x.burst = .gap →
                exec (.debounceExpiry d) s
                  = .next { s with
                      doors := s.doors.set d { y with dropped := min 255 (x.dropped + 1) }
                      flags := { s.flags with doorDropped := true } }))

/-- The debounce expires toward CLOSED: the accepted state, and in RUNNING the accumulator and what the closing is to
the burst by mode. A recovery of 0 s is over at its entry, and a delay of 0 s at its start. -/
def Obligations.ClosedEventAtADoor : Prop :=
  ∀ (s : State) (d : Fin 8) (w : BurstFields), s.doors[d].debounce ≠ none → s.doors[d].candidate = some false →
    s.doors[d].working = some w →
    let x := s.doors[d]
    let shut : Door := { x with isOpen := false, candidate := none, debounce := none }
    let y : Door := { shut with accum := min 65535 (x.accum + x.openMs / 1000), openMs := 0 }
    let masked : Prop := x.serviceMask = true ∨ x.overrideMask = true ∨ s.groupMask = true
    let runs : Prop := s.part = .running ∧ (s.doorRow d).used = true
    let leaves (z : Door) : Prop := exec (.debounceExpiry d) s = .next { s with doors := s.doors.set d z }
    (¬ runs → leaves shut)
      ∧ (runs → w.modeCode = 1 ∨ w.modeCode = 3 → leaves y)
      ∧ (runs → w.modeCode = 2 → x.burst ≠ .burst → leaves y)
      ∧ (runs → w.modeCode = 2 → x.burst = .burst → w.recovery ≠ 0 →
          exec (.debounceExpiry d) s
            = .next { s with
                doors := s.doors.set d { y with burst := .recovery, timer := some (1000 * w.recovery) }
                inFlight := s.inFlight ++ [.claimPosting (curtainClaim d) 0] })
      ∧ (runs → w.modeCode = 2 → x.burst = .burst → w.recovery = 0 →
          exec (.debounceExpiry d) s = exec (.recoveryExpiry d) { s with
            doors := s.doors.set d { y with burst := .recovery, timer := some 0 }
            inFlight := s.inFlight ++ [.claimPosting (curtainClaim d) 0] })
      ∧ (runs → w.modeCode = 5 →
          leaves { y with ending := if x.burst = .burst ∨ x.burst = .gap then true else x.ending })
      ∧ (runs → w.modeCode = 4 → 1 < x.pv → leaves { y with pv := x.pv - 1 })
      ∧ (runs → w.modeCode = 4 → x.pv ≤ 1 →
          (x.burst = .idle → masked → leaves { y with pv := w.n, latch := true })
            ∧ (x.burst = .idle → ¬ masked → w.delay ≠ 0 →
                leaves { y with pv := w.n, burst := .delay, timer := some (1000 * w.delay) })
            ∧ (x.burst = .idle → ¬ masked → w.delay = 0 →
                exec (.debounceExpiry d) s
                  = exec (.delayExpiry d) { s with
                      doors := s.doors.set d { y with pv := w.n, burst := .delay, timer := some 0 } })
            ∧ (x.burst = .recovery → leaves { y with pv := w.n, latch := true })
            ∧ (x.burst = .delay ∨ x.burst = .burst →
                exec (.debounceExpiry d) s
                  = .next { s with
                      doors := s.doors.set d { y with pv := w.n, dropped := min 255 (x.dropped + 1) }
                      flags := { s.flags with doorDropped := true } }))

/-- The ends of the door timer: a delay and a burst, the entry to BURST by mode with its claim, GAP, or RECOVERY with a
claim of 0; a gap, with a further burst under the four conditions, else RECOVERY; a recovery, to IDLE, where a staged
record is installed before a latched trigger is taken. A recovery of 0 s is over at its entry. An expiry that does not fit
the burst state has no effect (the model's reading, notes/assumptions/5.md). -/
def Obligations.DoorTimersEndTheirStates : Prop :=
  ∀ (s : State) (d : Fin 8) (w : BurstFields), s.doors[d].timer ≠ none → s.doors[d].working = some w →
    let x := s.doors[d]
    let masked : Prop := x.serviceMask = true ∨ x.overrideMask = true ∨ s.groupMask = true
    let after (z : Door) (posts : List Nat) : State :=
      { s with
        doors := s.doors.set d z, inFlight := s.inFlight ++ posts.map fun q => .claimPosting (curtainClaim d) q }
    let leaves (e : Instr) (z : Door) (posts : List Nat) : Prop := exec e s = .next (after z posts)
    let rests (e : Instr) (posts : List Nat) : Prop :=
      (w.recovery ≠ 0 → leaves e { x with burst := .recovery, timer := some (1000 * w.recovery) } posts)
        ∧ (w.recovery = 0 →
            exec e s = exec (.recoveryExpiry d) (after { x with burst := .recovery, timer := some 0 } posts))
    let on : Prop := x.isOpen = true ∧ x.ending = false ∧ x.staged = none ∧ (w.n = 0 ∨ x.series < w.n)
    let next : BurstFields := x.staged.getD w
    let idle : Door :=
      { x with
        burst := .idle, timer := none, working := some next, staged := none
        pv := if x.staged ≠ none ∧ (next.modeCode = 3 ∨ next.modeCode = 4) then next.n else x.pv }
    (x.burst = .delay → w.modeCode = 2 → x.isOpen = false → rests (.delayExpiry d) [])
      ∧ (x.burst = .delay → w.modeCode = 2 → x.isOpen = true →
          leaves (.delayExpiry d) { x with burst := .burst, timer := some (1000 * w.tmax) } [w.curtain])
      ∧ (x.burst = .delay → w.modeCode = 1 ∨ w.modeCode = 3 →
          leaves (.delayExpiry d) { x with burst := .burst, timer := some (1000 * w.tb) } [w.curtain])
      ∧ (x.burst = .delay → w.modeCode = 5 →
          leaves (.delayExpiry d)
            { x with burst := .burst, timer := some (1000 * w.tb), series := min 255 (x.series + 1) } [w.curtain])
      ∧ (x.burst = .delay → w.modeCode = 4 →
          leaves (.delayExpiry d)
            { x with
              burst := .burst, timer := some (1000 * max 1 (min w.tmax (x.accum * w.gain / 16)))
              accum := 0, pv := w.n, openMs := 0 } [w.curtain])
      ∧ (x.burst = .burst → w.modeCode = 5 →
          leaves (.burstExpiry d) { x with burst := .gap, timer := some (1000 * w.gap) } [0])
      ∧ (x.burst = .burst → w.modeCode ≠ 5 → rests (.burstExpiry d) [0])
      ∧ (x.burst = .gap → w.modeCode = 5 → on →
          leaves (.gapExpiry d)
            { x with burst := .burst, timer := some (1000 * w.tb), series := min 255 (x.series + 1) } [w.curtain])
      ∧ (x.burst = .gap → ¬ on → rests (.gapExpiry d) [])
      ∧ (x.burst = .recovery → (x.latch = false ∨ masked) → leaves (.recoveryExpiry d) idle [])
      ∧ (x.burst = .recovery → x.latch = true → ¬ masked → next.modeCode = 3 → 1 < idle.pv →
          leaves (.recoveryExpiry d) { idle with latch := false, pv := idle.pv - 1 } [])
      ∧ (x.burst = .recovery → x.latch = true → ¬ masked → (next.modeCode ≠ 3 ∨ idle.pv ≤ 1) → next.delay ≠ 0 →
          leaves (.recoveryExpiry d)
            { idle with
              latch := false, burst := .delay, timer := some (1000 * next.delay)
              pv := if next.modeCode = 3 then next.n else idle.pv
              series := if next.modeCode = 5 then 0 else x.series
              ending := if next.modeCode = 5 then false else x.ending } [])
      ∧ (x.burst = .recovery → x.latch = true → ¬ masked → (next.modeCode ≠ 3 ∨ idle.pv ≤ 1) → next.delay = 0 →
          let y : Door :=
            { idle with
              latch := false, burst := .delay, timer := some 0
              pv := if next.modeCode = 3 then next.n else idle.pv
              series := if next.modeCode = 5 then 0 else x.series
              ending := if next.modeCode = 5 then false else x.ending }
          exec (.recoveryExpiry d) s = exec (.delayExpiry d) (after y []))
      ∧ (x.burst ≠ .delay → exec (.delayExpiry d) s = .next s)
      ∧ (x.burst ≠ .burst → exec (.burstExpiry d) s = .next s)
      ∧ (x.burst ≠ .gap → exec (.gapExpiry d) s = .next s)
      ∧ (x.burst ≠ .recovery → exec (.recoveryExpiry d) s = .next s)

/-- A CURTAIN_QUIET notice sets or clears its mask; a door whose effective mask clears in IDLE with a latched trigger takes
it, a delay of 0 s being over at once, but not when STOP cleared the mask (notes/assumptions/32.md). An arrival at a count
slot is handed to the load counter, its value within 0 to 255, for the section of the door's zone; any other notification,
and a door of no used zone, hands nothing. A notification that a SLOT commit has overtaken acts as it stands: the model's
choice (56.md). -/
def Obligations.MaskAndCountNoticesAtADoor : Prop :=
  (∀ (s : State) (d : Fin 8) (mask byStop : Bool),
     let x := s.doors[d]
     let y : Door := { x with overrideMask := mask }
     let e : Instr := .maskChange (.one d) mask byStop
     let leaves (z : Door) : Prop :=
       exec e s = .next { s with doors := s.doors.set d z, inFlight := s.inFlight.erase e }
     let started (z : Door) (w : BurstFields) : Door := { z with
       latch := false, burst := .delay, timer := some (1000 * w.delay)
       pv := if w.modeCode = 3 then w.n else x.pv
       series := if w.modeCode = 5 then 0 else x.series
       ending := if w.modeCode = 5 then false else x.ending }
     let takes : Prop := s.part = .running ∧ (s.doorRow d).used = true ∧ mask = false ∧ x.overrideMask = true
       ∧ x.serviceMask = false ∧ s.groupMask = false ∧ byStop = false ∧ x.latch = true ∧ x.burst = .idle
     (¬ takes → leaves y)
       ∧ (takes → ∀ w, x.working = some w →
           ((w.modeCode ≠ 3 ∨ x.pv ≤ 1) → w.delay ≠ 0 → leaves (started y w))
             ∧ ((w.modeCode ≠ 3 ∨ x.pv ≤ 1) → w.delay = 0 →
                 exec e s = exec (.delayExpiry d)
                   { s with doors := s.doors.set d (started y w), inFlight := s.inFlight.erase e })
             ∧ (w.modeCode = 3 → 1 < x.pv → leaves { y with latch := false, pv := x.pv - 1 }))
       ∧ ((∀ c : Fin 8, s.doors[c].latch = false) →
           exec (.maskChange .all mask byStop) s
             = .next { s with groupMask := mask, inFlight := s.inFlight.erase (.maskChange .all mask byStop) })
       ∧ (let clears : Prop := s.part = .running ∧ (s.doorRow d).used = true ∧ mask = false ∧ s.groupMask = true
            ∧ x.serviceMask = false ∧ x.overrideMask = false ∧ byStop = false ∧ x.latch = true ∧ x.burst = .idle
          ∃ t, exec (.maskChange .all mask byStop) s = .next t ∧ t.groupMask = mask
            ∧ (¬ clears → t.doors[d] = x)
            ∧ (clears → ∀ w, x.working = some w →
                ((w.modeCode ≠ 3 ∨ x.pv ≤ 1) → w.delay ≠ 0 → t.doors[d] = started x w)
                  ∧ ((w.modeCode ≠ 3 ∨ x.pv ≤ 1) → w.delay = 0 → ∃ u,
                      exec (.delayExpiry d) { s with groupMask := false, doors := s.doors.set d (started x w) } = .next u
                        ∧ t.doors[d] = u.doors[d])
                  ∧ (w.modeCode = 3 → 1 < x.pv → t.doors[d] = { x with latch := false, pv := x.pv - 1 }))))
  ∧ ∀ (s : State) (d : Fin 8) (n : SlotNote) (z : Fin 8) (k : Fin 3) (dir : CountDir), (s.doorRow d).used = true →
      (match dir with
        | .boarded => (s.doorRow d).boardedSlot
        | .alighted => (s.doorRow d).alightedSlot) = n.slot.val →
      (s.doorRow d).zoneCode = z.val → (s.zoneRow z).sectCode = k.val →
      let e : Instr := .countSlotNotification d dir n
      let v := (min 255 (max 0 n.value)).toNat
      let handed : Instr := match dir with
        | .boarded => .boarding k v
        | .alighted => .alighting k v
      exec e s = .next { s with
        inFlight := s.inFlight.erase e
          ++ (if (n.status = .fresh ∨ n.status = .substituted) ∧ (s.zoneRow z).used = true then [handed] else []) }

/-! ### The load counter -/

/-- A boarding and an alighting: the clamp with its flags, and the lookup under the band dwell; the looked-up band is the
lowest used row that covers the count. The model's choices: the event stands in `inFlight` until it is taken
(notes/assumptions/3.md), and an event of 0 that finds a band left pending by a dwell since set to 0 makes it current
(54.md). -/
def Obligations.BoardingsAndAlightingsCount : Prop :=
  ∀ (s : State) (k : Fin 3) (v : Nat) (e : Instr) (result : Int),
    ((e = .boarding k v ∧ result = s.loads[k].count + v) ∨ (e = .alighting k v ∧ result = s.loads[k].count - v)) →
    let x := s.loads[k]
    let most := s.capacityOf k
    let count := (max 0 (min result most)).toNat
    let covers (i : Nat) : Prop := (s.bandRow i).used = true ∧ (s.bandRow i).lower ≤ count ∧ count ≤ (s.bandRow i).upper
    let counted : Load := { x with
      count := count, isOver := x.isOver || decide (most < result), isUnder := x.isUnder || decide (result < 0) }
    ∃ band : Option Nat,
      (∀ i, band = some i ↔ i < 8 ∧ covers i ∧ ∀ j < i, ¬ covers j)
        ∧ exec e s = .next { s with
          inFlight := s.inFlight.erase e
          flags := if most < result ∨ result < 0 then { s.flags with countSaturated := true } else s.flags
          loads := s.loads.set k
            (if band = x.current then { counted with pendingBand := none, dwell := none }
            else if s.bandDwell = 0 then { counted with current := band, pendingBand := none, dwell := none }
            else if x.pendingBand = some band then counted
            else { counted with pendingBand := some band, dwell := some (1000 * s.bandDwell) }) }

/-- The dwell timer makes the pending band current; a rise of the terminus mark resets every ARMED section; every other
notification but HELD sets the mark level alone. A notification that a SLOT commit has overtaken acts as it stands: the
model's choice (notes/assumptions/56.md). -/
def Obligations.DwellAndTerminusMark : Prop :=
  ∀ s : State,
    (∀ (k : Fin 3) (band : Option Nat), s.loads[k].dwell ≠ none → s.loads[k].pendingBand = some band →
        exec (.dwellTimerExpiry k) s
          = .next { s with
              loads := s.loads.set k { s.loads[k] with current := band, pendingBand := none, dwell := none } })
      ∧ ∀ n : SlotNote, s.designated .terminusMark = some n.slot →
          let taken : State := { s with inFlight := s.inFlight.erase (.terminusMarkNotification n) }
          (n.status = .held → exec (.terminusMarkNotification n) s = .next taken)
            ∧ (n.status = .fresh → n.value ≠ 0 → s.markHigh = false →
                ∃ t, exec (.terminusMarkNotification n) s = .next t
                  ∧ t = { taken with markHigh := true, loads := t.loads }
                  ∧ ∀ k : Fin 3, t.loads[k]
                    = (if s.loads[k].armed = true then ⟨0, false, false, false, s.bandOf 0, none, none⟩
                        else s.loads[k]))
            ∧ (n.status = .fresh → n.value ≠ 0 → s.markHigh = true →
                exec (.terminusMarkNotification n) s = .next taken)
            ∧ (n.status ≠ .held → (n.status ≠ .fresh ∨ n.value = 0) →
                exec (.terminusMarkNotification n) s = .next { taken with markHigh := false })

/-! ### The screen unit -/

/-- A screen pass: the margin from the two designated slots, the step under the pointer, the stage entered with what a
stage change hands over, and the flap. -/
def Obligations.ScreenPassWalksTheSteps : Prop :=
  ∀ s : State, s.screen.pass ≠ none →
    let c := s.screen
    let margin : Option Int := match s.roleValue .glass, s.roleValue .dewpoint with
      | some g, some d => some (g - d)
      | _, _ => none
    let row := s.stepRow (c.pointer.getD 0)
    ∃ t, exec .screenPass s = .next t ∧
      let x := t.screen
      let kept : Prop := x.stage = c.stage ∧ x.stageMs = c.stageMs ∧ x.entryDwell = c.entryDwell ∧ x.pointer = c.pointer
      let entered (stage : Stage) (dwell : Nat) : Prop := x.stage = stage ∧ x.stageMs = 0 ∧ x.entryDwell = dwell
      let flap := if x.stage = .off then 0
        else if 0 < x.posted ∧ x.grant < x.posted then
          max (s.stageRow x.stage).flap (s.stageRow .max).flap
        else (s.stageRow x.stage).flap
      t = { s with screen := x, inFlight := t.inFlight }
        ∧ x.margin = margin ∧ x.blind = decide (margin = none) ∧ x.pass = some (1000 * s.screenInterval)
        ∧ x.maxCount = c.maxCount ∧ x.grant = c.grant ∧ x.flap = flap
        ∧ x.posted = (if x.stage = c.stage then c.posted else (s.stageRow x.stage).request)
        ∧ t.inFlight = s.inFlight
            ++ (if x.stage = c.stage then [] else
              .claimPosting screenClaim x.posted
                :: (List.finRange 3).map fun k =>
                  .stageNotice k (s.stageRow x.stage).dry (s.stageRow x.stage).dryFloor)
            ++ (if x.flap = c.flap then [] else [.sourceDelivery .flap x.flap])
        ∧ (c.stage = .max ∨ c.stage = .off → kept)
        ∧ (margin = none → c.stage = .demist → kept)
        ∧ (margin = none → c.stage = .watch ∨ c.stage = .clear → entered .demist 0 ∧ x.pointer = c.pointer)
        ∧ ∀ m, margin = some m → c.stage = .watch ∨ c.stage = .demist ∨ c.stage = .clear →
            let met : Prop := if row.rising = true then row.threshold ≤ m else m ≤ row.threshold
            (c.pointer = none → c.stage = .watch → kept)
              ∧ (c.pointer = none → c.stage ≠ .watch → entered .watch 0 ∧ x.pointer = none)
              ∧ (c.pointer ≠ none → (¬ met ∨ c.stageMs < 1000 * c.entryDwell) → kept)
              ∧ ∀ i stage, c.pointer = some i → met → 1000 * c.entryDwell ≤ c.stageMs →
                  stepStageOfCode row.stageCode = some stage →
                  entered stage row.dwell
                    ∧ (∀ j, x.pointer = some j → j < 12 ∧ (s.stepRow j).used = true
                        ∧ (i < j → ∀ m < j, i < m → (s.stepRow m).used = false)
                        ∧ (j ≤ i → (∀ m < 12, i < m → (s.stepRow m).used = false)
                            ∧ ∀ m < j, (s.stepRow m).used = false))
                    ∧ (x.pointer = none → ∀ m < 12, (s.stepRow m).used = false)

/-- A grant of the screen is recorded and the flap formed; the first SCREEN_MAX record in RUNNING enters MAX, and the
last one to leave ends it; every other notice moves the count alone, also a departure at a count of 0 and an entry at 16:
the model's choice (notes/assumptions/48.md). -/
def Obligations.ScreenGrantAndMaximumDefrost : Prop :=
  ∀ s : State,
    let c := s.screen
    let flapOf (stage : Stage) (posted grant : Nat) : Nat := if stage = .off then 0
      else if 0 < posted ∧ grant < posted then max (s.stageRow stage).flap (s.stageRow .max).flap
      else (s.stageRow stage).flap
    let flapped (f : Nat) : List Instr := if f = c.flap then [] else [.sourceDelivery .flap f]
    let changed (e : Instr) (count : Nat) (stage : Stage) (pointer : Option Nat) : Prop :=
      let p := s.stageRow stage
      let f := flapOf stage p.request c.grant
      exec e s = .next { s with
        screen := { c with
          maxCount := count, stage := stage, stageMs := 0, entryDwell := 0, pointer := pointer, posted := p.request
          flap := f }
        inFlight := s.inFlight.erase e
          ++ (.claimPosting screenClaim p.request
            :: (List.finRange 3).map fun k => .stageNotice k p.dry p.dryFloor) ++ flapped f }
    let counted (e : Instr) (count : Nat) : Prop :=
      exec e s = .next { s with screen := { c with maxCount := count }, inFlight := s.inFlight.erase e }
    (∀ g, exec (.screenGrantDelivery g) s = .next { s with
        screen := { c with grant := g, flap := flapOf c.stage c.posted g }
        inFlight := s.inFlight.erase (.screenGrantDelivery g) ++ flapped (flapOf c.stage c.posted g) })
      ∧ (s.part = .running → c.maxCount = 0 → c.stage ≠ .max → changed .screenMaxEntryNotice 1 .max c.pointer)
      ∧ (s.part = .standby ∨ 0 < c.maxCount → counted .screenMaxEntryNotice (c.maxCount + 1))
      ∧ (s.part = .running → c.maxCount = 1 → c.stage = .max →
          (∀ i, i < 12 → (s.stepRow i).used = true → (s.stepRow i).rising = true →
              (∀ j < i, (s.stepRow j).used = true → (s.stepRow j).rising = false) →
              changed .screenMaxDepartureNotice 0 .clear (some i))
            ∧ ((∀ i < 12, (s.stepRow i).used = true → (s.stepRow i).rising = false) →
                (∀ i, i < 12 → (s.stepRow i).used = true → (∀ j < i, (s.stepRow j).used = false) →
                    changed .screenMaxDepartureNotice 0 .watch (some i))
                  ∧ ((∀ i < 12, (s.stepRow i).used = false) → changed .screenMaxDepartureNotice 0 .watch none)))
      ∧ (s.part = .standby ∨ c.maxCount ≠ 1 → counted .screenMaxDepartureNotice (c.maxCount - 1))

/-! ### The override unit -/

/-- SET and OVERRIDE_SET: the checks in order, the values as stored, the record added or replaced by its key, the entry
notices, and the acknowledgement or the response. The model's choices: the notices stand in `inFlight`
(notes/assumptions/3.md), and each response advances the count of free bytes drawn (21.md). -/
def Obligations.SetsEnterTheTable : Prop :=
  ∀ (s : State) (tag kind target : Byte) (v : BitVec 16) (d : Byte),
    let o := s.overrides
    let kd := kindOfCode kind.toNat
    let tg := targetOfCode target.toNat
    let usedTarget : Bool := match kd, tg with
      | some .curtainQuiet, some (.one n) => (s.doorRow n).used
      | some _, some (.one n) => (s.zoneRow n).used
      | _, _ => true
    let key (r : Record) : Bool := some r.kind == kd && some r.target == tg
    let value : Int := match kd with
      | some .setpointOffset => clamp v.toInt (-30) 30
      | some .blowerBoost => clamp v.toInt 0 500
      | _ => 0
    let minutes : Nat :=
      if kd = some .screenMax then (if d = 0 then 10 else min d.toNat 15) else min d.toNat 240
    let cut : Prop := ((kd = some .setpointOffset ∨ kd = some .blowerBoost) ∧ value ≠ v.toInt) ∨ minutes < d.toNat
    let held := o.table.any key
    let refusal : Nat :=
      if s.part = .standby then 5 else if kd = none then 16 else if tg = none ∨ usedTarget = false then 17
      else if held = false ∧ 16 ≤ o.table.length then 18 else 0
    let result : Nat := if refusal ≠ 0 then refusal else if cut then 13 else if held = true then 12 else 11
    let seq := (o.seq + 1) % 256
    let record (origin : Origin) : Record :=
      ⟨kd.getD .recirculate, tg.getD .all, value, origin, if minutes = 0 then none else some (60000 * minutes), seq⟩
    let after (origin : Origin) : Overrides :=
      if refusal ≠ 0 then o
      else if held = true then
        { o with table := o.table.map (fun r => if key r = true then record origin else r), seq := seq }
      else { o with table := o.table ++ [record origin], seq := seq }
    let notices : List Instr :=
      if refusal ≠ 0 ∨ held = true then []
      else match kd, tg with
        | some .curtainQuiet, some x => [.maskChange x true false]
        | some .screenMax, _ => [.screenMaxEntryNotice, .maxCountNotice true]
        | _, _ => []
    let place := if held = true then o.table.findIdx key + 1 else o.table.length + 1
    let shown (n : Nat) : Nat := if refusal ≠ 0 then 0 else n
    let shownValue : Int := if refusal ≠ 0 then 0 else value
    let names : Nat := (match tg with
        | some (.one n) => n.val
        | some .all => 8
        | none => 0)
      + 16 * (match kd with
        | some k => kindCode k
        | none => 0)
    let ack : Frame :=
      ⟨canId s.sys.panelAckId,
        [byteOf (1 + 8 * result : Nat), tag, byteOf names] ++ le16 (shownValue % 1024 + 1024 * shown place)
          ++ [byteOf (shown minutes), byteOf (shown seq), byteOf (after .panel).seq]⟩
    let response : Frame :=
      ⟨canId (0x6E1 + 2 * s.node.val),
        [58, byteOf (1 + 8 * result : Nat)] ++ le16 shownValue
          ++ [byteOf (shown minutes), byteOf (shown seq), byteOf (shown place), byteOf (after .service).seq]⟩
    (s.sys.used = true →
        exec (.set tag kind target v d) s = .next { s with
          overrides := { after .panel with present := true, panelTimer := some (1000 * s.sys.panelTimeout) }
          inFlight := s.inFlight ++ notices
          acks := if s.vehicle.link = .on ∧ s.acks.length < 4 then s.acks ++ [ack] else s.acks })
      ∧ (s.responses.length < 16 → s.vehicle.link = .on →
          exec (.overrideSet kind target v d) s = .next { s with
            overrides := after .service
            inFlight := s.inFlight ++ notices
            draws := s.draws + 1, responses := s.responses ++ [response] })

/-- RELEASE and OVERRIDE_RELEASE: the checks, the record removed with its departure notices, and the answer. HEARTBEAT
and TRIP_END: the panel is PRESENT and its timer restarts; TRIP_END arms all three sections in RUNNING and is refused
NOT_RUNNING in STANDBY; each is acknowledged. The model's choices: the notices stand in `inFlight`
(notes/assumptions/3.md), and each response advances the count of free bytes drawn (21.md). -/
def Obligations.ReleasesHeartbeatsAndTripEnds : Prop :=
  (∀ (s : State) (tag kind target : Byte),
     let o := s.overrides
     let kd := kindOfCode kind.toNat
     let tg := targetOfCode target.toNat
     let key (r : Record) : Bool := some r.kind == kd && some r.target == tg
     let result : Nat :=
       if s.part = .standby then 5 else if kd = none then 16 else if tg = none then 17
       else if o.table.any key = true then 14 else 15
     let after : Overrides :=
       if result = 14 then { o with table := o.table.filter (fun r => !key r), seq := (o.seq + 1) % 256 } else o
     let notices : List Instr :=
       if result = 14 then (o.table.filter key).flatMap fun r => match r.kind with
         | .curtainQuiet => [.maskChange r.target false false]
         | .screenMax => [.screenMaxDepartureNotice, .maxCountNotice false]
         | _ => []
       else []
     let names : Nat := (match tg with
         | some (.one n) => n.val
         | some .all => 8
         | none => 0)
       + 16 * (match kd with
         | some k => kindCode k
         | none => 0)
     let ack : Frame :=
       ⟨canId s.sys.panelAckId,
         [byteOf (2 + 8 * result : Nat), tag, byteOf names, 0, 0, 0, 0, byteOf after.seq]⟩
     let response : Frame :=
       ⟨canId (0x6E1 + 2 * s.node.val), [59, byteOf (1 + 8 * result : Nat), 0, 0, 0, 0, 0, byteOf after.seq]⟩
     (s.sys.used = true →
         exec (.release tag kind target) s = .next { s with
           overrides := { after with present := true, panelTimer := some (1000 * s.sys.panelTimeout) }
           inFlight := s.inFlight ++ notices
           acks := if s.vehicle.link = .on ∧ s.acks.length < 4 then s.acks ++ [ack] else s.acks })
       ∧ (s.responses.length < 16 → s.vehicle.link = .on →
           exec (.overrideRelease kind target) s = .next { s with
             overrides := after
             inFlight := s.inFlight ++ notices
             draws := s.draws + 1, responses := s.responses ++ [response] }))
  ∧ ∀ (s : State) (tag : Byte),
      let alive : State := { s with
        overrides := { s.overrides with present := true, panelTimer := some (1000 * s.sys.panelTimeout) } }
      let acked (head : Byte) : List Frame :=
        if s.vehicle.link = .on ∧ s.acks.length < 4 then
          s.acks ++ [⟨canId s.sys.panelAckId, [head, tag, 0, 0, 0, 0, 0, byteOf s.overrides.seq]⟩]
        else s.acks
      (s.sys.used = true →
          exec (.heartbeat tag) s = .next { alive with acks := acked 3 }
            ∧ (s.part = .standby → exec (.tripEnd tag) s = .next { alive with acks := acked 44 })
            ∧ (s.part = .running →
                exec (.tripEnd tag) s = .next { alive with
                  acks := acked 4, loads := s.loads.map fun l => { l with armed := true } }))

/-- The expiry of a timed record, of the panel timer and of the status timer: the records that leave with their notices
and one advance of the sequence, the panel LOST with PANEL_LOST, and the status frame offered. The model's choices: a stopped
panel or status timer expires without effect (notes/assumptions/5.md), and a SCREEN_MAX record with less than 1 s left is
reported as 0 (49.md). -/
def Obligations.OverrideTimersExpire : Prop :=
  ∀ (s : State) (kind : OverrideKind) (target : Target),
    let o := s.overrides
    let cleared (gone : Record → Bool) (base : Overrides) : Overrides :=
      if o.table.any gone = true then
        { base with table := o.table.filter (fun r => !gone r), seq := (o.seq + 1) % 256 }
      else base
    let notices (gone : Record → Bool) : List Instr :=
      (o.table.filter gone).flatMap fun r => match r.kind with
        | .curtainQuiet => [.maskChange r.target false false]
        | .screenMax => [.screenMaxDepartureNotice, .maxCountNotice false]
        | _ => []
    let spent (r : Record) : Bool := r.kind == kind && r.target == target && r.remaining != none
    let lost (r : Record) : Bool := r.origin == .panel && r.kind != .screenMax
    let mode : Nat := match s.cabZone with
      | some z => s.zones[z].published.mode.code
      | none => 7
    let tz : Int := match s.cabZone with
      | some z => s.zones[z].published.tz
      | none => 0
    let kinds : Nat := ([.setpointOffset, .blowerBoost, .recirculate, .screenMax, .curtainQuiet].map fun k =>
      if (o.table.any fun r => r.kind == k) = true then 2 ^ kindCode k else 0).sum
    let longest : Nat :=
      ((o.table.filter fun r => r.kind == .screenMax).map fun r => r.remaining.getD 0 / 1000).foldl max 0
    let status : Frame :=
      ⟨canId s.sys.panelStatusId,
        [byteOf (kinds + if o.present = true then 1 else 0 : Nat), byteOf (o.table.length + 32 * mode : Nat), byteOf o.seq]
          ++ le16 longest ++ [byteOf s.screen.stage.code] ++ le16 tz⟩
    let again : State := { s with overrides := { o with statusTimer := some 1000 } }
    (s.part = .running → exec (.recordExpiry kind target) s
        = .next { s with overrides := cleared spent o, inFlight := s.inFlight ++ notices spent })
      ∧ (s.part = .standby → exec (.recordExpiry kind target) s = .next s)
      ∧ (o.panelTimer ≠ none → o.present = true → exec .panelTimerExpiry s
          = .next { s with
              overrides := cleared lost { o with present := false, panelTimer := none }
              flags := { s.flags with panelLost := true }
              inFlight := s.inFlight ++ notices lost })
      ∧ (o.panelTimer ≠ none → o.present = false → exec .panelTimerExpiry s
          = .next { s with overrides := { o with panelTimer := none } })
      ∧ (o.panelTimer = none → exec .panelTimerExpiry s = .next s)
      ∧ (o.statusTimer ≠ none → (s.sys.used = false ∨ s.vehicle.link = .busOff) →
          exec .statusTimerExpiry s = .next again)
      ∧ (o.statusTimer ≠ none → s.sys.used = true → s.vehicle.link = .on →
          (∀ x, s.vehicle.onBus = some x → x.src ≠ .panelStatus) →
          exec .statusTimerExpiry s = .next { again with panelStatus := some status })
      ∧ (o.statusTimer = none → exec .statusTimerExpiry s = .next s)

/-! ### The output channels -/

/-- A delivery replaces its source value alone, and each used channel it serves forms its commanded value and its output;
a SWITCH channel cuts its window for a lower value. A changed output makes a frame, held back by the spacing unless it cuts
power; none at level 15, and none while the port is in BUS_OFF. That a lower value is compared with the value last commanded,
after a rise in the same window too, is the model's reading (notes/assumptions/19.md). -/
def Obligations.DeliveriesFormChannels : Prop :=
  ∀ (s : State) (src : Source) (v : Nat), ∃ t, exec (.sourceDelivery src v) s = .next t
    ∧ t = { s with
        sources := t.sources, channels := t.channels, inFlight := s.inFlight.erase (.sourceDelivery src v) }
    ∧ t.sourceValue src = v ∧ (∀ other, other ≠ src → t.sourceValue other = s.sourceValue other)
    ∧ ∀ c : Fin 24,
      let r := s.outputRow c
      let x := s.channels[c]
      let y := t.channels[c]
      let heater : Prop := r.functionCode = 1 ∨ r.functionCode = 4 ∨ r.functionCode = 5
      let capacity : Nat := match (List.finRange 20).find? fun k => s.serves c k with
        | some k => s.alloc.claims[k].capacity
        | none => 0
      let cmd : Nat := if s.part = .standby then r.standby
        else if heater then (if capacity = 0 then 0 else min 1000 (v * 1000 / capacity)) else v
      let out : Nat := if r.encodingCode = 1 then cmd
        else if 11 ≤ r.encodingCode ∧ r.encodingCode ≤ 14 then cmd * (r.encodingCode - 10) / 1000 else 0
      let onTime := cmd * (1000 * r.window) / 1000
      let onBus : Prop := ∃ b, s.climate.onBus = some b ∧ b.src = .channel c
      let framed (out : Nat) : PendingFrame :=
        let cuts : Prop := (heater ∨ r.functionCode = 7) ∧ ∃ last, x.lastCarried = some last ∧ out < last
        if out = x.output then x.frame
        else if x.frame = .none ∧ 14 < r.level then .none
        else if x.frame = .offered ∧ onBus then .offered
        else if x.spacing = none ∨ cuts then (if s.climate.link = .on then .offered else .none) else .waiting
      (r.used = false ∨ r.fedBy src = false → y = x)
        ∧ (r.used = true → r.fedBy src = true → r.encodingCode ≠ 2 →
            y = { x with commanded := cmd, output := out, frame := framed out })
        ∧ (r.used = true → r.fedBy src = true → r.encodingCode = 2 →
            (x.commanded ≤ cmd ∨ x.window = none → y = { x with commanded := cmd })
              ∧ (cmd < x.commanded → x.window ≠ none →
                  (x.elapsed < onTime → y = { x with commanded := cmd, onTime := onTime })
                    ∧ (onTime ≤ x.elapsed →
                        y = { x with commanded := cmd, onTime := onTime, output := 0, frame := framed 0 })))

/-- The timers of a channel: window start, ON end, spacing, period and reply wait, with the frame that a changed output
makes; a stopped timer expires without effect, and ON end takes the elapsed time to at least the ON time and
leaves the window timer as it is (the model's readings, notes/assumptions/5.md and 25.md). -/
def Obligations.ChannelTimersExpire : Prop :=
  ∀ (s : State) (c : Fin 24),
    let r := s.outputRow c
    let x := s.channels[c]
    let put (y : Channel) : State := { s with channels := s.channels.set c y }
    let onTime := x.commanded * (1000 * r.window) / 1000
    let power : Prop := r.functionCode = 1 ∨ r.functionCode = 4 ∨ r.functionCode = 5 ∨ r.functionCode = 7
    let onBus : Prop := ∃ b, s.climate.onBus = some b ∧ b.src = .channel c
    let free : PendingFrame := if s.climate.link = .on then .offered else .none
    let judged (out : Nat) : PendingFrame :=
      if x.spacing = none ∨ (power ∧ ∃ last, x.lastCarried = some last ∧ out < last) then free else .waiting
    let framed (out : Nat) : PendingFrame :=
      if out = x.output ∨ (x.frame = .none ∧ 14 < r.level) ∨ (x.frame = .offered ∧ onBus) then x.frame else judged out
    let first := if 0 < onTime then 1 else 0
    let misses := min 3 (x.misses + 1)
    (x.window ≠ none → exec (.windowExpiry c) s
        = .next (put { x with
            elapsed := 0, window := some (1000 * r.window), onTime := onTime, output := first, frame := framed first }))
      ∧ (x.window ≠ none → x.output = 1 → x.onTime < 1000 * r.window → exec (.onEnd c) s
          = .next (put { x with elapsed := max x.elapsed x.onTime, output := 0, frame := framed 0 }))
      ∧ (x.window = none ∨ x.output ≠ 1 ∨ 1000 * r.window ≤ x.onTime → exec (.onEnd c) s = .next s)
      ∧ (x.spacing ≠ none → exec (.spacingExpiry c) s
          = .next (put { x with spacing := none, frame := if x.frame = .waiting then free else x.frame }))
      ∧ (x.periodic ≠ none → exec (.periodicExpiry c) s
          = .next (put { x with
              periodic := some r.period
              frame := if x.frame = .none ∧ r.level ≤ 14 then judged x.output else x.frame }))
      ∧ (x.replyWait ≠ none → exec (.replyWaitExpiry c) s
          = .next { put { x with
                replyWait := none, misses := misses, faulted := x.faulted || decide (misses = 3) } with
              flags := if x.faulted = false ∧ misses = 3 then { s.flags with channelFaulted := true } else s.flags
              inFlight := s.inFlight
                ++ (if x.faulted = false ∧ misses = 3 then (((List.finRange 20).find? r.isFor).map Instr.capacityEvent).toList else []) })
      ∧ (x.window = none → exec (.windowExpiry c) s = .next s) ∧ (x.spacing = none → exec (.spacingExpiry c) s = .next s)
      ∧ (x.periodic = none → exec (.periodicExpiry c) s = .next s)
      ∧ (x.replyWait = none → exec (.replyWaitExpiry c) s = .next s)

/-! ### Loading -/

/-- ROW_OPEN and ROW_DATA in each state of the load engine: the row opened with its assembly timer, the six bytes placed at
the fragment pointer, and the refusals and halts. With no open row the fragment pointer reported is a free byte (the
model's reading, notes/assumptions/21.md). -/
def Obligations.RowsAreOpenedAndFilled : Prop :=
  ∀ (s : State) (table row : Byte) (b0 b1 b2 b3 b4 b5 : Byte), s.vehicle.link = .on → s.responses.length < 16 →
    let leaves (c : Instr) (head : Byte) (engine : Engine) (flags : EventFlags) (result : Nat) : Prop :=
      exec c s = .next { s with
        engine := engine, flags := flags
        draws := s.draws + 1, responses := s.responses ++ [⟨canId (0x6E1 + 2 * s.node.val),
          [head, byteOf (1 + 8 * result : Nat)] ++ engine.report (Config.freeByte 0 s.draws) ++ [0, 0, 0]⟩] }
    let opens := leaves (.rowOpen table row) 35
    let fills := leaves (.rowData b0 b1 b2 b3 b4 b5) 36
    let halted : EventFlags := { s.flags with loadHalted := true }
    let known (t : TableId) : Prop := TableId.ofCode table.toNat = some t ∧ row.toNat < t.rowCount
    (s.engine = .idle → ∀ t, known t → opens (.assembling ⟨t, row.toNat, [], 5000⟩) s.flags 0)
      ∧ (s.engine = .idle → (∀ t, ¬ known t) → opens .idle s.flags 2)
      ∧ (∀ o, s.engine = .assembling o → opens (.halted .sequence) halted 6)
      ∧ (∀ h, s.engine = .halted h → opens (.halted h) s.flags 8)
      ∧ (∀ o, s.engine = .assembling o → o.buffer.length + 6 ≤ o.table.rowLength →
          fills (.assembling { o with buffer := o.buffer ++ [b0, b1, b2, b3, b4, b5] }) s.flags 0)
      ∧ (∀ o, s.engine = .assembling o → o.table.rowLength < o.buffer.length + 6 → fills (.halted .length) halted 7)
      ∧ (s.engine = .idle → fills (.halted .sequence) halted 6)
      ∧ (∀ h, s.engine = .halted h → fills (.halted h) s.flags 8)

/-- ROW_CLOSE in each state of the load engine: a full row that passes the field check is written to its place in the
shadow bank and marked; a short row and a failing field halt the engine. ROW_CLEAR, ABANDON, LOAD_RESUME and the assembly
timer: the shadow rows and the mark they leave, and the engine. With no open row the fragment pointer reported is a free
byte (the model's reading, notes/assumptions/21.md). -/
def Obligations.RequestsOnTheShadowBank : Prop :=
  (∀ s : State, s.vehicle.link = .on → s.responses.length < 16 →
     let leaves (t : State) (engine : Engine) (flags : EventFlags) (result : Nat) : Prop :=
       exec .rowClose s = .next { t with
         engine := engine, flags := flags
         draws := s.draws + 1, responses := s.responses ++ [⟨canId (0x6E1 + 2 * s.node.val),
           [37, byteOf (1 + 8 * result : Nat)] ++ engine.report (Config.freeByte 0 s.draws) ++ [0, 0, 0]⟩] }
     let halted : EventFlags := { s.flags with loadHalted := true }
     (∀ o, s.engine = .assembling o →
         (o.buffer.length < o.table.rowLength → leaves s (.halted .length) halted 7)
           ∧ (o.table.rowLength ≤ o.buffer.length → rowCloseOk o.table o.row o.buffer = false →
               leaves s (.halted .range) halted 2)
           ∧ (o.table.rowLength ≤ o.buffer.length → rowCloseOk o.table o.row o.buffer = true →
               leaves { s with
                 shadow := s.shadow.put o.table ((s.shadow.get o.table).set o.row o.buffer)
                 marks := s.marks.set o.table.index true } .idle s.flags 0))
       ∧ (s.engine = .idle → leaves s (.halted .sequence) halted 6)
       ∧ (∀ h, s.engine = .halted h → leaves s (.halted h) s.flags 8))
  ∧ ∀ (s : State) (table row : Byte), s.vehicle.link = .on → s.responses.length < 16 →
      let leaves (c : Instr) (head : Byte) (t : State) (engine : Engine) (result : Nat) : Prop :=
        exec c s = .next { t with
          engine := engine
          draws := s.draws + 1, responses := s.responses ++ [⟨canId (0x6E1 + 2 * s.node.val),
            [head, byteOf (1 + 8 * result : Nat)] ++ engine.report (Config.freeByte 0 s.draws) ++ [0, 0, 0]⟩] }
      let written (t : TableId) (rows : List RowBytes) (mark : Bool) : State :=
        { s with shadow := s.shadow.put t rows, marks := s.marks.set t.index mark }
      let halted : State := { s with flags := { s.flags with loadHalted := true } }
      (∀ t, s.engine = .idle → TableId.ofCode table.toNat = some t →
          (row = 255 → leaves (.rowClear table row) 38 (written t (List.replicate t.rowCount t.resetRow) true) .idle 0)
            ∧ (row.toNat < t.rowCount →
                leaves (.rowClear table row) 38 (written t ((s.shadow.get t).set row.toNat t.resetRow) true) .idle 0)
            ∧ (row ≠ 255 → t.rowCount ≤ row.toNat → leaves (.rowClear table row) 38 s .idle 2)
            ∧ leaves (.abandon table) 40 (written t (s.active.get t) false) .idle 0)
        ∧ (s.engine = .idle → TableId.ofCode table.toNat = none →
            leaves (.rowClear table row) 38 s .idle 2 ∧ leaves (.abandon table) 40 s .idle 2)
        ∧ (∀ o, s.engine = .assembling o →
            leaves (.rowClear table row) 38 halted (.halted .sequence) 6
              ∧ leaves (.abandon table) 40 halted (.halted .sequence) 6
              ∧ leaves .loadResume 51 s (.assembling o) 0
              ∧ exec .assemblyTimerExpiry s = .next { halted with engine := .halted .timeout })
        ∧ (∀ h, s.engine = .halted h →
            leaves (.rowClear table row) 38 s (.halted h) 8 ∧ leaves (.abandon table) 40 s (.halted h) 8
              ∧ leaves .loadResume 51 s .idle 0 ∧ exec .assemblyTimerExpiry s = .next s)
        ∧ (s.engine = .idle → leaves .loadResume 51 s .idle 0 ∧ exec .assemblyTimerExpiry s = .next s)

/-- The field check of ROW_CLOSE, table by table, on the bytes of the row layout: a used row, a FIELD row whose width is not
0 and every STAGE, CLAIM, BUDGET and LIST row passes exactly when each coded field names one of its values and each number
lies within its range; every other row passes. The model's choices: the first field index is checked in a SIGNAL row alone
(notes/assumptions/16.md), and the window and the target index of an OUTPUT row are left to COMMIT (52.md). -/
def Obligations.RowFieldsAreChecked : Prop :=
  ∀ (i : Nat) (r : RowBytes),
    let byte (k lo hi : Nat) : Prop := lo ≤ u8 r k ∧ u8 r k ≤ hi
    let word (k lo hi : Nat) : Prop := lo ≤ u16 r k ∧ u16 r k ≤ hi
    let number (k : Nat) (lo hi : Int) : Prop := lo ≤ s16 r k ∧ s16 r k ≤ hi
    let slot (k : Nat) : Prop := u8 r k ≤ 63 ∨ u8 r k = 255
    let used : Prop := u8 r 0 % 2 = 1
    let passes (t : TableId) (valid : Prop) : Prop := rowCloseOk t i r = true ↔ valid
    passes .frame (used → byte 1 1 2 ∧ byte 2 1 4 ∧ word 3 0 0x7FF ∧ (u8 r 2 = 1 → byte 5 0 127))
      ∧ passes .field (u8 r 2 ≠ 0 → byte 0 0 7 ∧ byte 1 0 7 ∧ byte 2 1 16 ∧ byte 3 1 2 ∧ byte 4 0 1 ∧ byte 5 0 63)
      ∧ passes .slot (used → byte 1 1 3 ∧ word 6 100 60000 ∧ word 8 0 600)
      ∧ (i < 8 → passes .zone (used → byte 1 0 2 ∧ word 2 100 300 ∧ word 4 100 300 ∧ word 6 100 300 ∧ byte 8 0 100
          ∧ word 10 0 1000 ∧ byte 12 0 200 ∧ byte 13 1 10 ∧ byte 14 0 31 ∧ byte 15 1 8 ∧ word 16 0 400 ∧ word 18 0 1000
          ∧ word 20 0 1000 ∧ number 22 (-1000) 1000))
      ∧ (8 ≤ i → passes .zone (used → word 2 0 2000 ∧ word 4 0 600 ∧ word 6 0 600))
      ∧ passes .list (byte 0 0 63 ∧ byte 1 0 15)
      ∧ passes .door (used → byte 1 0 7 ∧ byte 2 0 63 ∧ slot 3 ∧ slot 4 ∧ byte 5 1 5 ∧ word 6 0 2000 ∧ word 8 0 600
          ∧ word 10 0 200 ∧ byte 13 0 30 ∧ byte 14 1 120 ∧ byte 15 1 64 ∧ word 16 1 600 ∧ byte 18 1 60 ∧ word 20 0 300)
      ∧ passes .band (used → byte 1 0 250 ∧ byte 2 0 250 ∧ (u8 r 3 ≤ 20 ∨ 236 ≤ u8 r 3) ∧ word 4 0 1000
          ∧ word 6 0 1000)
      ∧ passes .step (used → byte 1 1 3 ∧ number 2 (-200) 200 ∧ word 4 0 600)
      ∧ passes .stage (word 0 0 400 ∧ word 2 0 1000 ∧ word 4 0 1000 ∧ word 6 0 1000 ∧ byte 8 0 1 ∧ word 10 0 1000)
      ∧ passes .claim (byte 0 0 15 ∧ word 2 0 400)
      ∧ passes .budget (word 0 0 2000 ∧ word 2 0 2000)
      ∧ passes .output (used → byte 1 1 7 ∧ (byte 3 1 2 ∨ byte 3 11 14) ∧ byte 4 0 15 ∧ word 6 0 0x7FF
          ∧ word 8 100 5000 ∧ word 10 20 1000 ∧ word 12 0 0x7FF ∧ word 14 50 2000 ∧ word 16 0 1000)
      ∧ passes .system (used → byte 2 0 14 ∧ (∀ k ∈ [3, 4, 5, 6, 7, 8, 9], slot k) ∧ word 10 0 0x7FF ∧ word 12 0 0x7FF
          ∧ word 14 0 0x7FF ∧ byte 16 2 60 ∧ byte 17 0 120 ∧ byte 18 1 10 ∧ byte 19 1 100 ∧ byte 20 1 250
          ∧ byte 21 1 250 ∧ byte 22 1 250)

/-- The validation of a COMMIT, table by table, on the bytes of the rows: a row is valid exactly when it passes the field
check and, if the commit validates it, meets the conditions that relate its fields or the rows of the bank; a commit is
refused at the lowest row that is not valid. -/
def Obligations.CommitsValidateTheirBank : Prop :=
  ∀ (node : Fin 4) (rows : List RowBytes) (i : Nat),
    let row (j : Nat) : RowBytes := rows.getD j []
    let r := row i
    let used (j : Nat) : Prop := u8 (row j) 0 % 2 = 1
    let cab (j : Nat) : Prop := u8 (row j) 0 / 2 % 2 = 1
    let valid (t : TableId) (relations : Prop) : Prop :=
      commitRowOk node t rows i = true ↔ rowCloseOk t i r = true ∧ relations
    let span := (u8 r 1 + u8 r 2 - 1) / 8 + 1
    let service : Nat := 0x6E0 + 2 * node.val
    valid .frame (used i →
        (∀ j < rows.length, j ≠ i → used j → ¬ (u8 (row j) 1 = u8 r 1 ∧ u16 (row j) 3 = u16 r 3))
          ∧ ¬ (u8 r 1 = 1 ∧ u16 r 3 = service)
          ∧ (u8 r 2 = 1 → 1 ≤ u8 r 0 / 16 ∧ u8 r 0 / 16 ≤ 8 ∧ u8 r 5 + u8 r 0 / 16 - 1 ≤ 127)
          ∧ (u8 r 2 = 2 → u8 r 1 = 1) ∧ (u8 r 2 = 3 → u8 r 1 = 2))
      ∧ valid .field (u8 r 2 ≠ 0 → (u8 r 3 = 1 → u8 r 0 + span - 1 ≤ 7) ∧ (u8 r 3 = 2 → span ≤ u8 r 0 + 1))
      ∧ valid .slot (used i → s16 r 2 ≤ s16 r 4 ∧ s16 r 2 ≤ s16 r 10 ∧ s16 r 10 ≤ s16 r 4
          ∧ (u8 r 1 ≠ 1 → 0 ≤ s16 r 2 ∧ s16 r 4 ≤ 255))
      ∧ (i < 8 → valid .zone (used i → u16 r 4 ≤ u16 r 6 ∧ u8 r 14 + u8 r 15 - 1 ≤ 31
          ∧ (cab i → ∀ j < i, ¬ (used j ∧ cab j))))
      ∧ (8 ≤ i → valid .zone True)
      ∧ valid .list True
      ∧ valid .door (used i → (u8 r 5 = 3 ∨ u8 r 5 = 4 → u8 r 12 ≠ 0) ∧ u8 r 2 ≠ u8 r 3 ∧ u8 r 2 ≠ u8 r 4
          ∧ (u8 r 3 = u8 r 4 → u8 r 3 = 255))
      ∧ valid .band (used i → u8 r 1 ≤ u8 r 2)
      ∧ valid .step True ∧ valid .stage True ∧ valid .claim True ∧ valid .budget True
      ∧ valid .output (used i →
          (u8 r 1 ≤ 4 → u8 r 2 ≤ 7) ∧ (u8 r 1 = 5 ∨ u8 r 1 = 6 → u8 r 2 = 0) ∧ (u8 r 1 = 7 → u8 r 2 ≤ 2)
            ∧ (u8 r 3 = 2 → (u8 r 1 = 1 ∨ u8 r 1 = 4 ∨ u8 r 1 = 5) ∧ 2 ≤ u8 r 5 ∧ u8 r 5 ≤ 60)
            ∧ (u8 r 1 = 1 ∨ u8 r 1 = 4 ∨ u8 r 1 = 5 ∨ u8 r 1 = 7 → u16 r 16 = 0)
            ∧ ∀ j < i, used j → u16 (row j) 6 ≠ u16 r 6)
      ∧ valid .system (used i → u16 r 10 ≠ u16 r 12 ∧ u16 r 10 ≠ u16 r 14 ∧ u16 r 12 ≠ u16 r 14
          ∧ ∀ k ∈ [10, 12, 14], u16 r k ≠ service ∧ u16 r k ≠ service + 1)
      ∧ ∀ t : TableId,
          (firstBadRow node t rows = none ↔ ∀ j < t.rowCount, commitRowOk node t rows j = true)
            ∧ (firstBadRow node t rows = some i ↔
                i < t.rowCount ∧ commitRowOk node t rows i = false ∧ ∀ j < i, commitRowOk node t rows j = true)

/-- COMMIT: an unknown table and an invalid bank change nothing; a valid shadow bank becomes the active bank, stays a
copy of it, and its mark is cleared; a FRAME, FIELD or LIST commit changes nothing else. With no open row the fragment
pointer reported is a free byte (the model's reading, notes/assumptions/21.md). -/
def Obligations.CommitInstallsAValidBank : Prop :=
  ∀ (s : State) (table : Byte), s.vehicle.link = .on → s.responses.length < 16 →
    let answered (t : State) (engine : Engine) (result : Nat) (last : Byte) : State :=
      { t with
        engine := engine
        draws := s.draws + 1, responses := s.responses ++ [⟨canId (0x6E1 + 2 * s.node.val),
          [39, byteOf (1 + 8 * result : Nat)] ++ engine.report (Config.freeByte 0 s.draws) ++ [last, 0, 0]⟩] }
    (s.engine = .idle → TableId.ofCode table.toNat = none → exec (.commit table) s = .next (answered s .idle 2 0))
      ∧ (∀ o, s.engine = .assembling o →
          exec (.commit table) s
            = .next (answered { s with flags := { s.flags with loadHalted := true } } (.halted .sequence) 6 0))
      ∧ (∀ h, s.engine = .halted h → exec (.commit table) s = .next (answered s (.halted h) 8 0))
      ∧ ∀ t, s.engine = .idle → TableId.ofCode table.toNat = some t →
          let rows := s.shadow.get t
          let installed : State := { s with active := s.active.put t rows, marks := s.marks.set t.index false }
          (∀ i < t.rowCount, commitRowOk s.node t rows i = false → (∀ j < i, commitRowOk s.node t rows j = true) →
              exec (.commit table) s = .next (answered s .idle 9 (byteOf i)))
            ∧ ((∀ i < t.rowCount, commitRowOk s.node t rows i = true) →
                (t = .frame ∨ t = .field ∨ t = .list → exec (.commit table) s = .next (answered installed .idle 0 0))
                  ∧ ∃ u, exec (.commit table) s = .next u ∧ u.active = s.active.put t rows
                    ∧ u.shadow = s.shadow ∧ u.marks = s.marks.set t.index false ∧ u.engine = .idle
                    ∧ u.responses = (answered s .idle 0 0).responses ∧ u.part = s.part ∧ u.acks = s.acks
                    ∧ u.panelStatus = s.panelStatus ∧ u.vehicle = s.vehicle
                    ∧ (t ≠ .slot → u.slots = s.slots) ∧ (t ≠ .door → u.doors = s.doors)
                    ∧ (t ≠ .zone → u.zones = s.zones))

/-- A valid COMMIT at the slots, the doors, the bands and the channels. SLOT: a changed row empties its slot and tells its
consumers. DOOR: by the used flag, the state slot and the burst fields. BAND: each section takes the band of its count.
OUTPUT: a changed channel starts anew, its frame on the bus finishes for no block, and the capacities follow. The model's
choices: an emptied slot keeps its stored value (notes/assumptions/9.md) and its notification carries the value that a read
gives (22.md), the detached frame (13.md), the reset record of a channel made unused (35.md), the capacities' channels
before the recomputation (17.md), a changed channel after the capacities and from its source value (62.md), one
recomputation for all the capacities (55.md), the windscreen heater first at level 0 (65.md), the order of notifications and
hand-overs (27.md), a window elapsed and ON time of 0 outside SWITCH (51.md), and the free byte of the response (21.md). -/
def Obligations.CommitsReachTheirBlocks : Prop :=
  ∀ s : State, s.vehicle.link = .on → s.responses.length < 16 → s.engine = .idle →
    let answered (x : State) : State := { x with
      draws := s.draws + 1, responses := s.responses ++ [⟨canId (0x6E1 + 2 * s.node.val),
        [39, 1, 0, 0, Config.freeByte 0 s.draws, 0, 0, 0]⟩] }
    let installed (t : TableId) : State :=
      { s with active := s.active.put t (s.shadow.get t), marks := s.marks.set t.index false }
    let valid (t : TableId) : Prop := ∀ i < t.rowCount, commitRowOk s.node t (s.shadow.get t) i = true
    (valid .slot →
        let u := installed .slot
        exec (.commit 3) s = .next (answered { u with
          slots := Vector.ofFn fun i : Fin 64 => if u.slotRow i = s.slotRow i then s.slots[i]
            else { s.slots[i] with status := .empty, clamped := false, fresh := none, hold := none }
          inFlight := s.inFlight ++ (List.finRange 64).flatMap fun i => if u.slotRow i = s.slotRow i then []
            else u.notified ⟨i, if (u.slotRow i).used = true then (u.slotRow i).substitute else 0, .empty⟩ }))
      ∧ (valid .door →
        let u := installed .door
        ∃ t, exec (.commit 6) s = .next t
          ∧ t = answered { u with
            doors := t.doors
            inFlight := s.inFlight ++ (List.finRange 8).flatMap fun d =>
              if (s.doorRow d).used = true ∧ (u.doorRow d).used = false ∧ s.doors[d].burst = .burst then
                [.claimPosting (curtainClaim d) 0] else [] }
          ∧ ∀ d : Fin 8,
            let a := s.doorRow d
            let b := u.doorRow d
            let x := s.doors[d]
            let linked : Door := if a.stateSlot = b.stateSlot then x else { x with candidate := none, debounce := none }
            (a.used = false → b.used = false → t.doors[d] = x)
              ∧ (a.used = true → b.used = false → t.doors[d] = { x with
                  timer := none, debounce := none, candidate := none, burst := .idle, latch := false, staged := none
                  isOpen := false, pv := 0, series := 0, ending := false, accum := 0, openMs := 0 })
              ∧ (a.used = false → b.used = true → t.doors[d] = { x with
                  isOpen := false, burst := .idle, timer := none, working := some b.burst, staged := none
                  pv := b.burst.n })
              ∧ (a.used = true → b.used = true →
                  (a.burst = b.burst → t.doors[d] = linked)
                    ∧ (a.burst ≠ b.burst → x.burst ≠ .idle → t.doors[d] = { linked with staged := some b.burst })
                    ∧ (a.burst ≠ b.burst → x.burst = .idle → t.doors[d] = { linked with
                        working := some b.burst, staged := none
                        pv := if b.burst.modeCode = 3 ∨ b.burst.modeCode = 4 then b.burst.n else x.pv })))
      ∧ (valid .band →
        let u := installed .band
        ∃ t, exec (.commit 7) s = .next t ∧ t = answered { u with loads := t.loads }
          ∧ ∀ k : Fin 3,
            let covers (i : Nat) : Prop := (u.bandRow i).used = true
              ∧ (u.bandRow i).lower ≤ s.loads[k].count ∧ s.loads[k].count ≤ (u.bandRow i).upper
            t.loads[k] = { s.loads[k] with current := t.loads[k].current, pendingBand := none, dwell := none }
              ∧ (∀ i, t.loads[k].current = some i → i < 8 ∧ covers i ∧ ∀ j < i, ¬ covers j)
              ∧ (t.loads[k].current = none → ∀ i < 8, ¬ covers i))
      ∧ (valid .output →
        let u := installed .output
        let changed (c : Fin 24) : Prop := u.outputRow c ≠ s.outputRow c
        let cleared : State := { u with
          channels := Vector.ofFn fun c : Fin 24 => if changed c then Channel.reset else s.channels[c]
          climate := { s.climate with
            onBus := s.climate.onBus.map fun x =>
              if ∃ c : Fin 24, changed c ∧ x.src = .channel c then { x with src := .detached } else x } }
        let followed := cleared.recapacitated fun _ => true
        ∃ t, exec (.commit 12) s = .next t ∧ t = answered { followed with channels := t.channels }
          ∧ ∀ c : Fin 24,
            let r := u.outputRow c
            (¬ changed c ∨ r.used = false → t.channels[c] = followed.channels[c])
              ∧ (changed c → r.used = true → ∀ src, r.fedBy src = true →
                  let cmd := followed.commandedValue c (s.sourceValue src)
                  let windowed : Prop := r.encodingCode = 2 ∧ s.part = .running
                  let onTime := cmd * (1000 * r.window) / 1000
                  t.channels[c] =
                    { commanded := cmd
                      output := if windowed then (if 0 < onTime then 1 else 0) else r.encoded cmd
                      lastCarried := none
                      frame := if r.level ≤ 14 ∧ s.climate.link = .on then .offered else .none
                      spacing := none
                      periodic := if r.level ≤ 14 then some r.period else none
                      faulted := false, misses := 0, replyWait := none
                      window := if windowed then some (1000 * r.window) else none
                      elapsed := 0, onTime := if windowed then onTime else 0 }))

/-- A valid ZONE commit: each zone row that changed acts on its zone by its used flag, a zone that moves takes its Qc to the
unit of its new section, a unit whose rated power becomes 0 goes to OFF, every unit computes and posts its request, and the
capacities of all the zone heaters and the cooling units follow the rows and the health as they stand. The model's choices:
the status that a zone publishes when it is made unused or used (notes/assumptions/38.md and 43.md), the published status of
a row unused before and after (67.md), the BLIND flag and Sz of a zone made unused (59.md), the Sz of one made used in
STANDBY (60.md), a Qc that a unit still holds for a zone made used (72.md), the capacities' channels before the recomputation
(17.md), one recomputation for all the capacities (55.md), all eleven capacities at every ZONE commit, a health push still in
flight finding nothing changed (63.md), the windscreen heater first at level 0 (65.md), the order of the hand-overs (27.md),
and the free byte of the response (21.md). -/
def Obligations.ZoneCommitsReachZonesAndUnits : Prop :=
  ∀ s : State, s.vehicle.link = .on → s.responses.length < 16 → s.engine = .idle →
    let answered (x : State) : State := { x with
      draws := s.draws + 1, responses := s.responses ++ [⟨canId (0x6E1 + 2 * s.node.val),
        [39, 1, 0, 0, Config.freeByte 0 s.draws, 0, 0, 0]⟩] }
    let installed (t : TableId) : State :=
      { s with active := s.active.put t (s.shadow.get t), marks := s.marks.set t.index false }
    let valid (t : TableId) : Prop := ∀ i < t.rowCount, commitRowOk s.node t (s.shadow.get t) i = true
    let u := installed .zone
    let zone (z : Fin 8) : Zone :=
      let a := s.zoneRow z
      let b := u.zoneRow z
      let x := s.zones[z]
      let fresh : Zone :=
        { x with integral := 0, lastR := 0, tz := none, blind := false, published := ⟨.off, b.base, false, b.smax⟩ }
      if a = b ∨ (a.used = false ∧ b.used = false) then x
      else if a.used = true ∧ b.used = true then
        { x with
          integral := clamp x.integral (-(b.ilim : Int)) b.ilim, sz := clamp x.sz b.smin b.smax
          pass := if s.part = .running ∧ a.interval ≠ b.interval then some (1000 * b.interval) else x.pass
          published := ⟨x.mode, x.tz.getD b.base, x.blind, b.smax⟩ }
      else if a.used = true then
        { x with
          mode := .off, qh := 0, qc := 0, blower := 0, freshAir := 0, pass := none
          published := ⟨.off, x.tz.getD a.base, x.blind, a.smax⟩ }
      else if s.part = .running then
        { fresh with mode := .vent, qh := 0, qc := 0, sz := clamp b.base b.smin b.smax, pass := some (1000 * b.interval) }
      else { fresh with mode := .off }
    let tells (z : Fin 8) : List Instr :=
      let a := s.zoneRow z
      let b := u.zoneRow z
      if a = b ∨ a.used = false then []
      else if b.used = true then [.statusPublication z]
      else
        [.statusPublication z, .claimPosting (zoneClaim z) 0]
          ++ ((List.finRange 3).filter fun k => a.sectCode == k.val).map (fun k => .qcPosting k z 0)
          ++ [.sourceDelivery (.blower z) 0, .sourceDelivery (.freshAir z) 0]
    let rated (x : State) (k : Fin 3) : Nat := if (x.sectRow k).used = true then (x.sectRow k).rated else 0
    let off (k : Fin 3) : Prop := rated s k ≠ 0 ∧ rated u k = 0
    let unit (k : Fin 3) : Cooler :=
      let x : Cooler := { s.coolers[k] with
        qcs := Vector.ofFn fun z : Fin 8 =>
          let a := s.zoneRow z
          let b := u.zoneRow z
          if a.used = true ∧ b.used = true ∧ a.sectCode ≠ b.sectCode ∧ b.sectCode = k.val then s.zones[z].qc
          else if a.used = true ∧ b.used = true ∧ a.sectCode ≠ b.sectCode ∧ a.sectCode = k.val then 0
          else s.coolers[k].qcs[z] }
      if off k then { x with state := .off, minOn := none, minOff := none, demand := 0, posted := 0 } else x
    let stops (k : Fin 3) : List Instr :=
      if off k then
        (if s.coolers[k].demand = 0 then [] else [.sourceDelivery (.demand k) 0]) ++ [.claimPosting (coolClaim k) 0]
      else []
    let moved : State := { u with
      zones := Vector.ofFn zone, coolers := Vector.ofFn unit
      inFlight := s.inFlight ++ (List.finRange 8).flatMap tells ++ (List.finRange 3).flatMap stops }
    valid .zone → exec (.commit 4) s
      = .next (answered (moved.coolersComputed.recapacitated fun c => c.val < 8 || (16 ≤ c.val && c.val < 19)))

/-- A valid COMMIT at the screen unit, the load counter and the power allocator. STEP: the pointer moves when its row has
left the list. STAGE: outside stage OFF the present stage's parameters are handed over, and the capacity follows in every
stage. CLAIM: the units compute, and every grant is formed anew. BUDGET: target, pool and grants. SYSTEM: capacities below a
count, the mark level, the screen's pass timer, the units, and what a changed designation makes of the traction values. The
model's choices: a STEP commit in STANDBY moves a pointer of NONE too (notes/assumptions/47.md), a changed terminus-mark
designation of NONE leaves the mark LOW (61.md), the order of the parts of a commit and of its recomputations (17.md and
50.md), the windscreen heater first at level 0 (65.md), and the free byte of the response (21.md). -/
def Obligations.CommitsReachScreenAndAllocator : Prop :=
  ∀ s : State, s.vehicle.link = .on → s.responses.length < 16 → s.engine = .idle →
    let answered (x : State) : State := { x with
      draws := s.draws + 1, responses := s.responses ++ [⟨canId (0x6E1 + 2 * s.node.val),
        [39, 1, 0, 0, Config.freeByte 0 s.draws, 0, 0, 0]⟩] }
    let installed (t : TableId) : State :=
      { s with active := s.active.put t (s.shadow.get t), marks := s.marks.set t.index false }
    let valid (t : TableId) : Prop := ∀ i < t.rowCount, commitRowOk s.node t (s.shadow.get t) i = true
    (valid .step →
        let u := installed .step
        let used (i : Nat) : Prop := (u.stepRow i).used = true
        ∃ t, exec (.commit 8) s = .next t
          ∧ t = answered { u with screen := { s.screen with pointer := t.screen.pointer } }
          ∧ (∀ i, s.screen.pointer = some i → used i → t.screen.pointer = some i)
          ∧ (∀ i, s.screen.pointer = some i → ¬ used i → ∀ j, t.screen.pointer = some j →
              j < 12 ∧ used j ∧ (i < j → ∀ m < j, i < m → ¬ used m)
                ∧ (j ≤ i → (∀ m < 12, i < m → ¬ used m) ∧ ∀ m < j, ¬ used m))
          ∧ (s.screen.pointer = none → ∀ j, t.screen.pointer = some j → j < 12 ∧ used j ∧ ∀ m < j, ¬ used m)
          ∧ (t.screen.pointer = none → ∀ m < 12, ¬ used m))
      ∧ (valid .stage → exec (.commit 9) s = .next (answered
          ((if s.screen.stage = .off then installed .stage else (installed .stage).stageHanded).recapacitated fun c => c == 19)))
      ∧ (valid .claim → exec (.commit 10) s = .next (answered (installed .claim).coolersComputed.regranted))
      ∧ (valid .budget → exec (.commit 11) s = .next (answered (installed .budget).targeted.pooled.regranted))
      ∧ (valid .system →
        let u := installed .system
        let cut (k : Fin 3) : Prop := u.capacityOf k < s.loads[k].count
        let load (k : Fin 3) : Load :=
          let l : Load := { s.loads[k] with count := u.capacityOf k, isOver := true }
          let band := u.bandOf (u.capacityOf k)
          if ¬ cut k then s.loads[k]
          else if band = l.current then { l with pendingBand := none, dwell := none }
          else if u.bandDwell = 0 then { l with current := band, pendingBand := none, dwell := none }
          else if l.pendingBand = some band then l
          else { l with pendingBand := some band, dwell := some (1000 * u.bandDwell) }
        let renamed (role : Role) : Prop := u.designated role ≠ s.designated role
        let status (i : Fin 64) : SlotStatus := if (u.slotRow i).used = true then s.slots[i].status else .empty
        let held (role : Role) : Option Int := match u.designated role with
          | some i => if status i = .fresh ∨ status i = .held then some s.slots[i].value else none
          | none => none
        let arrived (role : Role) : Option Int := match u.designated role with
          | some i => if status i = .fresh then some s.slots[i].value else none
          | none => none
        let line : LineState := match arrived .lineState with
          | some v => if v = 0 then .wired else if v = 1 then .dewired else if v = 2 then .shore else .unknown
          | none => .unknown
        let a := s.alloc
        let counted : State := { u with
          loads := Vector.ofFn load
          flags := if ∃ k, cut k then { s.flags with countSaturated := true } else s.flags
          markHigh := if u.sys.used = true ∧ renamed .terminusMark then decide (held .terminusMark ≠ none
            ∧ held .terminusMark ≠ some 0) else s.markHigh
          screen := if u.screenInterval = s.screenInterval then s.screen
            else { s.screen with pass := s.screen.pass.map fun _ => 1000 * u.screenInterval } }
        let computed := counted.coolersComputed
        exec (.commit 13) s = .next (answered (State.targeted { computed with alloc := { a with
          line := if renamed .lineState then line else a.line
          permitted := if renamed .permittedPower then (held .permittedPower).map Int.toNat else a.permitted
          surplus := if renamed .surplus then (arrived .surplus).map Int.toNat else a.surplus } }).pooled))

/-! ### Reads -/

/-- The block reads: each, with room in the response queue for its frames, reports its object's state in the content layout,
six bytes to a frame, and changes nothing but the response queue. The pending target with nothing pending and the remaining
time of a stopped timer are free bytes (notes/assumptions/21.md). -/
def Obligations.ReadsReportTheirObject : Prop :=
  ∀ (s : State), s.vehicle.link = .on →
    let reports (c : Instr) (code n : Nat) (content : List Byte) : Prop :=
      s.responses.length + n ≤ 16 → exec c s = .next { s with
        draws := s.draws + 1, responses := s.responses ++ (List.range n).map fun k => ⟨canId (0x6E1 + 2 * s.node.val),
          [byteOf (code + 32 * (k + 1) : Nat), byteOf n] ++ (content.drop (6 * k)).take 6⟩ }
    let bit (b : Bool) (w : Nat) : Nat := if b = true then w else 0
    let band (b : Option Nat) : Byte := byteOf (b.getD 255)
    let free (place : Nat) : Byte := Config.freeByte place s.draws
    (∀ i : Fin 64,
        let r := s.slotRow i
        let x := s.slots[i]
        let value : Int := if r.used = false then 0
          else if x.status = .fresh ∨ x.status = .held then x.value else r.substitute
        reports (.readSlot (byteOf i)) 10 1 (le16 value
          ++ [byteOf (if r.used = true then slotStatusCode x.status else 0), byteOf (bit x.clamped 1),
            byteOf (if r.used = true then (r.kind.map SlotKind.code).getD 0 else 0), 0]))
      ∧ (∀ z : Fin 8,
          let x := s.zones[z]
          reports (.readZone (byteOf z)) 11 3 ([byteOf x.mode.code, byteOf (bit x.blind 1)]
            ++ le16 (x.tz.getD (s.zoneRow z).base) ++ le16 x.sz ++ le16 x.integral ++ le16 x.lastR ++ le16 x.qh
            ++ le16 x.qc ++ le16 x.blower ++ le16 x.freshAir))
      ∧ (∀ d : Fin 8,
          let x := s.doors[d]
          let masked := x.serviceMask || x.overrideMask || s.groupMask
          reports (.readDoor (byteOf d)) 12 2 ([byteOf (bit x.isOpen 1 + bit x.latch 2 + bit x.serviceMask 4
              + bit x.overrideMask 8 + bit s.groupMask 16 + bit masked 32 + bit x.ending 64
              + bit (decide (x.staged ≠ none)) 128),
            byteOf (if x.candidate = none then 0 else if x.candidate = some true then 2 else 1), byteOf x.burst.code,
            byteOf x.pv] ++ (if x.timer = none then [free 4, free 5] else le16 (x.timer.getD 0 / 1000)) ++ [byteOf x.series, byteOf x.dropped] ++ le16 x.accum
            ++ [0, 0]))
      ∧ (∀ k : Fin 3,
          let x := s.loads[k]
          let u := s.coolers[k]
          reports (.readSection (byteOf k)) 13 3 ([byteOf x.count, byteOf (s.capacityOf k),
            byteOf (bit x.isOver 1 + bit x.isUnder 2 + bit x.armed 4 + bit s.markHigh 8
              + bit (decide (x.pendingBand ≠ none)) 16), band x.current,
            (match x.pendingBand with
              | some target => band target
              | none => free 2),
            if x.dwell = none then free 3 else byteOf (x.dwell.getD 0 / 1000), byteOf u.state.code, 0] ++ le16 u.posted ++ le16 u.grant ++ le16 u.demand
            ++ [0, 0, 0, 0]))
      ∧ (∀ c : Fin 20,
          let x := s.alloc.claims[c]
          reports (.readClaim (byteOf c)) 14 3 (le16 (x.posted + 4096 * (s.claimRow c).level)
            ++ le16 (x.capacity + 4096 * (s.shareOf c).level)
            ++ le16 ((min x.posted x.capacity : Nat) + 4096 * s.alloc.line.code)
            ++ le16 (s.claimRow c).minimum ++ le16 x.regular ++ le16 x.absorption ++ le16 s.alloc.target
            ++ le16 s.alloc.beff ++ le16 s.alloc.pool))

/-- READ_CHANNEL and READ_ROW, with room in the response queue for their frames, report the row's bytes, and the channel its
record after them; READ_CHANNEL sends the spare bits of the row's byte 0 as 0. The model's readings: the source value of a
channel whose row is unused or names none is two free bytes (notes/assumptions/21.md), and outside SWITCH the window elapsed
and ON time are reported as the record holds them (51.md). -/
def Obligations.ReadsReportRowsAndChannels : Prop :=
  ∀ (s : State), s.vehicle.link = .on → s.active.shaped = true → s.shadow.shaped = true →
    let reports (c : Instr) (code n : Nat) (content : List Byte) : Prop :=
      s.responses.length + n ≤ 16 → exec c s = .next { s with
        draws := s.draws + 1, responses := s.responses ++ (List.range n).map fun k => ⟨canId (0x6E1 + 2 * s.node.val),
          [byteOf (code + 32 * (k + 1) : Nat), byteOf n] ++ (content.drop (6 * k)).take 6⟩ }
    let bit (b : Bool) (w : Nat) : Nat := if b = true then w else 0
    (∀ c : Fin 24,
        let x := s.channels[c]
        let channel (source : List Byte) : Prop :=
          reports (.readChannel (byteOf c)) 15 5 (byteOf (u8 (s.active.row .output c) 0 % 2 : Nat) :: (s.active.row .output c).drop 1
            ++ le16 (x.commanded + 1024 * x.frame.code + bit x.faulted 4096 + bit (decide (x.replyWait ≠ none)) 8192
              + 16384 * x.misses : Nat)
            ++ le16 x.output ++ le16 (x.lastCarried.getD 65535) ++ source ++ le16 x.elapsed ++ le16 x.onTime)
        (∀ src, (s.outputRow c).used = true → (s.outputRow c).fedBy src = true → channel (le16 (s.sourceValue src)))
          ∧ ((s.outputRow c).used = false ∨ (∀ src, (s.outputRow c).fedBy src = false) →
              channel [Config.freeByte 6 s.draws, Config.freeByte 7 s.draws]))
      ∧ ∀ (t : TableId) (i : Nat), i < t.rowCount →
          reports (.readRow (byteOf t.code) (byteOf i) 0) 9 (t.rowLength / 6) (s.active.row t i)
            ∧ reports (.readRow (byteOf t.code) (byteOf i) 1) 9 (t.rowLength / 6) (s.shadow.row t i)

/-- With room in the response queue for their frames, STATUS reports the part in five frames and clears the flags, and
IDENTIFY reports part number, design level, straps and part state in one and changes nothing but the queue. The design level
is one number of the part, 1 to 255, the same in every state. With no open row its row index and fragment pointer are free
bytes (notes/assumptions/21.md). -/
def Obligations.StatusAndIdentifyReport : Prop :=
  ∃ level : Byte, level ≠ 0 ∧ ∀ (s : State), s.vehicle.link = .on →
    let n := s.node.val
    let free (place : Nat) : Byte := Config.freeByte place s.draws
    let bit (b : Bool) (w : Nat) : Nat := if b = true then w else 0
    let f := s.flags
    let c := s.screen
    let head : List Byte := match s.engine with
      | .idle => [0, 0, 0, free 1, free 0]
      | .assembling o => [1, 0, byteOf o.table.code, byteOf o.row, byteOf o.buffer.length]
      | .halted h => [2, byteOf h.code, 0, free 1, free 0]
    let flagBits := bit f.slotSubstituted 1 + bit f.fieldShort 2 + bit f.forwardDropped 4 + bit f.zoneBlind 8
      + bit f.doorDropped 16 + bit f.countSaturated 32 + bit f.budgetShed 64 + bit f.channelFaulted 128
      + bit f.panelLost 256 + bit f.loadHalted 512 + bit f.serviceDropped 1024
    let margin : Int := c.margin.getD 0
    let content : List Byte := [byteOf (bit (decide (s.part = .running)) 1)] ++ head ++ le16 flagBits
      ++ le16 ((List.finRange 13).map fun i => bit s.marks[i] (2 ^ i.val)).sum
      ++ [byteOf (bit (decide (s.vehicle.link = .busOff)) 1 + bit (decide (s.climate.link = .busOff)) 2 : Nat)]
      ++ le16 s.vehicle.drops ++ le16 s.climate.drops ++ [byteOf c.stage.code, byteOf (c.pointer.getD 255)]
      ++ [byteOf margin, byteOf (margin / 256), byteOf (margin / 65536)]
      ++ [byteOf (bit (decide (c.margin = none)) 1 + bit c.blind 2 : Nat)] ++ le16 (min 65535 (c.stageMs / 1000))
      ++ [byteOf s.overrides.seq, byteOf s.overrides.table.length, byteOf (bit s.overrides.present 1), 0, 0, 0, 0]
    (s.responses.length + 5 ≤ 16 → exec .status s = .next { s with
        flags := EventFlags.clear
        draws := s.draws + 1, responses := s.responses ++ (List.range 5).map fun k => ⟨canId (0x6E1 + 2 * n),
          [byteOf (2 + 32 * (k + 1) : Nat), 5] ++ (content.drop (6 * k)).take 6⟩ })
      ∧ (s.responses.length + 1 ≤ 16 → exec .identify s = .next { s with
        draws := s.draws + 1, responses := s.responses ++ [⟨canId (0x6E1 + 2 * n), [33, 1, 0xE4, 0x02, level,
          byteOf (n + 4 * bitRateCode s.rate + bit (decide (s.part = .running)) 16 : Nat), 0, 0]⟩] })

/-- A request that finds the response queue full is discarded with SERVICE_DROPPED; one that finds too little room is
answered BUSY; RESTART alone is taken whatever the queue holds. A read whose argument names nothing is refused RANGE in
one frame. Neither changes anything else. -/
def Obligations.RequestsAreRefusedForRoomOrRange : Prop :=
  (∀ (s : State) (data : List Byte) (c : Instr), s.vehicle.link = .on → requestCommand data = some c →
     let busy (code : Nat) : Prop :=
       exec c s = .next { s with
         draws := s.draws + 1, responses := s.responses ++ [⟨canId (0x6E1 + 2 * s.node.val), [byteOf (code + 32 : Nat), 81, 0, 0, 0, 0, 0, 0]⟩] }
     (c ≠ .restart → 16 ≤ s.responses.length →
         exec c s = .next { s with flags := { s.flags with serviceDropped := true } })
       ∧ (11 < s.responses.length → s.responses.length < 16 → c = .status → busy 2)
       ∧ (11 < s.responses.length → s.responses.length < 16 → ∀ i : Byte, i.toNat < 24 → s.active.shaped = true →
           c = .readChannel i → busy 15)
       ∧ (13 < s.responses.length → s.responses.length < 16 → ∀ i : Byte,
           (i.toNat < 8 → c = .readZone i → busy 11) ∧ (i.toNat < 3 → c = .readSection i → busy 13)
             ∧ (i.toNat < 20 → c = .readClaim i → busy 14))
       ∧ (∀ (t : TableId) (i bank : Byte), i.toNat < t.rowCount → bank.toNat < 2 → s.active.shaped = true →
           s.shadow.shaped = true → 16 < s.responses.length + t.rowLength / 6 → s.responses.length < 16 →
           c = .readRow (byteOf t.code) i bank → busy 9)
       ∧ (s.responses.length = 15 → ∀ i : Byte, i.toNat < 8 → c = .readDoor i → busy 12))
  ∧ ∀ (s : State) (b : Byte), s.vehicle.link = .on → s.responses.length < 16 →
      let refused (c : Instr) (code : Nat) : Prop :=
        exec c s = .next { s with
          draws := s.draws + 1, responses := s.responses ++ [⟨canId (0x6E1 + 2 * s.node.val), [byteOf (code + 32 : Nat), 17, 0, 0, 0, 0, 0, 0]⟩] }
      (64 ≤ b.toNat → refused (.readSlot b) 10)
        ∧ (8 ≤ b.toNat → refused (.readZone b) 11 ∧ refused (.readDoor b) 12)
        ∧ (3 ≤ b.toNat → refused (.readSection b) 13) ∧ (20 ≤ b.toNat → refused (.readClaim b) 14)
        ∧ (24 ≤ b.toNat → refused (.readChannel b) 15)
        ∧ ∀ table row bank : Byte,
            (TableId.ofCode table.toNat = none ∨ (∃ t, TableId.ofCode table.toNat = some t ∧ t.rowCount ≤ row.toNat)
                ∨ 2 ≤ bank.toNat) → refused (.readRow table row bank) 9

/-! ### START, STOP and the requests to the blocks -/

/-- START: refused STATE in RUNNING and INCOMPLETE for want of a used SYSTEM row or zone; else the part is RUNNING and each
block takes it: the zones, and the cooling units from OFF with no Qc of their zones, with their postings, the doors, the
screen with what its stages hand over, the status timer, every grant formed anew and delivered, and each used channel with
its commanded value, output and window. The model's choices: the order of the blocks' hand-overs (notes/assumptions/27.md),
the windscreen heater first at level 0 (65.md), what START makes of a unit that is not in OFF or holds a Qc (71.md), and the
source values as the deliveries taken so far have left them, those of an earlier STOP still in flight not among them
(68.md). -/
def Obligations.StartBringsThePartToRunning : Prop :=
  ∀ s : State, s.vehicle.link = .on → s.responses.length < 16 →
    let answer (result : Byte) : List Frame :=
      s.responses ++ [⟨canId (0x6E1 + 2 * s.node.val), [48, result, 0, 0, 0, 0, 0, 0]⟩]
    let ready : Prop := s.sys.used = true ∧ ∃ z : Fin 8, (s.zoneRow z).used = true
    let running : State := { s with part := .running }
    let first : Option Nat := (List.range 12).find? fun i => (s.stepRow i).used
    let posted : State := { s with
      inFlight := s.inFlight ++ (List.finRange 8).flatMap fun z =>
        if (s.zoneRow z).used = true then [.claimPosting (zoneClaim z) 0] else [] }
    let cooled : State := posted.coolersRested.coolersComputed
    let walking : State := { cooled with
      screen := { s.screen with stage := .watch, stageMs := 0, entryDwell := 0, pointer := first } }
    let screened : State := if s.screen.maxCount = 0 then walking.stageHanded
      else State.stageHanded { walking.stageHanded with screen := { walking.stageHanded.screen with stage := .max } }
    (s.part = .running → exec .start s = .next { s with draws := s.draws + 1, responses := answer 25 })
      ∧ (s.part = .standby → ¬ ready → exec .start s = .next { s with draws := s.draws + 1, responses := answer 33 })
      ∧ (s.part = .standby → ready → ∃ t, exec .start s = .next t
          ∧ t = { s with
            part := .running
            zones := Vector.ofFn fun z : Fin 8 => if (s.zoneRow z).used = true then
                { s.zones[z] with
                  mode := .vent, integral := 0, lastR := 0, qh := 0, qc := 0, blind := false
                  sz := clamp (s.zoneRow z).base (s.zoneRow z).smin (s.zoneRow z).smax
                  pass := some (1000 * (s.zoneRow z).interval) }
              else s.zones[z]
            coolers := cooled.coolers
            doors := Vector.ofFn fun d : Fin 8 => if (s.doorRow d).used = true then
                { s.doors[d] with pv := (s.doors[d].working.map fun w => w.n).getD 0, accum := 0, openMs := 0 }
              else s.doors[d]
            screen := t.screen
            overrides := { s.overrides with statusTimer := some 1000 }
            alloc := { s.alloc with claims := s.regrantedClaims }
            channels := t.channels
            inFlight := t.inFlight
            draws := s.draws + 1, responses := answer 1 }
          ∧ (∀ k : Fin 3, t.coolers[k].state = .off)
          ∧ t.screen.stage = (if 0 < s.screen.maxCount then .max else .watch) ∧ t.screen.stageMs = 0
          ∧ t.screen.pass = some (1000 * s.screenInterval) ∧ t.screen.pointer = first
          ∧ (s.screen.stage = .off →
              t.screen = { screened.screen with
                  margin := none, blind := false, pass := some (1000 * s.screenInterval) }
                ∧ t.inFlight = screened.inFlight ++ s.grantDeliveries s.regrantedClaims)
          ∧ ∀ c : Fin 24,
              ((s.outputRow c).used = false → t.channels[c] = s.channels[c])
                ∧ ((s.outputRow c).used = true → ∀ src, (s.outputRow c).fedBy src = true →
                    let cmd := running.commandedValue c (s.sourceValue src)
                    t.channels[c]
                      = if (s.outputRow c).encodingCode = 2 then s.withWindow c cmd else s.withCommand c cmd))

/-- STOP: refused STATE in STANDBY; else the part is in STANDBY: the zones, the cooling units, the doors and the screen come
to rest and post 0, the override table empties with its masks and counts, every grant becomes 0 and is delivered, and each
used channel commands its standby value. The model's choices: a zone keeps its own BLIND flag where it publishes it clear
(notes/assumptions/40.md), the notices of the emptied table are taken within the STOP and those of an earlier change still
in flight with them (53.md), every other hand-over in flight stays there (64.md), an unused zone posts and publishes by its
row (70.md), the order of the blocks' hand-overs (27.md), and a power channel whose last carried output is 0 waits out its
spacing (57.md). -/
def Obligations.StopBringsThePartToStandby : Prop :=
  ∀ s : State, s.vehicle.link = .on → s.responses.length < 16 →
    let answer (result : Byte) : List Frame :=
      s.responses ++ [⟨canId (0x6E1 + 2 * s.node.val), [49, result, 0, 0, 0, 0, 0, 0]⟩]
    let claims : Vector Claim 20 := Vector.ofFn fun c : Fin 20 => { s.alloc.claims[c] with regular := 0, absorption := 0 }
    let notice (e : Instr) : Bool := match e with
      | .maskChange _ _ _ => true
      | .screenMaxEntryNotice => true
      | .screenMaxDepartureNotice => true
      | .maxCountNotice _ => true
      | _ => false
    (s.part = .standby → exec .stop s = .next { s with draws := s.draws + 1, responses := answer 25 })
      ∧ (s.part = .running → exec .stop s = .next { s with
          part := .standby
          zones := Vector.ofFn fun z : Fin 8 => { s.zones[z] with
            mode := .off, qh := 0, qc := 0, blower := 0, freshAir := 0, pass := none
            published := ⟨.off, s.zones[z].tz.getD (s.zoneRow z).base, false, (s.zoneRow z).smax⟩ }
          coolers := Vector.ofFn fun k : Fin 3 => { s.coolers[k] with
            state := .off, minOn := none, minOff := none, posted := 0, grant := 0, demand := 0
            qcs := Vector.replicate 8 0 }
          doors := Vector.ofFn fun d : Fin 8 => { s.doors[d] with
            timer := none, burst := .idle, working := s.doors[d].staged.or s.doors[d].working, staged := none
            latch := false, series := 0, ending := false, openMs := 0, overrideMask := false }
          groupMask := false
          screen := { s.screen with
            stage := .off, stageMs := 0, entryDwell := 0, margin := none, blind := false, pass := none, maxCount := 0
            posted := if s.screen.stage = .off then s.screen.posted else 0
            flap := if s.screen.stage = .off then s.screen.flap else 0 }
          overrides := { s.overrides with
            table := [], statusTimer := none
            seq := if s.overrides.table = [] then s.overrides.seq else (s.overrides.seq + 1) % 256 }
          alloc := { s.alloc with maxCount := 0, claims := claims }
          channels := Vector.ofFn fun c : Fin 24 => if (s.outputRow c).used = true then
              s.withOutput c ((s.outputRow c).encoded (s.outputRow c).standby)
                { s.channels[c] with commanded := (s.outputRow c).standby, window := none, elapsed := 0, onTime := 0 }
            else s.channels[c]
          inFlight := s.inFlight.filter (fun e => !notice e)
            ++ (List.finRange 8).flatMap (fun z => [.statusPublication z, .claimPosting (zoneClaim z) 0]
              ++ ((List.finRange 3).filter fun k => (s.zoneRow z).sectCode == k.val).map (fun k => .qcPosting k z 0)
              ++ [.sourceDelivery (.blower z) 0, .sourceDelivery (.freshAir z) 0])
            ++ (List.finRange 3).flatMap (fun k =>
              (if s.coolers[k].demand = 0 then [] else [.sourceDelivery (.demand k) 0]) ++ [.claimPosting (coolClaim k) 0])
            ++ (List.finRange 8).flatMap (fun d =>
              if s.doors[d].burst = .burst then [.claimPosting (curtainClaim d) 0] else [])
            ++ (if s.screen.stage = .off then []
              else .claimPosting screenClaim 0 :: (List.finRange 3).map (fun k => .stageNotice k false 0)
                ++ (if s.screen.flap = 0 then [] else [.sourceDelivery .flap 0]))
            ++ s.grantDeliveries claims
          draws := s.draws + 1, responses := answer 1 })

/-- The requests that act on a set of doors or sections, and LOAD_SET: each acts on every one named and on no other; a
door whose effective mask UNMASK_DOORS clears in IDLE takes its latched trigger, a delay of 0 s being over at once. -/
def Obligations.SetRequestsActOnEachNamed : Prop :=
  ∀ (s : State) (b count : Byte), s.vehicle.link = .on → s.responses.length < 16 →
    let answer (head result c0 c1 : Byte) : List Frame :=
      s.responses ++ [⟨canId (0x6E1 + 2 * s.node.val), [head, result, c0, c1, 0, 0, 0, 0]⟩]
    let door (f : Door → Door) : Vector Door 8 :=
      Vector.ofFn fun d : Fin 8 => if b.toNat.testBit d = true then f s.doors[d] else s.doors[d]
    let load (f : Load → Load) : Vector Load 3 :=
      Vector.ofFn fun k : Fin 3 => if b.toNat.testBit k = true then f s.loads[k] else s.loads[k]
    exec (.clearPending b) s
        = .next { s with draws := s.draws + 1, responses := answer 52 1 0 0, doors := door fun x => { x with latch := false } }
      ∧ exec (.maskDoors b) s
        = .next { s with draws := s.draws + 1, responses := answer 53 1 0 0, doors := door fun x => { x with serviceMask := true } }
      ∧ ((∀ d : Fin 8, s.doors[d].latch = false) → exec (.unmaskDoors b) s
        = .next { s with draws := s.draws + 1, responses := answer 54 1 0 0, doors := door fun x => { x with serviceMask := false } })
      ∧ (∃ t, exec (.unmaskDoors b) s = .next t ∧ t.responses = answer 54 1 0 0 ∧ ∀ d : Fin 8,
          let x := s.doors[d]
          let y : Door := { x with serviceMask := if b.toNat.testBit d = true then false else x.serviceMask }
          let takes : Prop := b.toNat.testBit d = true ∧ s.part = .running ∧ (s.doorRow d).used = true
            ∧ x.serviceMask = true ∧ x.overrideMask = false ∧ s.groupMask = false ∧ x.latch = true ∧ x.burst = .idle
          let started (w : BurstFields) : Door := { y with
            latch := false, burst := .delay, timer := some (1000 * w.delay)
            pv := if w.modeCode = 3 then w.n else x.pv
            series := if w.modeCode = 5 then 0 else x.series
            ending := if w.modeCode = 5 then false else x.ending }
          (¬ takes → t.doors[d] = y)
            ∧ (takes → ∀ w, x.working = some w →
                ((w.modeCode ≠ 3 ∨ x.pv ≤ 1) → w.delay ≠ 0 → t.doors[d] = started w)
                  ∧ ((w.modeCode ≠ 3 ∨ x.pv ≤ 1) → w.delay = 0 → ∃ u,
                      exec (.delayExpiry d) { s with doors := s.doors.set d (started w) } = .next u
                        ∧ t.doors[d] = u.doors[d])
                  ∧ (w.modeCode = 3 → 1 < x.pv → t.doors[d] = { y with latch := false, pv := x.pv - 1 })))
      ∧ exec (.armTerminus b) s
        = .next { s with draws := s.draws + 1, responses := answer 55 1 0 0, loads := load fun x => { x with armed := true } }
      ∧ exec (.disarmTerminus b) s
        = .next { s with draws := s.draws + 1, responses := answer 56 1 0 0, loads := load fun x => { x with armed := false } }
      ∧ (∀ k : Fin 3, b.toNat = k.val → count.toNat ≤ s.capacityOf k →
          exec (.loadSet b count) s = .next { s with
            draws := s.draws + 1, responses := answer 57 1 count (byteOf ((s.bandOf count.toNat).getD 255))
            loads := s.loads.set k { s.loads[k] with
              count := count.toNat, isOver := false, isUnder := false, current := s.bandOf count.toNat
              pendingBand := none, dwell := none } })
      ∧ ((3 ≤ b.toNat ∨ ∃ k : Fin 3, b.toNat = k.val ∧ s.capacityOf k < count.toNat) →
          exec (.loadSet b count) s = .next { s with draws := s.draws + 1, responses := answer 57 17 0 0 })

/-! ### Invariants -/

/-- Every step keeps the sizes of the queues and counts of the ports, the override table, the section counts within
their capacities, the compressors of units outside RUN at rest, and the units in LOCKOUT posting 0. -/
def Obligations.StepsKeepTheBounds : Prop :=
  ∀ s t : State, step s = .next t →
    (s.queuesKept → t.queuesKept) ∧ (s.overridesKept → t.overridesKept) ∧ (s.countsKept → t.countsKept)
      ∧ (s.coolersKept → t.coolersKept)

/-- Every step keeps the power budget. -/
def Obligations.StepsKeepTheBudget : Prop :=
  ∀ s t : State, s.budgetKept → step s = .next t → t.budgetKept

/-- Every step keeps the shape of both banks and the validity of the active bank. -/
def Obligations.StepsKeepTheBanks : Prop :=
  ∀ s t : State, s.banksKept → step s = .next t → t.banksKept

/-- Every step keeps a quiet STANDBY, and the door timers in step with the burst states. -/
def Obligations.StepsKeepStandbyQuiet : Prop :=
  ∀ s t : State, s.doorsKept → s.standbyQuiet → step s = .next t → t.doorsKept ∧ t.standbyQuiet

/-- The part right after a power-on reset meets every standing condition. -/
def Obligations.ResetMeetsTheStandingConditions : Prop :=
  State.reset.queuesKept ∧ State.reset.overridesKept ∧ State.reset.countsKept ∧ State.reset.budgetKept
    ∧ State.reset.banksKept ∧ State.reset.standbyQuiet ∧ State.reset.doorsKept ∧ State.reset.coolersKept
end

