-- ==== Sys2Proof/Laws/State.lean ====
section
/-! SUPPORT. The small lemmas of the updates of State: what each update changes, and what it leaves. -/

namespace Sys2Proof.Machine

/-! ### Ports -/

@[simp] theorem State.setPort_port (s : State) (p : PortName) (x : Port) : (s.setPort p x).port p = x := by
  cases p <;> rfl

theorem State.setPort_port_ne (s : State) {p q : PortName} (x : Port) (h : p ≠ q) : (s.setPort p x).port q = s.port q := by
  cases p <;> cases q <;> first | rfl | exact absurd rfl h

/-! ### What each update changes -/

@[simp] theorem State.emit_inFlight (s : State) (es : List Instr) : (s.emit es).inFlight = s.inFlight ++ es := rfl
@[simp] theorem State.emit_nil (s : State) : s.emit [] = s := by simp [State.emit]
@[simp] theorem State.emit_emit (s : State) (as bs : List Instr) : (s.emit as).emit bs = s.emit (as ++ bs) := by
  simp [State.emit]
@[simp] theorem State.take_inFlight (s : State) (e : Instr) : (s.take e).inFlight = s.inFlight.erase e := rfl
@[simp] theorem State.setSlot_slots (s : State) (i : Fin 64) (x : Slot) : (s.setSlot i x).slots = s.slots.set i x := rfl
@[simp] theorem State.setZone_zones (s : State) (z : Fin 8) (x : Zone) : (s.setZone z x).zones = s.zones.set z x := rfl
@[simp] theorem State.setCooler_coolers (s : State) (k : Fin 3) (x : Cooler) :
    (s.setCooler k x).coolers = s.coolers.set k x := rfl
@[simp] theorem State.setDoor_doors (s : State) (d : Fin 8) (x : Door) : (s.setDoor d x).doors = s.doors.set d x := rfl
@[simp] theorem State.setLoad_loads (s : State) (k : Fin 3) (x : Load) : (s.setLoad k x).loads = s.loads.set k x := rfl
@[simp] theorem State.setChannel_channels (s : State) (c : Fin 24) (x : Channel) :
    (s.setChannel c x).channels = s.channels.set c x := rfl
@[simp] theorem State.setClaim_alloc (s : State) (c : Fin 20) (x : Claim) :
    (s.setClaim c x).alloc = { s.alloc with claims := s.alloc.claims.set c x } := rfl
@[simp] theorem State.raise_flags (s : State) (f : Flag) : (s.raise f).flags = s.flags.set f := rfl
@[simp] theorem State.raiseIf_flags (s : State) (b : Bool) (f : Flag) :
    (s.raiseIf b f).flags = if b then s.flags.set f else s.flags := by
  unfold State.raiseIf; split <;> rfl

/-! ### What each update leaves -/


@[simp] theorem State.emit_frame (s : State) (es : List Instr) :
    (s.emit es).part = s.part ∧ (s.emit es).node = s.node ∧ (s.emit es).rate = s.rate ∧
    (s.emit es).active = s.active ∧ (s.emit es).shadow = s.shadow ∧ (s.emit es).marks = s.marks ∧
    (s.emit es).engine = s.engine ∧ (s.emit es).flags = s.flags ∧ (s.emit es).vehicle = s.vehicle ∧
    (s.emit es).climate = s.climate ∧ (s.emit es).responses = s.responses ∧ (s.emit es).acks = s.acks ∧
    (s.emit es).panelStatus = s.panelStatus ∧ (s.emit es).slots = s.slots ∧ (s.emit es).zones = s.zones ∧
    (s.emit es).coolers = s.coolers ∧ (s.emit es).doors = s.doors ∧ (s.emit es).groupMask = s.groupMask ∧
    (s.emit es).loads = s.loads ∧ (s.emit es).markHigh = s.markHigh ∧ (s.emit es).screen = s.screen ∧
    (s.emit es).overrides = s.overrides ∧ (s.emit es).alloc = s.alloc ∧ (s.emit es).sources = s.sources ∧
    (s.emit es).channels = s.channels ∧ (s.emit es).pending = s.pending ∧
    (s.emit es).channels = s.channels ∧ (s.emit es).draws = s.draws := by
  and_intros <;> rfl

@[simp] theorem State.take_frame (s : State) (e : Instr) :
    (s.take e).part = s.part ∧ (s.take e).node = s.node ∧ (s.take e).rate = s.rate ∧ (s.take e).active = s.active ∧
    (s.take e).shadow = s.shadow ∧ (s.take e).marks = s.marks ∧ (s.take e).engine = s.engine ∧
    (s.take e).flags = s.flags ∧ (s.take e).vehicle = s.vehicle ∧ (s.take e).climate = s.climate ∧
    (s.take e).responses = s.responses ∧ (s.take e).acks = s.acks ∧ (s.take e).panelStatus = s.panelStatus ∧
    (s.take e).slots = s.slots ∧ (s.take e).zones = s.zones ∧ (s.take e).coolers = s.coolers ∧
    (s.take e).doors = s.doors ∧ (s.take e).groupMask = s.groupMask ∧ (s.take e).loads = s.loads ∧
    (s.take e).markHigh = s.markHigh ∧ (s.take e).screen = s.screen ∧ (s.take e).overrides = s.overrides ∧
    (s.take e).alloc = s.alloc ∧ (s.take e).sources = s.sources ∧ (s.take e).channels = s.channels ∧
    (s.take e).pending = s.pending ∧
    (s.take e).draws = s.draws := by
  and_intros <;> rfl

@[simp] theorem State.setPort_frame (s : State) (p : PortName) (x : Port) :
    (s.setPort p x).part = s.part ∧ (s.setPort p x).node = s.node ∧ (s.setPort p x).rate = s.rate ∧
    (s.setPort p x).active = s.active ∧ (s.setPort p x).shadow = s.shadow ∧ (s.setPort p x).marks = s.marks ∧
    (s.setPort p x).engine = s.engine ∧ (s.setPort p x).flags = s.flags ∧ (s.setPort p x).responses = s.responses ∧
    (s.setPort p x).acks = s.acks ∧ (s.setPort p x).panelStatus = s.panelStatus ∧ (s.setPort p x).slots = s.slots ∧
    (s.setPort p x).zones = s.zones ∧ (s.setPort p x).coolers = s.coolers ∧ (s.setPort p x).doors = s.doors ∧
    (s.setPort p x).groupMask = s.groupMask ∧ (s.setPort p x).loads = s.loads ∧
    (s.setPort p x).markHigh = s.markHigh ∧ (s.setPort p x).screen = s.screen ∧
    (s.setPort p x).overrides = s.overrides ∧ (s.setPort p x).alloc = s.alloc ∧
    (s.setPort p x).sources = s.sources ∧ (s.setPort p x).channels = s.channels ∧
    (s.setPort p x).inFlight = s.inFlight ∧ (s.setPort p x).pending = s.pending ∧
    (s.setPort p x).inFlight = s.inFlight ∧ (s.setPort p x).draws = s.draws := by
  cases p <;> and_intros <;> rfl

@[simp] theorem State.setSlot_frame (s : State) (i : Fin 64) (x : Slot) :
    (s.setSlot i x).part = s.part ∧ (s.setSlot i x).node = s.node ∧ (s.setSlot i x).rate = s.rate ∧
    (s.setSlot i x).active = s.active ∧ (s.setSlot i x).shadow = s.shadow ∧ (s.setSlot i x).marks = s.marks ∧
    (s.setSlot i x).engine = s.engine ∧ (s.setSlot i x).flags = s.flags ∧ (s.setSlot i x).vehicle = s.vehicle ∧
    (s.setSlot i x).climate = s.climate ∧ (s.setSlot i x).responses = s.responses ∧ (s.setSlot i x).acks = s.acks ∧
    (s.setSlot i x).panelStatus = s.panelStatus ∧ (s.setSlot i x).zones = s.zones ∧
    (s.setSlot i x).coolers = s.coolers ∧ (s.setSlot i x).doors = s.doors ∧
    (s.setSlot i x).groupMask = s.groupMask ∧ (s.setSlot i x).loads = s.loads ∧
    (s.setSlot i x).markHigh = s.markHigh ∧ (s.setSlot i x).screen = s.screen ∧
    (s.setSlot i x).overrides = s.overrides ∧ (s.setSlot i x).alloc = s.alloc ∧
    (s.setSlot i x).sources = s.sources ∧ (s.setSlot i x).channels = s.channels ∧
    (s.setSlot i x).inFlight = s.inFlight ∧ (s.setSlot i x).pending = s.pending ∧
    (s.setSlot i x).inFlight = s.inFlight ∧ (s.setSlot i x).draws = s.draws := by
  and_intros <;> rfl

@[simp] theorem State.setZone_frame (s : State) (z : Fin 8) (x : Zone) :
    (s.setZone z x).part = s.part ∧ (s.setZone z x).node = s.node ∧ (s.setZone z x).rate = s.rate ∧
    (s.setZone z x).active = s.active ∧ (s.setZone z x).shadow = s.shadow ∧ (s.setZone z x).marks = s.marks ∧
    (s.setZone z x).engine = s.engine ∧ (s.setZone z x).flags = s.flags ∧ (s.setZone z x).vehicle = s.vehicle ∧
    (s.setZone z x).climate = s.climate ∧ (s.setZone z x).responses = s.responses ∧ (s.setZone z x).acks = s.acks ∧
    (s.setZone z x).panelStatus = s.panelStatus ∧ (s.setZone z x).slots = s.slots ∧
    (s.setZone z x).coolers = s.coolers ∧ (s.setZone z x).doors = s.doors ∧
    (s.setZone z x).groupMask = s.groupMask ∧ (s.setZone z x).loads = s.loads ∧
    (s.setZone z x).markHigh = s.markHigh ∧ (s.setZone z x).screen = s.screen ∧
    (s.setZone z x).overrides = s.overrides ∧ (s.setZone z x).alloc = s.alloc ∧
    (s.setZone z x).sources = s.sources ∧ (s.setZone z x).channels = s.channels ∧
    (s.setZone z x).inFlight = s.inFlight ∧ (s.setZone z x).pending = s.pending ∧
    (s.setZone z x).inFlight = s.inFlight ∧ (s.setZone z x).draws = s.draws := by
  and_intros <;> rfl

@[simp] theorem State.setCooler_frame (s : State) (k : Fin 3) (x : Cooler) :
    (s.setCooler k x).part = s.part ∧ (s.setCooler k x).node = s.node ∧ (s.setCooler k x).rate = s.rate ∧
    (s.setCooler k x).active = s.active ∧ (s.setCooler k x).shadow = s.shadow ∧ (s.setCooler k x).marks = s.marks ∧
    (s.setCooler k x).engine = s.engine ∧ (s.setCooler k x).flags = s.flags ∧
    (s.setCooler k x).vehicle = s.vehicle ∧ (s.setCooler k x).climate = s.climate ∧
    (s.setCooler k x).responses = s.responses ∧ (s.setCooler k x).acks = s.acks ∧
    (s.setCooler k x).panelStatus = s.panelStatus ∧ (s.setCooler k x).slots = s.slots ∧
    (s.setCooler k x).zones = s.zones ∧ (s.setCooler k x).doors = s.doors ∧
    (s.setCooler k x).groupMask = s.groupMask ∧ (s.setCooler k x).loads = s.loads ∧
    (s.setCooler k x).markHigh = s.markHigh ∧ (s.setCooler k x).screen = s.screen ∧
    (s.setCooler k x).overrides = s.overrides ∧ (s.setCooler k x).alloc = s.alloc ∧
    (s.setCooler k x).sources = s.sources ∧ (s.setCooler k x).channels = s.channels ∧
    (s.setCooler k x).inFlight = s.inFlight ∧ (s.setCooler k x).pending = s.pending ∧
    (s.setCooler k x).inFlight = s.inFlight ∧ (s.setCooler k x).draws = s.draws := by
  and_intros <;> rfl

@[simp] theorem State.setDoor_frame (s : State) (d : Fin 8) (x : Door) :
    (s.setDoor d x).part = s.part ∧ (s.setDoor d x).node = s.node ∧ (s.setDoor d x).rate = s.rate ∧
    (s.setDoor d x).active = s.active ∧ (s.setDoor d x).shadow = s.shadow ∧ (s.setDoor d x).marks = s.marks ∧
    (s.setDoor d x).engine = s.engine ∧ (s.setDoor d x).flags = s.flags ∧ (s.setDoor d x).vehicle = s.vehicle ∧
    (s.setDoor d x).climate = s.climate ∧ (s.setDoor d x).responses = s.responses ∧ (s.setDoor d x).acks = s.acks ∧
    (s.setDoor d x).panelStatus = s.panelStatus ∧ (s.setDoor d x).slots = s.slots ∧
    (s.setDoor d x).zones = s.zones ∧ (s.setDoor d x).coolers = s.coolers ∧
    (s.setDoor d x).groupMask = s.groupMask ∧ (s.setDoor d x).loads = s.loads ∧
    (s.setDoor d x).markHigh = s.markHigh ∧ (s.setDoor d x).screen = s.screen ∧
    (s.setDoor d x).overrides = s.overrides ∧ (s.setDoor d x).alloc = s.alloc ∧
    (s.setDoor d x).sources = s.sources ∧ (s.setDoor d x).channels = s.channels ∧
    (s.setDoor d x).inFlight = s.inFlight ∧ (s.setDoor d x).pending = s.pending ∧
    (s.setDoor d x).inFlight = s.inFlight ∧ (s.setDoor d x).draws = s.draws := by
  and_intros <;> rfl

@[simp] theorem State.setLoad_frame (s : State) (k : Fin 3) (x : Load) :
    (s.setLoad k x).part = s.part ∧ (s.setLoad k x).node = s.node ∧ (s.setLoad k x).rate = s.rate ∧
    (s.setLoad k x).active = s.active ∧ (s.setLoad k x).shadow = s.shadow ∧ (s.setLoad k x).marks = s.marks ∧
    (s.setLoad k x).engine = s.engine ∧ (s.setLoad k x).flags = s.flags ∧ (s.setLoad k x).vehicle = s.vehicle ∧
    (s.setLoad k x).climate = s.climate ∧ (s.setLoad k x).responses = s.responses ∧ (s.setLoad k x).acks = s.acks ∧
    (s.setLoad k x).panelStatus = s.panelStatus ∧ (s.setLoad k x).slots = s.slots ∧
    (s.setLoad k x).zones = s.zones ∧ (s.setLoad k x).coolers = s.coolers ∧ (s.setLoad k x).doors = s.doors ∧
    (s.setLoad k x).groupMask = s.groupMask ∧ (s.setLoad k x).markHigh = s.markHigh ∧
    (s.setLoad k x).screen = s.screen ∧ (s.setLoad k x).overrides = s.overrides ∧ (s.setLoad k x).alloc = s.alloc ∧
    (s.setLoad k x).sources = s.sources ∧ (s.setLoad k x).channels = s.channels ∧
    (s.setLoad k x).inFlight = s.inFlight ∧ (s.setLoad k x).pending = s.pending ∧
    (s.setLoad k x).inFlight = s.inFlight ∧ (s.setLoad k x).draws = s.draws := by
  and_intros <;> rfl

@[simp] theorem State.setChannel_frame (s : State) (c : Fin 24) (x : Channel) :
    (s.setChannel c x).part = s.part ∧ (s.setChannel c x).node = s.node ∧ (s.setChannel c x).rate = s.rate ∧
    (s.setChannel c x).active = s.active ∧ (s.setChannel c x).shadow = s.shadow ∧
    (s.setChannel c x).marks = s.marks ∧ (s.setChannel c x).engine = s.engine ∧
    (s.setChannel c x).flags = s.flags ∧ (s.setChannel c x).vehicle = s.vehicle ∧
    (s.setChannel c x).climate = s.climate ∧ (s.setChannel c x).responses = s.responses ∧
    (s.setChannel c x).acks = s.acks ∧ (s.setChannel c x).panelStatus = s.panelStatus ∧
    (s.setChannel c x).slots = s.slots ∧ (s.setChannel c x).zones = s.zones ∧
    (s.setChannel c x).coolers = s.coolers ∧ (s.setChannel c x).doors = s.doors ∧
    (s.setChannel c x).groupMask = s.groupMask ∧ (s.setChannel c x).loads = s.loads ∧
    (s.setChannel c x).markHigh = s.markHigh ∧ (s.setChannel c x).screen = s.screen ∧
    (s.setChannel c x).overrides = s.overrides ∧ (s.setChannel c x).alloc = s.alloc ∧
    (s.setChannel c x).sources = s.sources ∧ (s.setChannel c x).inFlight = s.inFlight ∧
    (s.setChannel c x).pending = s.pending ∧
    (s.setChannel c x).draws = s.draws := by
  and_intros <;> rfl

@[simp] theorem State.setClaim_frame (s : State) (c : Fin 20) (x : Claim) :
    (s.setClaim c x).part = s.part ∧ (s.setClaim c x).node = s.node ∧ (s.setClaim c x).rate = s.rate ∧
    (s.setClaim c x).active = s.active ∧ (s.setClaim c x).shadow = s.shadow ∧ (s.setClaim c x).marks = s.marks ∧
    (s.setClaim c x).engine = s.engine ∧ (s.setClaim c x).flags = s.flags ∧ (s.setClaim c x).vehicle = s.vehicle ∧
    (s.setClaim c x).climate = s.climate ∧ (s.setClaim c x).responses = s.responses ∧
    (s.setClaim c x).acks = s.acks ∧ (s.setClaim c x).panelStatus = s.panelStatus ∧
    (s.setClaim c x).slots = s.slots ∧ (s.setClaim c x).zones = s.zones ∧ (s.setClaim c x).coolers = s.coolers ∧
    (s.setClaim c x).doors = s.doors ∧ (s.setClaim c x).groupMask = s.groupMask ∧
    (s.setClaim c x).loads = s.loads ∧ (s.setClaim c x).markHigh = s.markHigh ∧
    (s.setClaim c x).screen = s.screen ∧ (s.setClaim c x).overrides = s.overrides ∧
    (s.setClaim c x).sources = s.sources ∧ (s.setClaim c x).channels = s.channels ∧
    (s.setClaim c x).inFlight = s.inFlight ∧ (s.setClaim c x).pending = s.pending ∧
    (s.setClaim c x).inFlight = s.inFlight ∧ (s.setClaim c x).draws = s.draws := by
  and_intros <;> rfl

@[simp] theorem State.raise_frame (s : State) (f : Flag) :
    (s.raise f).part = s.part ∧ (s.raise f).node = s.node ∧ (s.raise f).rate = s.rate ∧
    (s.raise f).active = s.active ∧ (s.raise f).shadow = s.shadow ∧ (s.raise f).marks = s.marks ∧
    (s.raise f).engine = s.engine ∧ (s.raise f).vehicle = s.vehicle ∧ (s.raise f).climate = s.climate ∧
    (s.raise f).responses = s.responses ∧ (s.raise f).acks = s.acks ∧ (s.raise f).panelStatus = s.panelStatus ∧
    (s.raise f).slots = s.slots ∧ (s.raise f).zones = s.zones ∧ (s.raise f).coolers = s.coolers ∧
    (s.raise f).doors = s.doors ∧ (s.raise f).groupMask = s.groupMask ∧ (s.raise f).loads = s.loads ∧
    (s.raise f).markHigh = s.markHigh ∧ (s.raise f).screen = s.screen ∧ (s.raise f).overrides = s.overrides ∧
    (s.raise f).alloc = s.alloc ∧ (s.raise f).sources = s.sources ∧ (s.raise f).channels = s.channels ∧
    (s.raise f).inFlight = s.inFlight ∧ (s.raise f).pending = s.pending ∧
    (s.raise f).inFlight = s.inFlight ∧ (s.raise f).draws = s.draws := by
  and_intros <;> rfl

@[simp] theorem State.raiseIf_frame (s : State) (b : Bool) (f : Flag) :
    (s.raiseIf b f).part = s.part ∧ (s.raiseIf b f).node = s.node ∧ (s.raiseIf b f).rate = s.rate ∧
    (s.raiseIf b f).active = s.active ∧ (s.raiseIf b f).shadow = s.shadow ∧ (s.raiseIf b f).marks = s.marks ∧
    (s.raiseIf b f).engine = s.engine ∧ (s.raiseIf b f).vehicle = s.vehicle ∧ (s.raiseIf b f).climate = s.climate ∧
    (s.raiseIf b f).responses = s.responses ∧ (s.raiseIf b f).acks = s.acks ∧
    (s.raiseIf b f).panelStatus = s.panelStatus ∧ (s.raiseIf b f).slots = s.slots ∧
    (s.raiseIf b f).zones = s.zones ∧ (s.raiseIf b f).coolers = s.coolers ∧ (s.raiseIf b f).doors = s.doors ∧
    (s.raiseIf b f).groupMask = s.groupMask ∧ (s.raiseIf b f).loads = s.loads ∧
    (s.raiseIf b f).markHigh = s.markHigh ∧ (s.raiseIf b f).screen = s.screen ∧
    (s.raiseIf b f).overrides = s.overrides ∧ (s.raiseIf b f).alloc = s.alloc ∧
    (s.raiseIf b f).sources = s.sources ∧ (s.raiseIf b f).channels = s.channels ∧
    (s.raiseIf b f).inFlight = s.inFlight ∧ (s.raiseIf b f).pending = s.pending ∧
    (s.raiseIf b f).inFlight = s.inFlight ∧ (s.raiseIf b f).draws = s.draws := by
  unfold State.raiseIf; split <;> simp

/-- A state function whose every turn keeps a view of the state keeps it over all turns. -/
theorem forEach_keeps {α : Type} {n : Nat} (g : State → α) (f : Fin n → State → State) (s : State)
    (h : ∀ i t, g (f i t) = g t) : g (forEach n f s) = g s := by
  unfold forEach
  generalize List.finRange n = l
  induction l generalizing s with
  | nil => rfl
  | cons i l ih => simp only [List.foldl_cons]; rw [ih, h]

/-- A property that every turn keeps is kept over all turns. -/
theorem forEach_invariant {n : Nat} (P : State → Prop) (f : Fin n → State → State) (s : State)
    (h : ∀ i t, P t → P (f i t)) (hs : P s) : P (forEach n f s) := by
  unfold forEach
  generalize List.finRange n = l
  induction l generalizing s with
  | nil => exact hs
  | cons i l ih => exact ih _ (h i s hs)

/-- The same for a fold over any list. -/
theorem foldl_keeps {α β : Type} (g : State → β) (f : State → α → State) (l : List α) (s : State)
    (h : ∀ t a, g (f t a) = g t) : g (l.foldl f s) = g s := by
  induction l generalizing s with
  | nil => rfl
  | cons a l ih => simp only [List.foldl_cons]; rw [ih, h]

/-- A property that every turn of a fold keeps is kept by the fold. -/
theorem foldl_invariant {α : Type} (P : State → Prop) (f : State → α → State) (l : List α) (s : State)
    (h : ∀ t a, P t → P (f t a)) (hs : P s) : P (l.foldl f s) := by
  induction l generalizing s with
  | nil => exact hs
  | cons a l ih => exact ih _ (h s a hs)


end Sys2Proof.Machine
end

