-- ==== Sys2Proof/Laws/Frames.lean ====
section
/-! SUPPORT. What each shared operation leaves unchanged, one lemma per operation. -/

namespace Sys2Proof.Machine

/-! ### Output channels (chapter 8) -/

@[simp] theorem State.setSource_frame (s : State) (src : Source) (v : Nat) :
    (s.setSource src v).part = s.part ∧ (s.setSource src v).node = s.node ∧ (s.setSource src v).rate = s.rate ∧
    (s.setSource src v).active = s.active ∧ (s.setSource src v).shadow = s.shadow ∧
    (s.setSource src v).marks = s.marks ∧ (s.setSource src v).engine = s.engine ∧
    (s.setSource src v).flags = s.flags ∧ (s.setSource src v).vehicle = s.vehicle ∧
    (s.setSource src v).climate = s.climate ∧ (s.setSource src v).responses = s.responses ∧
    (s.setSource src v).acks = s.acks ∧ (s.setSource src v).panelStatus = s.panelStatus ∧
    (s.setSource src v).slots = s.slots ∧ (s.setSource src v).zones = s.zones ∧
    (s.setSource src v).coolers = s.coolers ∧ (s.setSource src v).doors = s.doors ∧
    (s.setSource src v).groupMask = s.groupMask ∧ (s.setSource src v).loads = s.loads ∧
    (s.setSource src v).markHigh = s.markHigh ∧ (s.setSource src v).screen = s.screen ∧
    (s.setSource src v).overrides = s.overrides ∧ (s.setSource src v).alloc = s.alloc ∧
    (s.setSource src v).channels = s.channels ∧ (s.setSource src v).inFlight = s.inFlight ∧
    (s.setSource src v).pending = s.pending ∧
    (s.setSource src v).draws = s.draws := by
  cases src <;> and_intros <;> rfl

@[simp] theorem State.formChannel_frame (s : State) (c : Fin 24) (v : Nat) :
    (s.formChannel c v).part = s.part ∧ (s.formChannel c v).node = s.node ∧ (s.formChannel c v).rate = s.rate ∧
    (s.formChannel c v).active = s.active ∧ (s.formChannel c v).shadow = s.shadow ∧
    (s.formChannel c v).marks = s.marks ∧ (s.formChannel c v).engine = s.engine ∧
    (s.formChannel c v).flags = s.flags ∧ (s.formChannel c v).vehicle = s.vehicle ∧
    (s.formChannel c v).climate = s.climate ∧ (s.formChannel c v).responses = s.responses ∧
    (s.formChannel c v).acks = s.acks ∧ (s.formChannel c v).panelStatus = s.panelStatus ∧
    (s.formChannel c v).slots = s.slots ∧ (s.formChannel c v).zones = s.zones ∧
    (s.formChannel c v).coolers = s.coolers ∧ (s.formChannel c v).doors = s.doors ∧
    (s.formChannel c v).groupMask = s.groupMask ∧ (s.formChannel c v).loads = s.loads ∧
    (s.formChannel c v).markHigh = s.markHigh ∧ (s.formChannel c v).screen = s.screen ∧
    (s.formChannel c v).overrides = s.overrides ∧ (s.formChannel c v).alloc = s.alloc ∧
    (s.formChannel c v).sources = s.sources ∧ (s.formChannel c v).inFlight = s.inFlight ∧
    (s.formChannel c v).pending = s.pending ∧
    (s.formChannel c v).draws = s.draws := by
  unfold State.formChannel; and_intros <;> (try simp only []) <;> (repeat' split) <;> simp

@[simp] theorem State.formFor_frame (s : State) (src : Source) (v : Nat) :
    (s.formFor src v).part = s.part ∧ (s.formFor src v).node = s.node ∧ (s.formFor src v).rate = s.rate ∧
    (s.formFor src v).active = s.active ∧ (s.formFor src v).shadow = s.shadow ∧ (s.formFor src v).marks = s.marks ∧
    (s.formFor src v).engine = s.engine ∧ (s.formFor src v).flags = s.flags ∧
    (s.formFor src v).vehicle = s.vehicle ∧ (s.formFor src v).climate = s.climate ∧
    (s.formFor src v).responses = s.responses ∧ (s.formFor src v).acks = s.acks ∧
    (s.formFor src v).panelStatus = s.panelStatus ∧ (s.formFor src v).slots = s.slots ∧
    (s.formFor src v).zones = s.zones ∧ (s.formFor src v).coolers = s.coolers ∧ (s.formFor src v).doors = s.doors ∧
    (s.formFor src v).groupMask = s.groupMask ∧ (s.formFor src v).loads = s.loads ∧
    (s.formFor src v).markHigh = s.markHigh ∧ (s.formFor src v).screen = s.screen ∧
    (s.formFor src v).overrides = s.overrides ∧ (s.formFor src v).alloc = s.alloc ∧
    (s.formFor src v).sources = s.sources ∧ (s.formFor src v).inFlight = s.inFlight ∧
    (s.formFor src v).pending = s.pending ∧
    (s.formFor src v).draws = s.draws := by
  unfold State.formFor; and_intros <;> apply forEach_keeps <;> intro i t <;> (try simp only []) <;> (repeat' split) <;> simp

@[simp] theorem State.formClaimant_frame (s : State) (c : Fin 20) :
    (s.formClaimant c).part = s.part ∧ (s.formClaimant c).node = s.node ∧ (s.formClaimant c).rate = s.rate ∧
    (s.formClaimant c).active = s.active ∧ (s.formClaimant c).shadow = s.shadow ∧
    (s.formClaimant c).marks = s.marks ∧ (s.formClaimant c).engine = s.engine ∧
    (s.formClaimant c).flags = s.flags ∧ (s.formClaimant c).vehicle = s.vehicle ∧
    (s.formClaimant c).climate = s.climate ∧ (s.formClaimant c).responses = s.responses ∧
    (s.formClaimant c).acks = s.acks ∧ (s.formClaimant c).panelStatus = s.panelStatus ∧
    (s.formClaimant c).slots = s.slots ∧ (s.formClaimant c).zones = s.zones ∧
    (s.formClaimant c).coolers = s.coolers ∧ (s.formClaimant c).doors = s.doors ∧
    (s.formClaimant c).groupMask = s.groupMask ∧ (s.formClaimant c).loads = s.loads ∧
    (s.formClaimant c).markHigh = s.markHigh ∧ (s.formClaimant c).screen = s.screen ∧
    (s.formClaimant c).overrides = s.overrides ∧ (s.formClaimant c).alloc = s.alloc ∧
    (s.formClaimant c).sources = s.sources ∧ (s.formClaimant c).inFlight = s.inFlight ∧
    (s.formClaimant c).pending = s.pending ∧
    (s.formClaimant c).draws = s.draws := by
  unfold State.formClaimant; and_intros <;> apply forEach_keeps <;> intro i t <;> (try simp only []) <;> (repeat' split) <;> simp

@[simp] theorem State.setHealth_frame (s : State) (c : Fin 24) (x : Channel) :
    (s.setHealth c x).part = s.part ∧ (s.setHealth c x).node = s.node ∧ (s.setHealth c x).rate = s.rate ∧
    (s.setHealth c x).active = s.active ∧ (s.setHealth c x).shadow = s.shadow ∧ (s.setHealth c x).marks = s.marks ∧
    (s.setHealth c x).engine = s.engine ∧ (s.setHealth c x).vehicle = s.vehicle ∧
    (s.setHealth c x).climate = s.climate ∧ (s.setHealth c x).responses = s.responses ∧
    (s.setHealth c x).acks = s.acks ∧ (s.setHealth c x).panelStatus = s.panelStatus ∧
    (s.setHealth c x).slots = s.slots ∧ (s.setHealth c x).zones = s.zones ∧ (s.setHealth c x).coolers = s.coolers ∧
    (s.setHealth c x).doors = s.doors ∧ (s.setHealth c x).groupMask = s.groupMask ∧
    (s.setHealth c x).loads = s.loads ∧ (s.setHealth c x).markHigh = s.markHigh ∧
    (s.setHealth c x).screen = s.screen ∧ (s.setHealth c x).overrides = s.overrides ∧
    (s.setHealth c x).alloc = s.alloc ∧ (s.setHealth c x).sources = s.sources ∧
    (s.setHealth c x).pending = s.pending ∧
    (s.setHealth c x).draws = s.draws := by
  unfold State.setHealth; and_intros <;> (try simp only []) <;> (repeat' split) <;> simp

@[simp] theorem State.takeReply_frame (s : State) (id : CanId) (data : List Byte) :
    (s.takeReply id data).part = s.part ∧ (s.takeReply id data).node = s.node ∧
    (s.takeReply id data).rate = s.rate ∧ (s.takeReply id data).active = s.active ∧
    (s.takeReply id data).shadow = s.shadow ∧ (s.takeReply id data).marks = s.marks ∧
    (s.takeReply id data).engine = s.engine ∧ (s.takeReply id data).vehicle = s.vehicle ∧
    (s.takeReply id data).climate = s.climate ∧ (s.takeReply id data).responses = s.responses ∧
    (s.takeReply id data).acks = s.acks ∧ (s.takeReply id data).panelStatus = s.panelStatus ∧
    (s.takeReply id data).slots = s.slots ∧ (s.takeReply id data).zones = s.zones ∧
    (s.takeReply id data).coolers = s.coolers ∧ (s.takeReply id data).doors = s.doors ∧
    (s.takeReply id data).groupMask = s.groupMask ∧ (s.takeReply id data).loads = s.loads ∧
    (s.takeReply id data).markHigh = s.markHigh ∧ (s.takeReply id data).screen = s.screen ∧
    (s.takeReply id data).overrides = s.overrides ∧ (s.takeReply id data).alloc = s.alloc ∧
    (s.takeReply id data).sources = s.sources ∧ (s.takeReply id data).pending = s.pending ∧
    (s.takeReply id data).sources = s.sources ∧ (s.takeReply id data).draws = s.draws := by
  unfold State.takeReply; split
  · simp
  · and_intros <;> apply forEach_keeps <;> intro i t <;> (repeat' split) <;> simp

/-! ### The power allocator (chapter 7) -/

@[simp] theorem State.deliver_frame (s : State) (claims : Vector Claim 20) :
    (s.deliver claims).part = s.part ∧ (s.deliver claims).node = s.node ∧ (s.deliver claims).rate = s.rate ∧
    (s.deliver claims).active = s.active ∧ (s.deliver claims).shadow = s.shadow ∧
    (s.deliver claims).marks = s.marks ∧ (s.deliver claims).engine = s.engine ∧
    (s.deliver claims).flags = s.flags ∧ (s.deliver claims).vehicle = s.vehicle ∧
    (s.deliver claims).climate = s.climate ∧ (s.deliver claims).responses = s.responses ∧
    (s.deliver claims).acks = s.acks ∧ (s.deliver claims).panelStatus = s.panelStatus ∧
    (s.deliver claims).slots = s.slots ∧ (s.deliver claims).zones = s.zones ∧
    (s.deliver claims).coolers = s.coolers ∧ (s.deliver claims).doors = s.doors ∧
    (s.deliver claims).groupMask = s.groupMask ∧ (s.deliver claims).loads = s.loads ∧
    (s.deliver claims).markHigh = s.markHigh ∧ (s.deliver claims).screen = s.screen ∧
    (s.deliver claims).overrides = s.overrides ∧ (s.deliver claims).sources = s.sources ∧
    (s.deliver claims).channels = s.channels ∧ (s.deliver claims).pending = s.pending ∧
    (s.deliver claims).channels = s.channels ∧ (s.deliver claims).draws = s.draws := by
  unfold State.deliver; and_intros <;> (try simp only []) <;> (repeat' split) <;> simp

@[simp] theorem State.recompute_frame (s : State) (fall : Bool) :
    (s.recompute fall).part = s.part ∧ (s.recompute fall).node = s.node ∧ (s.recompute fall).rate = s.rate ∧
    (s.recompute fall).active = s.active ∧ (s.recompute fall).shadow = s.shadow ∧
    (s.recompute fall).marks = s.marks ∧ (s.recompute fall).engine = s.engine ∧
    (s.recompute fall).vehicle = s.vehicle ∧ (s.recompute fall).climate = s.climate ∧
    (s.recompute fall).responses = s.responses ∧ (s.recompute fall).acks = s.acks ∧
    (s.recompute fall).panelStatus = s.panelStatus ∧ (s.recompute fall).slots = s.slots ∧
    (s.recompute fall).zones = s.zones ∧ (s.recompute fall).coolers = s.coolers ∧
    (s.recompute fall).doors = s.doors ∧ (s.recompute fall).groupMask = s.groupMask ∧
    (s.recompute fall).loads = s.loads ∧ (s.recompute fall).markHigh = s.markHigh ∧
    (s.recompute fall).screen = s.screen ∧ (s.recompute fall).overrides = s.overrides ∧
    (s.recompute fall).sources = s.sources ∧ (s.recompute fall).channels = s.channels ∧
    (s.recompute fall).pending = s.pending ∧
    (s.recompute fall).draws = s.draws := by
  unfold State.recompute; and_intros <;> (try simp only []) <;> (repeat' split) <;> simp

@[simp] theorem State.clearGrants_frame (s : State) :
    (s.clearGrants).part = s.part ∧ (s.clearGrants).node = s.node ∧ (s.clearGrants).rate = s.rate ∧
    (s.clearGrants).active = s.active ∧ (s.clearGrants).shadow = s.shadow ∧ (s.clearGrants).marks = s.marks ∧
    (s.clearGrants).engine = s.engine ∧ (s.clearGrants).flags = s.flags ∧ (s.clearGrants).vehicle = s.vehicle ∧
    (s.clearGrants).climate = s.climate ∧ (s.clearGrants).responses = s.responses ∧ (s.clearGrants).acks = s.acks ∧
    (s.clearGrants).panelStatus = s.panelStatus ∧ (s.clearGrants).slots = s.slots ∧
    (s.clearGrants).zones = s.zones ∧ (s.clearGrants).coolers = s.coolers ∧ (s.clearGrants).doors = s.doors ∧
    (s.clearGrants).groupMask = s.groupMask ∧ (s.clearGrants).loads = s.loads ∧
    (s.clearGrants).markHigh = s.markHigh ∧ (s.clearGrants).screen = s.screen ∧
    (s.clearGrants).overrides = s.overrides ∧ (s.clearGrants).sources = s.sources ∧
    (s.clearGrants).channels = s.channels ∧ (s.clearGrants).pending = s.pending ∧
    (s.clearGrants).channels = s.channels ∧ (s.clearGrants).draws = s.draws := by
  unfold State.clearGrants; and_intros <;> (try simp only []) <;> (repeat' split) <;> simp

@[simp] theorem State.updateCapacity_frame (s : State) (c : Fin 20) :
    (s.updateCapacity c).part = s.part ∧ (s.updateCapacity c).node = s.node ∧ (s.updateCapacity c).rate = s.rate ∧
    (s.updateCapacity c).active = s.active ∧ (s.updateCapacity c).shadow = s.shadow ∧
    (s.updateCapacity c).marks = s.marks ∧ (s.updateCapacity c).engine = s.engine ∧
    (s.updateCapacity c).flags = s.flags ∧ (s.updateCapacity c).vehicle = s.vehicle ∧
    (s.updateCapacity c).climate = s.climate ∧ (s.updateCapacity c).responses = s.responses ∧
    (s.updateCapacity c).acks = s.acks ∧ (s.updateCapacity c).panelStatus = s.panelStatus ∧
    (s.updateCapacity c).slots = s.slots ∧ (s.updateCapacity c).zones = s.zones ∧
    (s.updateCapacity c).coolers = s.coolers ∧ (s.updateCapacity c).doors = s.doors ∧
    (s.updateCapacity c).groupMask = s.groupMask ∧ (s.updateCapacity c).loads = s.loads ∧
    (s.updateCapacity c).markHigh = s.markHigh ∧ (s.updateCapacity c).screen = s.screen ∧
    (s.updateCapacity c).overrides = s.overrides ∧ (s.updateCapacity c).sources = s.sources ∧
    (s.updateCapacity c).inFlight = s.inFlight ∧ (s.updateCapacity c).pending = s.pending ∧
    (s.updateCapacity c).inFlight = s.inFlight ∧ (s.updateCapacity c).draws = s.draws := by
  unfold State.updateCapacity; and_intros <;> (try simp only []) <;> (repeat' split) <;> simp

@[simp] theorem State.updateCapacities_frame (s : State) (cs : List (Fin 20)) :
    (s.updateCapacities cs).part = s.part ∧ (s.updateCapacities cs).node = s.node ∧
    (s.updateCapacities cs).rate = s.rate ∧ (s.updateCapacities cs).active = s.active ∧
    (s.updateCapacities cs).shadow = s.shadow ∧ (s.updateCapacities cs).marks = s.marks ∧
    (s.updateCapacities cs).engine = s.engine ∧ (s.updateCapacities cs).flags = s.flags ∧
    (s.updateCapacities cs).vehicle = s.vehicle ∧ (s.updateCapacities cs).climate = s.climate ∧
    (s.updateCapacities cs).responses = s.responses ∧ (s.updateCapacities cs).acks = s.acks ∧
    (s.updateCapacities cs).panelStatus = s.panelStatus ∧ (s.updateCapacities cs).slots = s.slots ∧
    (s.updateCapacities cs).zones = s.zones ∧ (s.updateCapacities cs).coolers = s.coolers ∧
    (s.updateCapacities cs).doors = s.doors ∧ (s.updateCapacities cs).groupMask = s.groupMask ∧
    (s.updateCapacities cs).loads = s.loads ∧ (s.updateCapacities cs).markHigh = s.markHigh ∧
    (s.updateCapacities cs).screen = s.screen ∧ (s.updateCapacities cs).overrides = s.overrides ∧
    (s.updateCapacities cs).sources = s.sources ∧ (s.updateCapacities cs).inFlight = s.inFlight ∧
    (s.updateCapacities cs).pending = s.pending ∧
    (s.updateCapacities cs).draws = s.draws := by
  unfold State.updateCapacities; and_intros <;> apply foldl_keeps <;> intro t a <;> (try simp only []) <;> (repeat' split) <;> simp

@[simp] theorem State.refreshCapacities_frame (s : State) (cs : List (Fin 20)) (also : Bool) :
    (s.refreshCapacities cs also).part = s.part ∧ (s.refreshCapacities cs also).node = s.node ∧
    (s.refreshCapacities cs also).rate = s.rate ∧ (s.refreshCapacities cs also).active = s.active ∧
    (s.refreshCapacities cs also).shadow = s.shadow ∧ (s.refreshCapacities cs also).marks = s.marks ∧
    (s.refreshCapacities cs also).engine = s.engine ∧ (s.refreshCapacities cs also).vehicle = s.vehicle ∧
    (s.refreshCapacities cs also).climate = s.climate ∧ (s.refreshCapacities cs also).responses = s.responses ∧
    (s.refreshCapacities cs also).acks = s.acks ∧ (s.refreshCapacities cs also).panelStatus = s.panelStatus ∧
    (s.refreshCapacities cs also).slots = s.slots ∧ (s.refreshCapacities cs also).zones = s.zones ∧
    (s.refreshCapacities cs also).coolers = s.coolers ∧ (s.refreshCapacities cs also).doors = s.doors ∧
    (s.refreshCapacities cs also).groupMask = s.groupMask ∧ (s.refreshCapacities cs also).loads = s.loads ∧
    (s.refreshCapacities cs also).markHigh = s.markHigh ∧ (s.refreshCapacities cs also).screen = s.screen ∧
    (s.refreshCapacities cs also).overrides = s.overrides ∧ (s.refreshCapacities cs also).sources = s.sources ∧
    (s.refreshCapacities cs also).pending = s.pending ∧
    (s.refreshCapacities cs also).draws = s.draws := by
  unfold State.refreshCapacities; and_intros <;> (try simp only []) <;> (repeat' split) <;> simp

@[simp] theorem State.retarget_frame (s : State) :
    (s.retarget).part = s.part ∧ (s.retarget).node = s.node ∧ (s.retarget).rate = s.rate ∧
    (s.retarget).active = s.active ∧ (s.retarget).shadow = s.shadow ∧ (s.retarget).marks = s.marks ∧
    (s.retarget).engine = s.engine ∧ (s.retarget).vehicle = s.vehicle ∧ (s.retarget).climate = s.climate ∧
    (s.retarget).responses = s.responses ∧ (s.retarget).acks = s.acks ∧ (s.retarget).panelStatus = s.panelStatus ∧
    (s.retarget).slots = s.slots ∧ (s.retarget).zones = s.zones ∧ (s.retarget).coolers = s.coolers ∧
    (s.retarget).doors = s.doors ∧ (s.retarget).groupMask = s.groupMask ∧ (s.retarget).loads = s.loads ∧
    (s.retarget).markHigh = s.markHigh ∧ (s.retarget).screen = s.screen ∧ (s.retarget).overrides = s.overrides ∧
    (s.retarget).sources = s.sources ∧ (s.retarget).channels = s.channels ∧ (s.retarget).pending = s.pending ∧
    (s.retarget).sources = s.sources ∧ (s.retarget).channels = s.channels ∧ (s.retarget).draws = s.draws := by
  unfold State.retarget; and_intros <;> (try simp only []) <;> (repeat' split) <;> simp

@[simp] theorem State.repool_frame (s : State) :
    (s.repool).part = s.part ∧ (s.repool).node = s.node ∧ (s.repool).rate = s.rate ∧ (s.repool).active = s.active ∧
    (s.repool).shadow = s.shadow ∧ (s.repool).marks = s.marks ∧ (s.repool).engine = s.engine ∧
    (s.repool).vehicle = s.vehicle ∧ (s.repool).climate = s.climate ∧ (s.repool).responses = s.responses ∧
    (s.repool).acks = s.acks ∧ (s.repool).panelStatus = s.panelStatus ∧ (s.repool).slots = s.slots ∧
    (s.repool).zones = s.zones ∧ (s.repool).coolers = s.coolers ∧ (s.repool).doors = s.doors ∧
    (s.repool).groupMask = s.groupMask ∧ (s.repool).loads = s.loads ∧ (s.repool).markHigh = s.markHigh ∧
    (s.repool).screen = s.screen ∧ (s.repool).overrides = s.overrides ∧ (s.repool).sources = s.sources ∧
    (s.repool).channels = s.channels ∧ (s.repool).pending = s.pending ∧
    (s.repool).channels = s.channels ∧ (s.repool).draws = s.draws := by
  unfold State.repool; and_intros <;> (try simp only []) <;> (repeat' split) <;> simp

@[simp] theorem State.rampStep_frame (s : State) :
    (s.rampStep).part = s.part ∧ (s.rampStep).node = s.node ∧ (s.rampStep).rate = s.rate ∧
    (s.rampStep).active = s.active ∧ (s.rampStep).shadow = s.shadow ∧ (s.rampStep).marks = s.marks ∧
    (s.rampStep).engine = s.engine ∧ (s.rampStep).vehicle = s.vehicle ∧ (s.rampStep).climate = s.climate ∧
    (s.rampStep).responses = s.responses ∧ (s.rampStep).acks = s.acks ∧ (s.rampStep).panelStatus = s.panelStatus ∧
    (s.rampStep).slots = s.slots ∧ (s.rampStep).zones = s.zones ∧ (s.rampStep).coolers = s.coolers ∧
    (s.rampStep).doors = s.doors ∧ (s.rampStep).groupMask = s.groupMask ∧ (s.rampStep).loads = s.loads ∧
    (s.rampStep).markHigh = s.markHigh ∧ (s.rampStep).screen = s.screen ∧ (s.rampStep).overrides = s.overrides ∧
    (s.rampStep).sources = s.sources ∧ (s.rampStep).channels = s.channels ∧ (s.rampStep).pending = s.pending ∧
    (s.rampStep).sources = s.sources ∧ (s.rampStep).channels = s.channels ∧ (s.rampStep).draws = s.draws := by
  unfold State.rampStep; and_intros <;> (try simp only []) <;> (repeat' split) <;> simp

@[simp] theorem State.setLine_frame (s : State) (l : LineState) :
    (s.setLine l).part = s.part ∧ (s.setLine l).node = s.node ∧ (s.setLine l).rate = s.rate ∧
    (s.setLine l).active = s.active ∧ (s.setLine l).shadow = s.shadow ∧ (s.setLine l).marks = s.marks ∧
    (s.setLine l).engine = s.engine ∧ (s.setLine l).vehicle = s.vehicle ∧ (s.setLine l).climate = s.climate ∧
    (s.setLine l).responses = s.responses ∧ (s.setLine l).acks = s.acks ∧
    (s.setLine l).panelStatus = s.panelStatus ∧ (s.setLine l).slots = s.slots ∧ (s.setLine l).zones = s.zones ∧
    (s.setLine l).coolers = s.coolers ∧ (s.setLine l).doors = s.doors ∧ (s.setLine l).groupMask = s.groupMask ∧
    (s.setLine l).loads = s.loads ∧ (s.setLine l).markHigh = s.markHigh ∧ (s.setLine l).screen = s.screen ∧
    (s.setLine l).overrides = s.overrides ∧ (s.setLine l).sources = s.sources ∧
    (s.setLine l).channels = s.channels ∧ (s.setLine l).pending = s.pending ∧
    (s.setLine l).channels = s.channels ∧ (s.setLine l).draws = s.draws := by
  unfold State.setLine; and_intros <;> (try simp only []) <;> (repeat' split) <;> simp

/-! ### The slot store (section 1.4) -/

@[simp] theorem State.notify_frame (s : State) (n : SlotNote) :
    (s.notify n).part = s.part ∧ (s.notify n).node = s.node ∧ (s.notify n).rate = s.rate ∧
    (s.notify n).active = s.active ∧ (s.notify n).shadow = s.shadow ∧ (s.notify n).marks = s.marks ∧
    (s.notify n).engine = s.engine ∧ (s.notify n).flags = s.flags ∧ (s.notify n).vehicle = s.vehicle ∧
    (s.notify n).climate = s.climate ∧ (s.notify n).responses = s.responses ∧ (s.notify n).acks = s.acks ∧
    (s.notify n).panelStatus = s.panelStatus ∧ (s.notify n).slots = s.slots ∧ (s.notify n).zones = s.zones ∧
    (s.notify n).coolers = s.coolers ∧ (s.notify n).doors = s.doors ∧ (s.notify n).groupMask = s.groupMask ∧
    (s.notify n).loads = s.loads ∧ (s.notify n).markHigh = s.markHigh ∧ (s.notify n).screen = s.screen ∧
    (s.notify n).overrides = s.overrides ∧ (s.notify n).alloc = s.alloc ∧ (s.notify n).sources = s.sources ∧
    (s.notify n).channels = s.channels ∧ (s.notify n).pending = s.pending ∧
    (s.notify n).channels = s.channels ∧ (s.notify n).draws = s.draws := by
  unfold State.notify; and_intros <;> (try simp only []) <;> (repeat' split) <;> simp

@[simp] theorem State.slotArrival_frame (s : State) (i : Fin 64) (v : Int) :
    (s.slotArrival i v).part = s.part ∧ (s.slotArrival i v).node = s.node ∧ (s.slotArrival i v).rate = s.rate ∧
    (s.slotArrival i v).active = s.active ∧ (s.slotArrival i v).shadow = s.shadow ∧
    (s.slotArrival i v).marks = s.marks ∧ (s.slotArrival i v).engine = s.engine ∧
    (s.slotArrival i v).flags = s.flags ∧ (s.slotArrival i v).vehicle = s.vehicle ∧
    (s.slotArrival i v).climate = s.climate ∧ (s.slotArrival i v).responses = s.responses ∧
    (s.slotArrival i v).acks = s.acks ∧ (s.slotArrival i v).panelStatus = s.panelStatus ∧
    (s.slotArrival i v).zones = s.zones ∧ (s.slotArrival i v).coolers = s.coolers ∧
    (s.slotArrival i v).doors = s.doors ∧ (s.slotArrival i v).groupMask = s.groupMask ∧
    (s.slotArrival i v).loads = s.loads ∧ (s.slotArrival i v).markHigh = s.markHigh ∧
    (s.slotArrival i v).screen = s.screen ∧ (s.slotArrival i v).overrides = s.overrides ∧
    (s.slotArrival i v).alloc = s.alloc ∧ (s.slotArrival i v).sources = s.sources ∧
    (s.slotArrival i v).channels = s.channels ∧ (s.slotArrival i v).pending = s.pending ∧
    (s.slotArrival i v).channels = s.channels ∧ (s.slotArrival i v).draws = s.draws := by
  unfold State.slotArrival; and_intros <;> (try simp only []) <;> (repeat' split) <;> simp

@[simp] theorem State.substitute_frame (s : State) (i : Fin 64) :
    (s.substitute i).part = s.part ∧ (s.substitute i).node = s.node ∧ (s.substitute i).rate = s.rate ∧
    (s.substitute i).active = s.active ∧ (s.substitute i).shadow = s.shadow ∧ (s.substitute i).marks = s.marks ∧
    (s.substitute i).engine = s.engine ∧ (s.substitute i).vehicle = s.vehicle ∧
    (s.substitute i).climate = s.climate ∧ (s.substitute i).responses = s.responses ∧
    (s.substitute i).acks = s.acks ∧ (s.substitute i).panelStatus = s.panelStatus ∧
    (s.substitute i).zones = s.zones ∧ (s.substitute i).coolers = s.coolers ∧ (s.substitute i).doors = s.doors ∧
    (s.substitute i).groupMask = s.groupMask ∧ (s.substitute i).loads = s.loads ∧
    (s.substitute i).markHigh = s.markHigh ∧ (s.substitute i).screen = s.screen ∧
    (s.substitute i).overrides = s.overrides ∧ (s.substitute i).alloc = s.alloc ∧
    (s.substitute i).sources = s.sources ∧ (s.substitute i).channels = s.channels ∧
    (s.substitute i).pending = s.pending ∧
    (s.substitute i).draws = s.draws := by
  unfold State.substitute; and_intros <;> (try simp only []) <;> (repeat' split) <;> simp

@[simp] theorem State.freshExpiry_frame (s : State) (i : Fin 64) :
    (s.freshExpiry i).part = s.part ∧ (s.freshExpiry i).node = s.node ∧ (s.freshExpiry i).rate = s.rate ∧
    (s.freshExpiry i).active = s.active ∧ (s.freshExpiry i).shadow = s.shadow ∧ (s.freshExpiry i).marks = s.marks ∧
    (s.freshExpiry i).engine = s.engine ∧ (s.freshExpiry i).vehicle = s.vehicle ∧
    (s.freshExpiry i).climate = s.climate ∧ (s.freshExpiry i).responses = s.responses ∧
    (s.freshExpiry i).acks = s.acks ∧ (s.freshExpiry i).panelStatus = s.panelStatus ∧
    (s.freshExpiry i).zones = s.zones ∧ (s.freshExpiry i).coolers = s.coolers ∧ (s.freshExpiry i).doors = s.doors ∧
    (s.freshExpiry i).groupMask = s.groupMask ∧ (s.freshExpiry i).loads = s.loads ∧
    (s.freshExpiry i).markHigh = s.markHigh ∧ (s.freshExpiry i).screen = s.screen ∧
    (s.freshExpiry i).overrides = s.overrides ∧ (s.freshExpiry i).alloc = s.alloc ∧
    (s.freshExpiry i).sources = s.sources ∧ (s.freshExpiry i).channels = s.channels ∧
    (s.freshExpiry i).pending = s.pending ∧
    (s.freshExpiry i).draws = s.draws := by
  unfold State.freshExpiry; and_intros <;> (try simp only []) <;> (repeat' split) <;> simp

@[simp] theorem State.holdExpiry_frame (s : State) (i : Fin 64) :
    (s.holdExpiry i).part = s.part ∧ (s.holdExpiry i).node = s.node ∧ (s.holdExpiry i).rate = s.rate ∧
    (s.holdExpiry i).active = s.active ∧ (s.holdExpiry i).shadow = s.shadow ∧ (s.holdExpiry i).marks = s.marks ∧
    (s.holdExpiry i).engine = s.engine ∧ (s.holdExpiry i).vehicle = s.vehicle ∧
    (s.holdExpiry i).climate = s.climate ∧ (s.holdExpiry i).responses = s.responses ∧
    (s.holdExpiry i).acks = s.acks ∧ (s.holdExpiry i).panelStatus = s.panelStatus ∧
    (s.holdExpiry i).zones = s.zones ∧ (s.holdExpiry i).coolers = s.coolers ∧ (s.holdExpiry i).doors = s.doors ∧
    (s.holdExpiry i).groupMask = s.groupMask ∧ (s.holdExpiry i).loads = s.loads ∧
    (s.holdExpiry i).markHigh = s.markHigh ∧ (s.holdExpiry i).screen = s.screen ∧
    (s.holdExpiry i).overrides = s.overrides ∧ (s.holdExpiry i).alloc = s.alloc ∧
    (s.holdExpiry i).sources = s.sources ∧ (s.holdExpiry i).channels = s.channels ∧
    (s.holdExpiry i).pending = s.pending ∧
    (s.holdExpiry i).draws = s.draws := by
  unfold State.holdExpiry; and_intros <;> (try simp only []) <;> (repeat' split) <;> simp

/-! ### The load counter (chapter 4) -/

@[simp] theorem State.countEvent_frame (s : State) (k : Fin 3) (change : Int) :
    (s.countEvent k change).part = s.part ∧ (s.countEvent k change).node = s.node ∧
    (s.countEvent k change).rate = s.rate ∧ (s.countEvent k change).active = s.active ∧
    (s.countEvent k change).shadow = s.shadow ∧ (s.countEvent k change).marks = s.marks ∧
    (s.countEvent k change).engine = s.engine ∧ (s.countEvent k change).vehicle = s.vehicle ∧
    (s.countEvent k change).climate = s.climate ∧ (s.countEvent k change).responses = s.responses ∧
    (s.countEvent k change).acks = s.acks ∧ (s.countEvent k change).panelStatus = s.panelStatus ∧
    (s.countEvent k change).slots = s.slots ∧ (s.countEvent k change).zones = s.zones ∧
    (s.countEvent k change).coolers = s.coolers ∧ (s.countEvent k change).doors = s.doors ∧
    (s.countEvent k change).groupMask = s.groupMask ∧ (s.countEvent k change).markHigh = s.markHigh ∧
    (s.countEvent k change).screen = s.screen ∧ (s.countEvent k change).overrides = s.overrides ∧
    (s.countEvent k change).alloc = s.alloc ∧ (s.countEvent k change).sources = s.sources ∧
    (s.countEvent k change).channels = s.channels ∧ (s.countEvent k change).inFlight = s.inFlight ∧
    (s.countEvent k change).pending = s.pending ∧
    (s.countEvent k change).draws = s.draws := by
  unfold State.countEvent; and_intros <;> (try simp only []) <;> (repeat' split) <;> simp

@[simp] theorem State.terminusReset_frame (s : State) (k : Fin 3) :
    (s.terminusReset k).part = s.part ∧ (s.terminusReset k).node = s.node ∧ (s.terminusReset k).rate = s.rate ∧
    (s.terminusReset k).active = s.active ∧ (s.terminusReset k).shadow = s.shadow ∧
    (s.terminusReset k).marks = s.marks ∧ (s.terminusReset k).engine = s.engine ∧
    (s.terminusReset k).flags = s.flags ∧ (s.terminusReset k).vehicle = s.vehicle ∧
    (s.terminusReset k).climate = s.climate ∧ (s.terminusReset k).responses = s.responses ∧
    (s.terminusReset k).acks = s.acks ∧ (s.terminusReset k).panelStatus = s.panelStatus ∧
    (s.terminusReset k).slots = s.slots ∧ (s.terminusReset k).zones = s.zones ∧
    (s.terminusReset k).coolers = s.coolers ∧ (s.terminusReset k).doors = s.doors ∧
    (s.terminusReset k).groupMask = s.groupMask ∧ (s.terminusReset k).markHigh = s.markHigh ∧
    (s.terminusReset k).screen = s.screen ∧ (s.terminusReset k).overrides = s.overrides ∧
    (s.terminusReset k).alloc = s.alloc ∧ (s.terminusReset k).sources = s.sources ∧
    (s.terminusReset k).channels = s.channels ∧ (s.terminusReset k).inFlight = s.inFlight ∧
    (s.terminusReset k).pending = s.pending ∧
    (s.terminusReset k).draws = s.draws := by
  unfold State.terminusReset; and_intros <;> (try simp only []) <;> (repeat' split) <;> simp

@[simp] theorem State.terminusMark_frame (s : State) (n : SlotNote) :
    (s.terminusMark n).part = s.part ∧ (s.terminusMark n).node = s.node ∧ (s.terminusMark n).rate = s.rate ∧
    (s.terminusMark n).active = s.active ∧ (s.terminusMark n).shadow = s.shadow ∧
    (s.terminusMark n).marks = s.marks ∧ (s.terminusMark n).engine = s.engine ∧
    (s.terminusMark n).flags = s.flags ∧ (s.terminusMark n).vehicle = s.vehicle ∧
    (s.terminusMark n).climate = s.climate ∧ (s.terminusMark n).responses = s.responses ∧
    (s.terminusMark n).acks = s.acks ∧ (s.terminusMark n).panelStatus = s.panelStatus ∧
    (s.terminusMark n).slots = s.slots ∧ (s.terminusMark n).zones = s.zones ∧
    (s.terminusMark n).coolers = s.coolers ∧ (s.terminusMark n).doors = s.doors ∧
    (s.terminusMark n).groupMask = s.groupMask ∧ (s.terminusMark n).screen = s.screen ∧
    (s.terminusMark n).overrides = s.overrides ∧ (s.terminusMark n).alloc = s.alloc ∧
    (s.terminusMark n).sources = s.sources ∧ (s.terminusMark n).channels = s.channels ∧
    (s.terminusMark n).inFlight = s.inFlight ∧ (s.terminusMark n).pending = s.pending ∧
    (s.terminusMark n).inFlight = s.inFlight ∧ (s.terminusMark n).draws = s.draws := by
  unfold State.terminusMark; and_intros <;> refine (forEach_keeps _ _ _ fun i t => ?_).trans rfl <;> (repeat' split) <;> simp

@[simp] theorem State.setArm_frame (s : State) (armed : Bool) (k : Fin 3) :
    (s.setArm armed k).part = s.part ∧ (s.setArm armed k).node = s.node ∧ (s.setArm armed k).rate = s.rate ∧
    (s.setArm armed k).active = s.active ∧ (s.setArm armed k).shadow = s.shadow ∧
    (s.setArm armed k).marks = s.marks ∧ (s.setArm armed k).engine = s.engine ∧
    (s.setArm armed k).flags = s.flags ∧ (s.setArm armed k).vehicle = s.vehicle ∧
    (s.setArm armed k).climate = s.climate ∧ (s.setArm armed k).responses = s.responses ∧
    (s.setArm armed k).acks = s.acks ∧ (s.setArm armed k).panelStatus = s.panelStatus ∧
    (s.setArm armed k).slots = s.slots ∧ (s.setArm armed k).zones = s.zones ∧
    (s.setArm armed k).coolers = s.coolers ∧ (s.setArm armed k).doors = s.doors ∧
    (s.setArm armed k).groupMask = s.groupMask ∧ (s.setArm armed k).markHigh = s.markHigh ∧
    (s.setArm armed k).screen = s.screen ∧ (s.setArm armed k).overrides = s.overrides ∧
    (s.setArm armed k).alloc = s.alloc ∧ (s.setArm armed k).sources = s.sources ∧
    (s.setArm armed k).channels = s.channels ∧ (s.setArm armed k).inFlight = s.inFlight ∧
    (s.setArm armed k).pending = s.pending ∧
    (s.setArm armed k).draws = s.draws := by
  unfold State.setArm; and_intros <;> (try simp only []) <;> (repeat' split) <;> simp

@[simp] theorem State.dwellExpiry_frame (s : State) (k : Fin 3) :
    (s.dwellExpiry k).part = s.part ∧ (s.dwellExpiry k).node = s.node ∧ (s.dwellExpiry k).rate = s.rate ∧
    (s.dwellExpiry k).active = s.active ∧ (s.dwellExpiry k).shadow = s.shadow ∧ (s.dwellExpiry k).marks = s.marks ∧
    (s.dwellExpiry k).engine = s.engine ∧ (s.dwellExpiry k).flags = s.flags ∧
    (s.dwellExpiry k).vehicle = s.vehicle ∧ (s.dwellExpiry k).climate = s.climate ∧
    (s.dwellExpiry k).responses = s.responses ∧ (s.dwellExpiry k).acks = s.acks ∧
    (s.dwellExpiry k).panelStatus = s.panelStatus ∧ (s.dwellExpiry k).slots = s.slots ∧
    (s.dwellExpiry k).zones = s.zones ∧ (s.dwellExpiry k).coolers = s.coolers ∧ (s.dwellExpiry k).doors = s.doors ∧
    (s.dwellExpiry k).groupMask = s.groupMask ∧ (s.dwellExpiry k).markHigh = s.markHigh ∧
    (s.dwellExpiry k).screen = s.screen ∧ (s.dwellExpiry k).overrides = s.overrides ∧
    (s.dwellExpiry k).alloc = s.alloc ∧ (s.dwellExpiry k).sources = s.sources ∧
    (s.dwellExpiry k).channels = s.channels ∧ (s.dwellExpiry k).inFlight = s.inFlight ∧
    (s.dwellExpiry k).pending = s.pending ∧
    (s.dwellExpiry k).draws = s.draws := by
  unfold State.dwellExpiry; and_intros <;> (try simp only []) <;> (repeat' split) <;> simp

@[simp] theorem State.loadSet_frame (s : State) (k : Fin 3) (count : Nat) :
    (s.loadSet k count).part = s.part ∧ (s.loadSet k count).node = s.node ∧ (s.loadSet k count).rate = s.rate ∧
    (s.loadSet k count).active = s.active ∧ (s.loadSet k count).shadow = s.shadow ∧
    (s.loadSet k count).marks = s.marks ∧ (s.loadSet k count).engine = s.engine ∧
    (s.loadSet k count).flags = s.flags ∧ (s.loadSet k count).vehicle = s.vehicle ∧
    (s.loadSet k count).climate = s.climate ∧ (s.loadSet k count).responses = s.responses ∧
    (s.loadSet k count).acks = s.acks ∧ (s.loadSet k count).panelStatus = s.panelStatus ∧
    (s.loadSet k count).slots = s.slots ∧ (s.loadSet k count).zones = s.zones ∧
    (s.loadSet k count).coolers = s.coolers ∧ (s.loadSet k count).doors = s.doors ∧
    (s.loadSet k count).groupMask = s.groupMask ∧ (s.loadSet k count).markHigh = s.markHigh ∧
    (s.loadSet k count).screen = s.screen ∧ (s.loadSet k count).overrides = s.overrides ∧
    (s.loadSet k count).alloc = s.alloc ∧ (s.loadSet k count).sources = s.sources ∧
    (s.loadSet k count).channels = s.channels ∧ (s.loadSet k count).inFlight = s.inFlight ∧
    (s.loadSet k count).pending = s.pending ∧
    (s.loadSet k count).draws = s.draws := by
  unfold State.loadSet; and_intros <;> (try simp only []) <;> (repeat' split) <;> simp

/-! ### Cooling units (section 2.4) -/

@[simp] theorem State.runCooler_frame (s : State) (k : Fin 3) (f : CoolView → CoolRun → CoolRun) :
    (s.runCooler k f).part = s.part ∧ (s.runCooler k f).node = s.node ∧ (s.runCooler k f).rate = s.rate ∧
    (s.runCooler k f).active = s.active ∧ (s.runCooler k f).shadow = s.shadow ∧ (s.runCooler k f).marks = s.marks ∧
    (s.runCooler k f).engine = s.engine ∧ (s.runCooler k f).flags = s.flags ∧
    (s.runCooler k f).vehicle = s.vehicle ∧ (s.runCooler k f).climate = s.climate ∧
    (s.runCooler k f).responses = s.responses ∧ (s.runCooler k f).acks = s.acks ∧
    (s.runCooler k f).panelStatus = s.panelStatus ∧ (s.runCooler k f).slots = s.slots ∧
    (s.runCooler k f).zones = s.zones ∧ (s.runCooler k f).doors = s.doors ∧
    (s.runCooler k f).groupMask = s.groupMask ∧ (s.runCooler k f).loads = s.loads ∧
    (s.runCooler k f).markHigh = s.markHigh ∧ (s.runCooler k f).screen = s.screen ∧
    (s.runCooler k f).overrides = s.overrides ∧ (s.runCooler k f).alloc = s.alloc ∧
    (s.runCooler k f).sources = s.sources ∧ (s.runCooler k f).channels = s.channels ∧
    (s.runCooler k f).pending = s.pending ∧
    (s.runCooler k f).draws = s.draws := by
  unfold State.runCooler; and_intros <;> (try simp only []) <;> (repeat' split) <;> simp

@[simp] theorem State.coolersCompute_frame (s : State) :
    (s.coolersCompute).part = s.part ∧ (s.coolersCompute).node = s.node ∧ (s.coolersCompute).rate = s.rate ∧
    (s.coolersCompute).active = s.active ∧ (s.coolersCompute).shadow = s.shadow ∧
    (s.coolersCompute).marks = s.marks ∧ (s.coolersCompute).engine = s.engine ∧
    (s.coolersCompute).flags = s.flags ∧ (s.coolersCompute).vehicle = s.vehicle ∧
    (s.coolersCompute).climate = s.climate ∧ (s.coolersCompute).responses = s.responses ∧
    (s.coolersCompute).acks = s.acks ∧ (s.coolersCompute).panelStatus = s.panelStatus ∧
    (s.coolersCompute).slots = s.slots ∧ (s.coolersCompute).zones = s.zones ∧ (s.coolersCompute).doors = s.doors ∧
    (s.coolersCompute).groupMask = s.groupMask ∧ (s.coolersCompute).loads = s.loads ∧
    (s.coolersCompute).markHigh = s.markHigh ∧ (s.coolersCompute).screen = s.screen ∧
    (s.coolersCompute).overrides = s.overrides ∧ (s.coolersCompute).alloc = s.alloc ∧
    (s.coolersCompute).sources = s.sources ∧ (s.coolersCompute).channels = s.channels ∧
    (s.coolersCompute).pending = s.pending ∧
    (s.coolersCompute).draws = s.draws := by
  unfold State.coolersCompute; and_intros <;> apply forEach_keeps <;> intro i t <;> (try simp only []) <;> (repeat' split) <;> simp

@[simp] theorem State.recordQc_frame (s : State) (k : Fin 3) (z : Fin 8) (qc : Nat) :
    (s.recordQc k z qc).part = s.part ∧ (s.recordQc k z qc).node = s.node ∧ (s.recordQc k z qc).rate = s.rate ∧
    (s.recordQc k z qc).active = s.active ∧ (s.recordQc k z qc).shadow = s.shadow ∧
    (s.recordQc k z qc).marks = s.marks ∧ (s.recordQc k z qc).engine = s.engine ∧
    (s.recordQc k z qc).flags = s.flags ∧ (s.recordQc k z qc).vehicle = s.vehicle ∧
    (s.recordQc k z qc).climate = s.climate ∧ (s.recordQc k z qc).responses = s.responses ∧
    (s.recordQc k z qc).acks = s.acks ∧ (s.recordQc k z qc).panelStatus = s.panelStatus ∧
    (s.recordQc k z qc).slots = s.slots ∧ (s.recordQc k z qc).zones = s.zones ∧
    (s.recordQc k z qc).doors = s.doors ∧ (s.recordQc k z qc).groupMask = s.groupMask ∧
    (s.recordQc k z qc).loads = s.loads ∧ (s.recordQc k z qc).markHigh = s.markHigh ∧
    (s.recordQc k z qc).screen = s.screen ∧ (s.recordQc k z qc).overrides = s.overrides ∧
    (s.recordQc k z qc).alloc = s.alloc ∧ (s.recordQc k z qc).sources = s.sources ∧
    (s.recordQc k z qc).channels = s.channels ∧ (s.recordQc k z qc).inFlight = s.inFlight ∧
    (s.recordQc k z qc).pending = s.pending ∧
    (s.recordQc k z qc).draws = s.draws := by
  unfold State.recordQc; and_intros <;> (try simp only []) <;> (repeat' split) <;> simp

/-! ### The door unit (chapter 3) -/

@[simp] theorem State.finishDoor_frame (s : State) (d : Fin 8) (r : DoorRun) :
    (s.finishDoor d r).part = s.part ∧ (s.finishDoor d r).node = s.node ∧ (s.finishDoor d r).rate = s.rate ∧
    (s.finishDoor d r).active = s.active ∧ (s.finishDoor d r).shadow = s.shadow ∧
    (s.finishDoor d r).marks = s.marks ∧ (s.finishDoor d r).engine = s.engine ∧
    (s.finishDoor d r).vehicle = s.vehicle ∧ (s.finishDoor d r).climate = s.climate ∧
    (s.finishDoor d r).responses = s.responses ∧ (s.finishDoor d r).acks = s.acks ∧
    (s.finishDoor d r).panelStatus = s.panelStatus ∧ (s.finishDoor d r).slots = s.slots ∧
    (s.finishDoor d r).zones = s.zones ∧ (s.finishDoor d r).coolers = s.coolers ∧
    (s.finishDoor d r).groupMask = s.groupMask ∧ (s.finishDoor d r).loads = s.loads ∧
    (s.finishDoor d r).markHigh = s.markHigh ∧ (s.finishDoor d r).screen = s.screen ∧
    (s.finishDoor d r).overrides = s.overrides ∧ (s.finishDoor d r).alloc = s.alloc ∧
    (s.finishDoor d r).sources = s.sources ∧ (s.finishDoor d r).channels = s.channels ∧
    (s.finishDoor d r).pending = s.pending ∧
    (s.finishDoor d r).draws = s.draws := by
  unfold State.finishDoor; and_intros <;> (try simp only []) <;> (repeat' split) <;> simp

@[simp] theorem State.runDoor_frame (s : State) (d : Fin 8) (f : DoorView → DoorRun → DoorRun) :
    (s.runDoor d f).part = s.part ∧ (s.runDoor d f).node = s.node ∧ (s.runDoor d f).rate = s.rate ∧
    (s.runDoor d f).active = s.active ∧ (s.runDoor d f).shadow = s.shadow ∧ (s.runDoor d f).marks = s.marks ∧
    (s.runDoor d f).engine = s.engine ∧ (s.runDoor d f).vehicle = s.vehicle ∧ (s.runDoor d f).climate = s.climate ∧
    (s.runDoor d f).responses = s.responses ∧ (s.runDoor d f).acks = s.acks ∧
    (s.runDoor d f).panelStatus = s.panelStatus ∧ (s.runDoor d f).slots = s.slots ∧
    (s.runDoor d f).zones = s.zones ∧ (s.runDoor d f).coolers = s.coolers ∧
    (s.runDoor d f).groupMask = s.groupMask ∧ (s.runDoor d f).loads = s.loads ∧
    (s.runDoor d f).markHigh = s.markHigh ∧ (s.runDoor d f).screen = s.screen ∧
    (s.runDoor d f).overrides = s.overrides ∧ (s.runDoor d f).alloc = s.alloc ∧
    (s.runDoor d f).sources = s.sources ∧ (s.runDoor d f).channels = s.channels ∧
    (s.runDoor d f).pending = s.pending ∧
    (s.runDoor d f).draws = s.draws := by
  unfold State.runDoor; and_intros <;> (try simp only []) <;> (repeat' split) <;> simp

@[simp] theorem State.doorNote_frame (s : State) (d : Fin 8) (n : SlotNote) :
    (s.doorNote d n).part = s.part ∧ (s.doorNote d n).node = s.node ∧ (s.doorNote d n).rate = s.rate ∧
    (s.doorNote d n).active = s.active ∧ (s.doorNote d n).shadow = s.shadow ∧ (s.doorNote d n).marks = s.marks ∧
    (s.doorNote d n).engine = s.engine ∧ (s.doorNote d n).vehicle = s.vehicle ∧
    (s.doorNote d n).climate = s.climate ∧ (s.doorNote d n).responses = s.responses ∧
    (s.doorNote d n).acks = s.acks ∧ (s.doorNote d n).panelStatus = s.panelStatus ∧
    (s.doorNote d n).slots = s.slots ∧ (s.doorNote d n).zones = s.zones ∧ (s.doorNote d n).coolers = s.coolers ∧
    (s.doorNote d n).groupMask = s.groupMask ∧ (s.doorNote d n).loads = s.loads ∧
    (s.doorNote d n).markHigh = s.markHigh ∧ (s.doorNote d n).screen = s.screen ∧
    (s.doorNote d n).overrides = s.overrides ∧ (s.doorNote d n).alloc = s.alloc ∧
    (s.doorNote d n).sources = s.sources ∧ (s.doorNote d n).channels = s.channels ∧
    (s.doorNote d n).pending = s.pending ∧
    (s.doorNote d n).draws = s.draws := by
  unfold State.doorNote; and_intros <;> (try simp only []) <;> (repeat' split) <;> simp

@[simp] theorem State.doorMask_frame (s : State) (d : Fin 8) (was byStop : Bool) :
    (s.doorMask d was byStop).part = s.part ∧ (s.doorMask d was byStop).node = s.node ∧
    (s.doorMask d was byStop).rate = s.rate ∧ (s.doorMask d was byStop).active = s.active ∧
    (s.doorMask d was byStop).shadow = s.shadow ∧ (s.doorMask d was byStop).marks = s.marks ∧
    (s.doorMask d was byStop).engine = s.engine ∧ (s.doorMask d was byStop).vehicle = s.vehicle ∧
    (s.doorMask d was byStop).climate = s.climate ∧ (s.doorMask d was byStop).responses = s.responses ∧
    (s.doorMask d was byStop).acks = s.acks ∧ (s.doorMask d was byStop).panelStatus = s.panelStatus ∧
    (s.doorMask d was byStop).slots = s.slots ∧ (s.doorMask d was byStop).zones = s.zones ∧
    (s.doorMask d was byStop).coolers = s.coolers ∧ (s.doorMask d was byStop).groupMask = s.groupMask ∧
    (s.doorMask d was byStop).loads = s.loads ∧ (s.doorMask d was byStop).markHigh = s.markHigh ∧
    (s.doorMask d was byStop).screen = s.screen ∧ (s.doorMask d was byStop).overrides = s.overrides ∧
    (s.doorMask d was byStop).alloc = s.alloc ∧ (s.doorMask d was byStop).sources = s.sources ∧
    (s.doorMask d was byStop).channels = s.channels ∧ (s.doorMask d was byStop).pending = s.pending ∧
    (s.doorMask d was byStop).channels = s.channels ∧ (s.doorMask d was byStop).draws = s.draws := by
  unfold State.doorMask; and_intros <;> (try simp only []) <;> (repeat' split) <;> simp

@[simp] theorem State.setServiceMask_frame (s : State) (b : Bool) (d : Fin 8) :
    (s.setServiceMask b d).part = s.part ∧ (s.setServiceMask b d).node = s.node ∧
    (s.setServiceMask b d).rate = s.rate ∧ (s.setServiceMask b d).active = s.active ∧
    (s.setServiceMask b d).shadow = s.shadow ∧ (s.setServiceMask b d).marks = s.marks ∧
    (s.setServiceMask b d).engine = s.engine ∧ (s.setServiceMask b d).vehicle = s.vehicle ∧
    (s.setServiceMask b d).climate = s.climate ∧ (s.setServiceMask b d).responses = s.responses ∧
    (s.setServiceMask b d).acks = s.acks ∧ (s.setServiceMask b d).panelStatus = s.panelStatus ∧
    (s.setServiceMask b d).slots = s.slots ∧ (s.setServiceMask b d).zones = s.zones ∧
    (s.setServiceMask b d).coolers = s.coolers ∧ (s.setServiceMask b d).groupMask = s.groupMask ∧
    (s.setServiceMask b d).loads = s.loads ∧ (s.setServiceMask b d).markHigh = s.markHigh ∧
    (s.setServiceMask b d).screen = s.screen ∧ (s.setServiceMask b d).overrides = s.overrides ∧
    (s.setServiceMask b d).alloc = s.alloc ∧ (s.setServiceMask b d).sources = s.sources ∧
    (s.setServiceMask b d).channels = s.channels ∧ (s.setServiceMask b d).pending = s.pending ∧
    (s.setServiceMask b d).channels = s.channels ∧ (s.setServiceMask b d).draws = s.draws := by
  unfold State.setServiceMask; and_intros <;> (try simp only []) <;> (repeat' split) <;> simp

@[simp] theorem State.maskNotice_frame (s : State) (target : Target) (b byStop : Bool) :
    (s.maskNotice target b byStop).part = s.part ∧ (s.maskNotice target b byStop).node = s.node ∧
    (s.maskNotice target b byStop).rate = s.rate ∧ (s.maskNotice target b byStop).active = s.active ∧
    (s.maskNotice target b byStop).shadow = s.shadow ∧ (s.maskNotice target b byStop).marks = s.marks ∧
    (s.maskNotice target b byStop).engine = s.engine ∧ (s.maskNotice target b byStop).vehicle = s.vehicle ∧
    (s.maskNotice target b byStop).climate = s.climate ∧ (s.maskNotice target b byStop).responses = s.responses ∧
    (s.maskNotice target b byStop).acks = s.acks ∧ (s.maskNotice target b byStop).panelStatus = s.panelStatus ∧
    (s.maskNotice target b byStop).slots = s.slots ∧ (s.maskNotice target b byStop).zones = s.zones ∧
    (s.maskNotice target b byStop).coolers = s.coolers ∧ (s.maskNotice target b byStop).loads = s.loads ∧
    (s.maskNotice target b byStop).markHigh = s.markHigh ∧ (s.maskNotice target b byStop).screen = s.screen ∧
    (s.maskNotice target b byStop).overrides = s.overrides ∧ (s.maskNotice target b byStop).alloc = s.alloc ∧
    (s.maskNotice target b byStop).sources = s.sources ∧ (s.maskNotice target b byStop).channels = s.channels ∧
    (s.maskNotice target b byStop).pending = s.pending ∧
    (s.maskNotice target b byStop).draws = s.draws := by
  unfold State.maskNotice; cases target
  · simp
  · and_intros <;> refine (forEach_keeps _ _ _ fun i t => ?_).trans rfl <;> simp

@[simp] theorem State.clearLatch_frame (s : State) (d : Fin 8) :
    (s.clearLatch d).part = s.part ∧ (s.clearLatch d).node = s.node ∧ (s.clearLatch d).rate = s.rate ∧
    (s.clearLatch d).active = s.active ∧ (s.clearLatch d).shadow = s.shadow ∧ (s.clearLatch d).marks = s.marks ∧
    (s.clearLatch d).engine = s.engine ∧ (s.clearLatch d).flags = s.flags ∧ (s.clearLatch d).vehicle = s.vehicle ∧
    (s.clearLatch d).climate = s.climate ∧ (s.clearLatch d).responses = s.responses ∧
    (s.clearLatch d).acks = s.acks ∧ (s.clearLatch d).panelStatus = s.panelStatus ∧
    (s.clearLatch d).slots = s.slots ∧ (s.clearLatch d).zones = s.zones ∧ (s.clearLatch d).coolers = s.coolers ∧
    (s.clearLatch d).groupMask = s.groupMask ∧ (s.clearLatch d).loads = s.loads ∧
    (s.clearLatch d).markHigh = s.markHigh ∧ (s.clearLatch d).screen = s.screen ∧
    (s.clearLatch d).overrides = s.overrides ∧ (s.clearLatch d).alloc = s.alloc ∧
    (s.clearLatch d).sources = s.sources ∧ (s.clearLatch d).channels = s.channels ∧
    (s.clearLatch d).inFlight = s.inFlight ∧ (s.clearLatch d).pending = s.pending ∧
    (s.clearLatch d).inFlight = s.inFlight ∧ (s.clearLatch d).draws = s.draws := by
  unfold State.clearLatch; and_intros <;> (try simp only []) <;> (repeat' split) <;> simp

@[simp] theorem State.countNote_frame (s : State) (d : Fin 8) (dir : CountDir) (n : SlotNote) :
    (s.countNote d dir n).part = s.part ∧ (s.countNote d dir n).node = s.node ∧
    (s.countNote d dir n).rate = s.rate ∧ (s.countNote d dir n).active = s.active ∧
    (s.countNote d dir n).shadow = s.shadow ∧ (s.countNote d dir n).marks = s.marks ∧
    (s.countNote d dir n).engine = s.engine ∧ (s.countNote d dir n).flags = s.flags ∧
    (s.countNote d dir n).vehicle = s.vehicle ∧ (s.countNote d dir n).climate = s.climate ∧
    (s.countNote d dir n).responses = s.responses ∧ (s.countNote d dir n).acks = s.acks ∧
    (s.countNote d dir n).panelStatus = s.panelStatus ∧ (s.countNote d dir n).slots = s.slots ∧
    (s.countNote d dir n).zones = s.zones ∧ (s.countNote d dir n).coolers = s.coolers ∧
    (s.countNote d dir n).doors = s.doors ∧ (s.countNote d dir n).groupMask = s.groupMask ∧
    (s.countNote d dir n).loads = s.loads ∧ (s.countNote d dir n).markHigh = s.markHigh ∧
    (s.countNote d dir n).screen = s.screen ∧ (s.countNote d dir n).overrides = s.overrides ∧
    (s.countNote d dir n).alloc = s.alloc ∧ (s.countNote d dir n).sources = s.sources ∧
    (s.countNote d dir n).channels = s.channels ∧ (s.countNote d dir n).pending = s.pending ∧
    (s.countNote d dir n).channels = s.channels ∧ (s.countNote d dir n).draws = s.draws := by
  unfold State.countNote; and_intros <;> (try simp only []) <;> (repeat' split) <;> simp

/-! ### The screen unit (chapter 5) -/

@[simp] theorem State.formFlap_frame (s : State) :
    (s.formFlap).part = s.part ∧ (s.formFlap).node = s.node ∧ (s.formFlap).rate = s.rate ∧
    (s.formFlap).active = s.active ∧ (s.formFlap).shadow = s.shadow ∧ (s.formFlap).marks = s.marks ∧
    (s.formFlap).engine = s.engine ∧ (s.formFlap).flags = s.flags ∧ (s.formFlap).vehicle = s.vehicle ∧
    (s.formFlap).climate = s.climate ∧ (s.formFlap).responses = s.responses ∧ (s.formFlap).acks = s.acks ∧
    (s.formFlap).panelStatus = s.panelStatus ∧ (s.formFlap).slots = s.slots ∧ (s.formFlap).zones = s.zones ∧
    (s.formFlap).coolers = s.coolers ∧ (s.formFlap).doors = s.doors ∧ (s.formFlap).groupMask = s.groupMask ∧
    (s.formFlap).loads = s.loads ∧ (s.formFlap).markHigh = s.markHigh ∧ (s.formFlap).overrides = s.overrides ∧
    (s.formFlap).alloc = s.alloc ∧ (s.formFlap).sources = s.sources ∧ (s.formFlap).channels = s.channels ∧
    (s.formFlap).pending = s.pending ∧
    (s.formFlap).draws = s.draws := by
  unfold State.formFlap; and_intros <;> (try simp only []) <;> (repeat' split) <;> simp

@[simp] theorem State.handStage_frame (s : State) :
    (s.handStage).part = s.part ∧ (s.handStage).node = s.node ∧ (s.handStage).rate = s.rate ∧
    (s.handStage).active = s.active ∧ (s.handStage).shadow = s.shadow ∧ (s.handStage).marks = s.marks ∧
    (s.handStage).engine = s.engine ∧ (s.handStage).flags = s.flags ∧ (s.handStage).vehicle = s.vehicle ∧
    (s.handStage).climate = s.climate ∧ (s.handStage).responses = s.responses ∧ (s.handStage).acks = s.acks ∧
    (s.handStage).panelStatus = s.panelStatus ∧ (s.handStage).slots = s.slots ∧ (s.handStage).zones = s.zones ∧
    (s.handStage).coolers = s.coolers ∧ (s.handStage).doors = s.doors ∧ (s.handStage).groupMask = s.groupMask ∧
    (s.handStage).loads = s.loads ∧ (s.handStage).markHigh = s.markHigh ∧ (s.handStage).overrides = s.overrides ∧
    (s.handStage).alloc = s.alloc ∧ (s.handStage).sources = s.sources ∧ (s.handStage).channels = s.channels ∧
    (s.handStage).pending = s.pending ∧
    (s.handStage).draws = s.draws := by
  unfold State.handStage; and_intros <;> (try simp only []) <;> (repeat' split) <;> simp

@[simp] theorem State.enterStage_frame (s : State) (stage : Stage) (dwell : Nat) :
    (s.enterStage stage dwell).part = s.part ∧ (s.enterStage stage dwell).node = s.node ∧
    (s.enterStage stage dwell).rate = s.rate ∧ (s.enterStage stage dwell).active = s.active ∧
    (s.enterStage stage dwell).shadow = s.shadow ∧ (s.enterStage stage dwell).marks = s.marks ∧
    (s.enterStage stage dwell).engine = s.engine ∧ (s.enterStage stage dwell).flags = s.flags ∧
    (s.enterStage stage dwell).vehicle = s.vehicle ∧ (s.enterStage stage dwell).climate = s.climate ∧
    (s.enterStage stage dwell).responses = s.responses ∧ (s.enterStage stage dwell).acks = s.acks ∧
    (s.enterStage stage dwell).panelStatus = s.panelStatus ∧ (s.enterStage stage dwell).slots = s.slots ∧
    (s.enterStage stage dwell).zones = s.zones ∧ (s.enterStage stage dwell).coolers = s.coolers ∧
    (s.enterStage stage dwell).doors = s.doors ∧ (s.enterStage stage dwell).groupMask = s.groupMask ∧
    (s.enterStage stage dwell).loads = s.loads ∧ (s.enterStage stage dwell).markHigh = s.markHigh ∧
    (s.enterStage stage dwell).overrides = s.overrides ∧ (s.enterStage stage dwell).alloc = s.alloc ∧
    (s.enterStage stage dwell).sources = s.sources ∧ (s.enterStage stage dwell).channels = s.channels ∧
    (s.enterStage stage dwell).pending = s.pending ∧
    (s.enterStage stage dwell).draws = s.draws := by
  unfold State.enterStage; and_intros <;> (try simp only []) <;> (repeat' split) <;> simp

@[simp] theorem State.setPointer_frame (s : State) (p : Option Nat) :
    (s.setPointer p).part = s.part ∧ (s.setPointer p).node = s.node ∧ (s.setPointer p).rate = s.rate ∧
    (s.setPointer p).active = s.active ∧ (s.setPointer p).shadow = s.shadow ∧ (s.setPointer p).marks = s.marks ∧
    (s.setPointer p).engine = s.engine ∧ (s.setPointer p).flags = s.flags ∧ (s.setPointer p).vehicle = s.vehicle ∧
    (s.setPointer p).climate = s.climate ∧ (s.setPointer p).responses = s.responses ∧
    (s.setPointer p).acks = s.acks ∧ (s.setPointer p).panelStatus = s.panelStatus ∧
    (s.setPointer p).slots = s.slots ∧ (s.setPointer p).zones = s.zones ∧ (s.setPointer p).coolers = s.coolers ∧
    (s.setPointer p).doors = s.doors ∧ (s.setPointer p).groupMask = s.groupMask ∧
    (s.setPointer p).loads = s.loads ∧ (s.setPointer p).markHigh = s.markHigh ∧
    (s.setPointer p).overrides = s.overrides ∧ (s.setPointer p).alloc = s.alloc ∧
    (s.setPointer p).sources = s.sources ∧ (s.setPointer p).channels = s.channels ∧
    (s.setPointer p).inFlight = s.inFlight ∧ (s.setPointer p).pending = s.pending ∧
    (s.setPointer p).inFlight = s.inFlight ∧ (s.setPointer p).draws = s.draws := by
  and_intros <;> rfl

@[simp] theorem State.evaluateStep_frame (s : State) (m : Int) :
    (s.evaluateStep m).part = s.part ∧ (s.evaluateStep m).node = s.node ∧ (s.evaluateStep m).rate = s.rate ∧
    (s.evaluateStep m).active = s.active ∧ (s.evaluateStep m).shadow = s.shadow ∧
    (s.evaluateStep m).marks = s.marks ∧ (s.evaluateStep m).engine = s.engine ∧
    (s.evaluateStep m).flags = s.flags ∧ (s.evaluateStep m).vehicle = s.vehicle ∧
    (s.evaluateStep m).climate = s.climate ∧ (s.evaluateStep m).responses = s.responses ∧
    (s.evaluateStep m).acks = s.acks ∧ (s.evaluateStep m).panelStatus = s.panelStatus ∧
    (s.evaluateStep m).slots = s.slots ∧ (s.evaluateStep m).zones = s.zones ∧
    (s.evaluateStep m).coolers = s.coolers ∧ (s.evaluateStep m).doors = s.doors ∧
    (s.evaluateStep m).groupMask = s.groupMask ∧ (s.evaluateStep m).loads = s.loads ∧
    (s.evaluateStep m).markHigh = s.markHigh ∧ (s.evaluateStep m).overrides = s.overrides ∧
    (s.evaluateStep m).alloc = s.alloc ∧ (s.evaluateStep m).sources = s.sources ∧
    (s.evaluateStep m).channels = s.channels ∧ (s.evaluateStep m).pending = s.pending ∧
    (s.evaluateStep m).channels = s.channels ∧ (s.evaluateStep m).draws = s.draws := by
  unfold State.evaluateStep; and_intros <;> (try simp only []) <;> (repeat' split) <;> simp

@[simp] theorem State.screenPassBody_frame (s : State) :
    (s.screenPassBody).part = s.part ∧ (s.screenPassBody).node = s.node ∧ (s.screenPassBody).rate = s.rate ∧
    (s.screenPassBody).active = s.active ∧ (s.screenPassBody).shadow = s.shadow ∧
    (s.screenPassBody).marks = s.marks ∧ (s.screenPassBody).engine = s.engine ∧
    (s.screenPassBody).flags = s.flags ∧ (s.screenPassBody).vehicle = s.vehicle ∧
    (s.screenPassBody).climate = s.climate ∧ (s.screenPassBody).responses = s.responses ∧
    (s.screenPassBody).acks = s.acks ∧ (s.screenPassBody).panelStatus = s.panelStatus ∧
    (s.screenPassBody).slots = s.slots ∧ (s.screenPassBody).zones = s.zones ∧
    (s.screenPassBody).coolers = s.coolers ∧ (s.screenPassBody).doors = s.doors ∧
    (s.screenPassBody).groupMask = s.groupMask ∧ (s.screenPassBody).loads = s.loads ∧
    (s.screenPassBody).markHigh = s.markHigh ∧ (s.screenPassBody).overrides = s.overrides ∧
    (s.screenPassBody).alloc = s.alloc ∧ (s.screenPassBody).sources = s.sources ∧
    (s.screenPassBody).channels = s.channels ∧ (s.screenPassBody).pending = s.pending ∧
    (s.screenPassBody).channels = s.channels ∧ (s.screenPassBody).draws = s.draws := by
  unfold State.screenPassBody; and_intros <;> (try simp only []) <;> (repeat' split) <;> simp

@[simp] theorem State.takeScreenPass_frame (s : State) :
    (s.takeScreenPass).part = s.part ∧ (s.takeScreenPass).node = s.node ∧ (s.takeScreenPass).rate = s.rate ∧
    (s.takeScreenPass).active = s.active ∧ (s.takeScreenPass).shadow = s.shadow ∧
    (s.takeScreenPass).marks = s.marks ∧ (s.takeScreenPass).engine = s.engine ∧
    (s.takeScreenPass).flags = s.flags ∧ (s.takeScreenPass).vehicle = s.vehicle ∧
    (s.takeScreenPass).climate = s.climate ∧ (s.takeScreenPass).responses = s.responses ∧
    (s.takeScreenPass).acks = s.acks ∧ (s.takeScreenPass).panelStatus = s.panelStatus ∧
    (s.takeScreenPass).slots = s.slots ∧ (s.takeScreenPass).zones = s.zones ∧
    (s.takeScreenPass).coolers = s.coolers ∧ (s.takeScreenPass).doors = s.doors ∧
    (s.takeScreenPass).groupMask = s.groupMask ∧ (s.takeScreenPass).loads = s.loads ∧
    (s.takeScreenPass).markHigh = s.markHigh ∧ (s.takeScreenPass).overrides = s.overrides ∧
    (s.takeScreenPass).alloc = s.alloc ∧ (s.takeScreenPass).sources = s.sources ∧
    (s.takeScreenPass).channels = s.channels ∧ (s.takeScreenPass).pending = s.pending ∧
    (s.takeScreenPass).channels = s.channels ∧ (s.takeScreenPass).draws = s.draws := by
  unfold State.takeScreenPass; and_intros <;> (try simp only []) <;> (repeat' split) <;> simp

@[simp] theorem State.maxEntry_frame (s : State) :
    (s.maxEntry).part = s.part ∧ (s.maxEntry).node = s.node ∧ (s.maxEntry).rate = s.rate ∧
    (s.maxEntry).active = s.active ∧ (s.maxEntry).shadow = s.shadow ∧ (s.maxEntry).marks = s.marks ∧
    (s.maxEntry).engine = s.engine ∧ (s.maxEntry).flags = s.flags ∧ (s.maxEntry).vehicle = s.vehicle ∧
    (s.maxEntry).climate = s.climate ∧ (s.maxEntry).responses = s.responses ∧ (s.maxEntry).acks = s.acks ∧
    (s.maxEntry).panelStatus = s.panelStatus ∧ (s.maxEntry).slots = s.slots ∧ (s.maxEntry).zones = s.zones ∧
    (s.maxEntry).coolers = s.coolers ∧ (s.maxEntry).doors = s.doors ∧ (s.maxEntry).groupMask = s.groupMask ∧
    (s.maxEntry).loads = s.loads ∧ (s.maxEntry).markHigh = s.markHigh ∧ (s.maxEntry).overrides = s.overrides ∧
    (s.maxEntry).alloc = s.alloc ∧ (s.maxEntry).sources = s.sources ∧ (s.maxEntry).channels = s.channels ∧
    (s.maxEntry).pending = s.pending ∧
    (s.maxEntry).draws = s.draws := by
  unfold State.maxEntry; and_intros <;> (try simp only []) <;> (repeat' split) <;> simp

@[simp] theorem State.leaveMax_frame (s : State) :
    (s.leaveMax).part = s.part ∧ (s.leaveMax).node = s.node ∧ (s.leaveMax).rate = s.rate ∧
    (s.leaveMax).active = s.active ∧ (s.leaveMax).shadow = s.shadow ∧ (s.leaveMax).marks = s.marks ∧
    (s.leaveMax).engine = s.engine ∧ (s.leaveMax).flags = s.flags ∧ (s.leaveMax).vehicle = s.vehicle ∧
    (s.leaveMax).climate = s.climate ∧ (s.leaveMax).responses = s.responses ∧ (s.leaveMax).acks = s.acks ∧
    (s.leaveMax).panelStatus = s.panelStatus ∧ (s.leaveMax).slots = s.slots ∧ (s.leaveMax).zones = s.zones ∧
    (s.leaveMax).coolers = s.coolers ∧ (s.leaveMax).doors = s.doors ∧ (s.leaveMax).groupMask = s.groupMask ∧
    (s.leaveMax).loads = s.loads ∧ (s.leaveMax).markHigh = s.markHigh ∧ (s.leaveMax).overrides = s.overrides ∧
    (s.leaveMax).alloc = s.alloc ∧ (s.leaveMax).sources = s.sources ∧ (s.leaveMax).channels = s.channels ∧
    (s.leaveMax).pending = s.pending ∧
    (s.leaveMax).draws = s.draws := by
  unfold State.leaveMax; and_intros <;> (try simp only []) <;> (repeat' split) <;> simp

@[simp] theorem State.maxDeparture_frame (s : State) :
    (s.maxDeparture).part = s.part ∧ (s.maxDeparture).node = s.node ∧ (s.maxDeparture).rate = s.rate ∧
    (s.maxDeparture).active = s.active ∧ (s.maxDeparture).shadow = s.shadow ∧ (s.maxDeparture).marks = s.marks ∧
    (s.maxDeparture).engine = s.engine ∧ (s.maxDeparture).flags = s.flags ∧ (s.maxDeparture).vehicle = s.vehicle ∧
    (s.maxDeparture).climate = s.climate ∧ (s.maxDeparture).responses = s.responses ∧
    (s.maxDeparture).acks = s.acks ∧ (s.maxDeparture).panelStatus = s.panelStatus ∧
    (s.maxDeparture).slots = s.slots ∧ (s.maxDeparture).zones = s.zones ∧ (s.maxDeparture).coolers = s.coolers ∧
    (s.maxDeparture).doors = s.doors ∧ (s.maxDeparture).groupMask = s.groupMask ∧
    (s.maxDeparture).loads = s.loads ∧ (s.maxDeparture).markHigh = s.markHigh ∧
    (s.maxDeparture).overrides = s.overrides ∧ (s.maxDeparture).alloc = s.alloc ∧
    (s.maxDeparture).sources = s.sources ∧ (s.maxDeparture).channels = s.channels ∧
    (s.maxDeparture).pending = s.pending ∧
    (s.maxDeparture).draws = s.draws := by
  unfold State.maxDeparture; and_intros <;> (try simp only []) <;> (repeat' split) <;> simp

@[simp] theorem State.movePointer_frame (s : State) :
    (s.movePointer).part = s.part ∧ (s.movePointer).node = s.node ∧ (s.movePointer).rate = s.rate ∧
    (s.movePointer).active = s.active ∧ (s.movePointer).shadow = s.shadow ∧ (s.movePointer).marks = s.marks ∧
    (s.movePointer).engine = s.engine ∧ (s.movePointer).flags = s.flags ∧ (s.movePointer).vehicle = s.vehicle ∧
    (s.movePointer).climate = s.climate ∧ (s.movePointer).responses = s.responses ∧ (s.movePointer).acks = s.acks ∧
    (s.movePointer).panelStatus = s.panelStatus ∧ (s.movePointer).slots = s.slots ∧
    (s.movePointer).zones = s.zones ∧ (s.movePointer).coolers = s.coolers ∧ (s.movePointer).doors = s.doors ∧
    (s.movePointer).groupMask = s.groupMask ∧ (s.movePointer).loads = s.loads ∧
    (s.movePointer).markHigh = s.markHigh ∧ (s.movePointer).overrides = s.overrides ∧
    (s.movePointer).alloc = s.alloc ∧ (s.movePointer).sources = s.sources ∧ (s.movePointer).channels = s.channels ∧
    (s.movePointer).inFlight = s.inFlight ∧ (s.movePointer).pending = s.pending ∧
    (s.movePointer).inFlight = s.inFlight ∧ (s.movePointer).draws = s.draws := by
  unfold State.movePointer; and_intros <;> (try simp only []) <;> (repeat' split) <;> simp

/-! ### The override unit (chapter 6) -/

@[simp] theorem State.removeRecords_frame (s : State) (gone : Record → Bool) :
    (s.removeRecords gone).part = s.part ∧ (s.removeRecords gone).node = s.node ∧
    (s.removeRecords gone).rate = s.rate ∧ (s.removeRecords gone).active = s.active ∧
    (s.removeRecords gone).shadow = s.shadow ∧ (s.removeRecords gone).marks = s.marks ∧
    (s.removeRecords gone).engine = s.engine ∧ (s.removeRecords gone).flags = s.flags ∧
    (s.removeRecords gone).vehicle = s.vehicle ∧ (s.removeRecords gone).climate = s.climate ∧
    (s.removeRecords gone).responses = s.responses ∧ (s.removeRecords gone).acks = s.acks ∧
    (s.removeRecords gone).panelStatus = s.panelStatus ∧ (s.removeRecords gone).slots = s.slots ∧
    (s.removeRecords gone).zones = s.zones ∧ (s.removeRecords gone).coolers = s.coolers ∧
    (s.removeRecords gone).doors = s.doors ∧ (s.removeRecords gone).groupMask = s.groupMask ∧
    (s.removeRecords gone).loads = s.loads ∧ (s.removeRecords gone).markHigh = s.markHigh ∧
    (s.removeRecords gone).screen = s.screen ∧ (s.removeRecords gone).alloc = s.alloc ∧
    (s.removeRecords gone).sources = s.sources ∧ (s.removeRecords gone).channels = s.channels ∧
    (s.removeRecords gone).pending = s.pending ∧
    (s.removeRecords gone).draws = s.draws := by
  unfold State.removeRecords; and_intros <;> (try simp only []) <;> (repeat' split) <;> simp

/-- What STOP's emptying of the override table leaves alone, and what it leaves of the rest (R80, R136). -/
@[simp] theorem State.emptyTable_frame (s : State) :
    (s.emptyTable).part = s.part ∧ (s.emptyTable).node = s.node ∧ (s.emptyTable).rate = s.rate ∧
    (s.emptyTable).active = s.active ∧ (s.emptyTable).shadow = s.shadow ∧ (s.emptyTable).marks = s.marks ∧
    (s.emptyTable).engine = s.engine ∧ (s.emptyTable).flags = s.flags ∧ (s.emptyTable).vehicle = s.vehicle ∧
    (s.emptyTable).climate = s.climate ∧ (s.emptyTable).responses = s.responses ∧ (s.emptyTable).acks = s.acks ∧
    (s.emptyTable).panelStatus = s.panelStatus ∧ (s.emptyTable).slots = s.slots ∧ (s.emptyTable).zones = s.zones ∧
    (s.emptyTable).coolers = s.coolers ∧ (s.emptyTable).loads = s.loads ∧ (s.emptyTable).markHigh = s.markHigh ∧
    (s.emptyTable).sources = s.sources ∧ (s.emptyTable).channels = s.channels ∧
    (s.emptyTable).pending = s.pending ∧ (s.emptyTable).draws = s.draws ∧
    (s.emptyTable).doors = Vector.ofFn (fun d : Fin 8 => { s.doors[d] with overrideMask := false }) ∧
    (s.emptyTable).groupMask = false ∧ (s.emptyTable).screen = { s.screen with maxCount := 0 } ∧
    (s.emptyTable).alloc = { s.alloc with maxCount := 0 } ∧ (s.emptyTable).overrides.table = [] ∧
    (s.emptyTable).overrides.statusTimer = none := by
  and_intros <;> rfl

@[simp] theorem State.enterRecord_frame (s : State) (kind : OverrideKind) (target : Target) (v : Int) (d : Nat) (o : Origin) :
    (s.enterRecord kind target v d o |>.1).part = s.part ∧ (s.enterRecord kind target v d o |>.1).node = s.node ∧
    (s.enterRecord kind target v d o |>.1).rate = s.rate ∧
    (s.enterRecord kind target v d o |>.1).active = s.active ∧
    (s.enterRecord kind target v d o |>.1).shadow = s.shadow ∧
    (s.enterRecord kind target v d o |>.1).marks = s.marks ∧
    (s.enterRecord kind target v d o |>.1).engine = s.engine ∧
    (s.enterRecord kind target v d o |>.1).flags = s.flags ∧
    (s.enterRecord kind target v d o |>.1).vehicle = s.vehicle ∧
    (s.enterRecord kind target v d o |>.1).climate = s.climate ∧
    (s.enterRecord kind target v d o |>.1).responses = s.responses ∧
    (s.enterRecord kind target v d o |>.1).acks = s.acks ∧
    (s.enterRecord kind target v d o |>.1).panelStatus = s.panelStatus ∧
    (s.enterRecord kind target v d o |>.1).slots = s.slots ∧
    (s.enterRecord kind target v d o |>.1).zones = s.zones ∧
    (s.enterRecord kind target v d o |>.1).coolers = s.coolers ∧
    (s.enterRecord kind target v d o |>.1).doors = s.doors ∧
    (s.enterRecord kind target v d o |>.1).groupMask = s.groupMask ∧
    (s.enterRecord kind target v d o |>.1).loads = s.loads ∧
    (s.enterRecord kind target v d o |>.1).markHigh = s.markHigh ∧
    (s.enterRecord kind target v d o |>.1).screen = s.screen ∧
    (s.enterRecord kind target v d o |>.1).alloc = s.alloc ∧
    (s.enterRecord kind target v d o |>.1).sources = s.sources ∧
    (s.enterRecord kind target v d o |>.1).channels = s.channels ∧
    (s.enterRecord kind target v d o |>.1).pending = s.pending ∧
    (s.enterRecord kind target v d o |>.1).draws = s.draws := by
  unfold State.enterRecord; and_intros <;> (try simp only []) <;> (repeat' split) <;> simp

@[simp] theorem State.setOverride_frame (s : State) (kind target : Byte) (v : BitVec 16) (d : Byte) (o : Origin) :
    (s.setOverride kind target v d o |>.1).part = s.part ∧ (s.setOverride kind target v d o |>.1).node = s.node ∧
    (s.setOverride kind target v d o |>.1).rate = s.rate ∧
    (s.setOverride kind target v d o |>.1).active = s.active ∧
    (s.setOverride kind target v d o |>.1).shadow = s.shadow ∧
    (s.setOverride kind target v d o |>.1).marks = s.marks ∧
    (s.setOverride kind target v d o |>.1).engine = s.engine ∧
    (s.setOverride kind target v d o |>.1).flags = s.flags ∧
    (s.setOverride kind target v d o |>.1).vehicle = s.vehicle ∧
    (s.setOverride kind target v d o |>.1).climate = s.climate ∧
    (s.setOverride kind target v d o |>.1).responses = s.responses ∧
    (s.setOverride kind target v d o |>.1).acks = s.acks ∧
    (s.setOverride kind target v d o |>.1).panelStatus = s.panelStatus ∧
    (s.setOverride kind target v d o |>.1).slots = s.slots ∧
    (s.setOverride kind target v d o |>.1).zones = s.zones ∧
    (s.setOverride kind target v d o |>.1).coolers = s.coolers ∧
    (s.setOverride kind target v d o |>.1).doors = s.doors ∧
    (s.setOverride kind target v d o |>.1).groupMask = s.groupMask ∧
    (s.setOverride kind target v d o |>.1).loads = s.loads ∧
    (s.setOverride kind target v d o |>.1).markHigh = s.markHigh ∧
    (s.setOverride kind target v d o |>.1).screen = s.screen ∧
    (s.setOverride kind target v d o |>.1).alloc = s.alloc ∧
    (s.setOverride kind target v d o |>.1).sources = s.sources ∧
    (s.setOverride kind target v d o |>.1).channels = s.channels ∧
    (s.setOverride kind target v d o |>.1).pending = s.pending ∧
    (s.setOverride kind target v d o |>.1).draws = s.draws := by
  unfold State.setOverride; and_intros <;> (try simp only []) <;> (repeat' split) <;> simp

@[simp] theorem State.releaseOverride_frame (s : State) (kind target : Byte) :
    (s.releaseOverride kind target |>.1).part = s.part ∧ (s.releaseOverride kind target |>.1).node = s.node ∧
    (s.releaseOverride kind target |>.1).rate = s.rate ∧ (s.releaseOverride kind target |>.1).active = s.active ∧
    (s.releaseOverride kind target |>.1).shadow = s.shadow ∧ (s.releaseOverride kind target |>.1).marks = s.marks ∧
    (s.releaseOverride kind target |>.1).engine = s.engine ∧ (s.releaseOverride kind target |>.1).flags = s.flags ∧
    (s.releaseOverride kind target |>.1).vehicle = s.vehicle ∧
    (s.releaseOverride kind target |>.1).climate = s.climate ∧
    (s.releaseOverride kind target |>.1).responses = s.responses ∧
    (s.releaseOverride kind target |>.1).acks = s.acks ∧
    (s.releaseOverride kind target |>.1).panelStatus = s.panelStatus ∧
    (s.releaseOverride kind target |>.1).slots = s.slots ∧ (s.releaseOverride kind target |>.1).zones = s.zones ∧
    (s.releaseOverride kind target |>.1).coolers = s.coolers ∧
    (s.releaseOverride kind target |>.1).doors = s.doors ∧
    (s.releaseOverride kind target |>.1).groupMask = s.groupMask ∧
    (s.releaseOverride kind target |>.1).loads = s.loads ∧
    (s.releaseOverride kind target |>.1).markHigh = s.markHigh ∧
    (s.releaseOverride kind target |>.1).screen = s.screen ∧ (s.releaseOverride kind target |>.1).alloc = s.alloc ∧
    (s.releaseOverride kind target |>.1).sources = s.sources ∧
    (s.releaseOverride kind target |>.1).channels = s.channels ∧
    (s.releaseOverride kind target |>.1).pending = s.pending ∧
    (s.releaseOverride kind target |>.1).draws = s.draws := by
  unfold State.releaseOverride; and_intros <;> (try simp only []) <;> (repeat' split) <;> simp

@[simp] theorem State.offerAck_frame (s : State) (f : Frame) :
    (s.offerAck f).part = s.part ∧ (s.offerAck f).node = s.node ∧ (s.offerAck f).rate = s.rate ∧
    (s.offerAck f).active = s.active ∧ (s.offerAck f).shadow = s.shadow ∧ (s.offerAck f).marks = s.marks ∧
    (s.offerAck f).engine = s.engine ∧ (s.offerAck f).flags = s.flags ∧ (s.offerAck f).vehicle = s.vehicle ∧
    (s.offerAck f).climate = s.climate ∧ (s.offerAck f).responses = s.responses ∧
    (s.offerAck f).panelStatus = s.panelStatus ∧ (s.offerAck f).slots = s.slots ∧ (s.offerAck f).zones = s.zones ∧
    (s.offerAck f).coolers = s.coolers ∧ (s.offerAck f).doors = s.doors ∧ (s.offerAck f).groupMask = s.groupMask ∧
    (s.offerAck f).loads = s.loads ∧ (s.offerAck f).markHigh = s.markHigh ∧ (s.offerAck f).screen = s.screen ∧
    (s.offerAck f).overrides = s.overrides ∧ (s.offerAck f).alloc = s.alloc ∧ (s.offerAck f).sources = s.sources ∧
    (s.offerAck f).channels = s.channels ∧ (s.offerAck f).inFlight = s.inFlight ∧ (s.offerAck f).pending = s.pending ∧
    (s.offerAck f).channels = s.channels ∧ (s.offerAck f).inFlight = s.inFlight ∧ (s.offerAck f).draws = s.draws := by
  unfold State.offerAck; and_intros <;> (try simp only []) <;> (repeat' split) <;> simp

@[simp] theorem State.panelAlive_frame (s : State) :
    (s.panelAlive).part = s.part ∧ (s.panelAlive).node = s.node ∧ (s.panelAlive).rate = s.rate ∧
    (s.panelAlive).active = s.active ∧ (s.panelAlive).shadow = s.shadow ∧ (s.panelAlive).marks = s.marks ∧
    (s.panelAlive).engine = s.engine ∧ (s.panelAlive).flags = s.flags ∧ (s.panelAlive).vehicle = s.vehicle ∧
    (s.panelAlive).climate = s.climate ∧ (s.panelAlive).responses = s.responses ∧ (s.panelAlive).acks = s.acks ∧
    (s.panelAlive).panelStatus = s.panelStatus ∧ (s.panelAlive).slots = s.slots ∧ (s.panelAlive).zones = s.zones ∧
    (s.panelAlive).coolers = s.coolers ∧ (s.panelAlive).doors = s.doors ∧ (s.panelAlive).groupMask = s.groupMask ∧
    (s.panelAlive).loads = s.loads ∧ (s.panelAlive).markHigh = s.markHigh ∧ (s.panelAlive).screen = s.screen ∧
    (s.panelAlive).alloc = s.alloc ∧ (s.panelAlive).sources = s.sources ∧ (s.panelAlive).channels = s.channels ∧
    (s.panelAlive).inFlight = s.inFlight ∧ (s.panelAlive).pending = s.pending ∧
    (s.panelAlive).inFlight = s.inFlight ∧ (s.panelAlive).draws = s.draws := by
  and_intros <;> rfl

@[simp] theorem State.panelSet_frame (s : State) (tag kind target : Byte) (v : BitVec 16) (d : Byte) :
    (s.panelSet tag kind target v d).part = s.part ∧ (s.panelSet tag kind target v d).node = s.node ∧
    (s.panelSet tag kind target v d).rate = s.rate ∧ (s.panelSet tag kind target v d).active = s.active ∧
    (s.panelSet tag kind target v d).shadow = s.shadow ∧ (s.panelSet tag kind target v d).marks = s.marks ∧
    (s.panelSet tag kind target v d).engine = s.engine ∧ (s.panelSet tag kind target v d).flags = s.flags ∧
    (s.panelSet tag kind target v d).vehicle = s.vehicle ∧ (s.panelSet tag kind target v d).climate = s.climate ∧
    (s.panelSet tag kind target v d).responses = s.responses ∧
    (s.panelSet tag kind target v d).panelStatus = s.panelStatus ∧
    (s.panelSet tag kind target v d).slots = s.slots ∧ (s.panelSet tag kind target v d).zones = s.zones ∧
    (s.panelSet tag kind target v d).coolers = s.coolers ∧ (s.panelSet tag kind target v d).doors = s.doors ∧
    (s.panelSet tag kind target v d).groupMask = s.groupMask ∧ (s.panelSet tag kind target v d).loads = s.loads ∧
    (s.panelSet tag kind target v d).markHigh = s.markHigh ∧ (s.panelSet tag kind target v d).screen = s.screen ∧
    (s.panelSet tag kind target v d).alloc = s.alloc ∧ (s.panelSet tag kind target v d).sources = s.sources ∧
    (s.panelSet tag kind target v d).channels = s.channels ∧ (s.panelSet tag kind target v d).pending = s.pending ∧
    (s.panelSet tag kind target v d).channels = s.channels ∧ (s.panelSet tag kind target v d).draws = s.draws := by
  unfold State.panelSet; and_intros <;> (try simp only []) <;> (repeat' split) <;> simp

@[simp] theorem State.panelRelease_frame (s : State) (tag kind target : Byte) :
    (s.panelRelease tag kind target).part = s.part ∧ (s.panelRelease tag kind target).node = s.node ∧
    (s.panelRelease tag kind target).rate = s.rate ∧ (s.panelRelease tag kind target).active = s.active ∧
    (s.panelRelease tag kind target).shadow = s.shadow ∧ (s.panelRelease tag kind target).marks = s.marks ∧
    (s.panelRelease tag kind target).engine = s.engine ∧ (s.panelRelease tag kind target).flags = s.flags ∧
    (s.panelRelease tag kind target).vehicle = s.vehicle ∧ (s.panelRelease tag kind target).climate = s.climate ∧
    (s.panelRelease tag kind target).responses = s.responses ∧
    (s.panelRelease tag kind target).panelStatus = s.panelStatus ∧
    (s.panelRelease tag kind target).slots = s.slots ∧ (s.panelRelease tag kind target).zones = s.zones ∧
    (s.panelRelease tag kind target).coolers = s.coolers ∧ (s.panelRelease tag kind target).doors = s.doors ∧
    (s.panelRelease tag kind target).groupMask = s.groupMask ∧ (s.panelRelease tag kind target).loads = s.loads ∧
    (s.panelRelease tag kind target).markHigh = s.markHigh ∧ (s.panelRelease tag kind target).screen = s.screen ∧
    (s.panelRelease tag kind target).alloc = s.alloc ∧ (s.panelRelease tag kind target).sources = s.sources ∧
    (s.panelRelease tag kind target).channels = s.channels ∧ (s.panelRelease tag kind target).pending = s.pending ∧
    (s.panelRelease tag kind target).channels = s.channels ∧ (s.panelRelease tag kind target).draws = s.draws := by
  unfold State.panelRelease; and_intros <;> (try simp only []) <;> (repeat' split) <;> simp

@[simp] theorem State.panelHeartbeat_frame (s : State) (tag : Byte) :
    (s.panelHeartbeat tag).part = s.part ∧ (s.panelHeartbeat tag).node = s.node ∧
    (s.panelHeartbeat tag).rate = s.rate ∧ (s.panelHeartbeat tag).active = s.active ∧
    (s.panelHeartbeat tag).shadow = s.shadow ∧ (s.panelHeartbeat tag).marks = s.marks ∧
    (s.panelHeartbeat tag).engine = s.engine ∧ (s.panelHeartbeat tag).flags = s.flags ∧
    (s.panelHeartbeat tag).vehicle = s.vehicle ∧ (s.panelHeartbeat tag).climate = s.climate ∧
    (s.panelHeartbeat tag).responses = s.responses ∧ (s.panelHeartbeat tag).panelStatus = s.panelStatus ∧
    (s.panelHeartbeat tag).slots = s.slots ∧ (s.panelHeartbeat tag).zones = s.zones ∧
    (s.panelHeartbeat tag).coolers = s.coolers ∧ (s.panelHeartbeat tag).doors = s.doors ∧
    (s.panelHeartbeat tag).groupMask = s.groupMask ∧ (s.panelHeartbeat tag).loads = s.loads ∧
    (s.panelHeartbeat tag).markHigh = s.markHigh ∧ (s.panelHeartbeat tag).screen = s.screen ∧
    (s.panelHeartbeat tag).alloc = s.alloc ∧ (s.panelHeartbeat tag).sources = s.sources ∧
    (s.panelHeartbeat tag).channels = s.channels ∧ (s.panelHeartbeat tag).inFlight = s.inFlight ∧
    (s.panelHeartbeat tag).pending = s.pending ∧
    (s.panelHeartbeat tag).draws = s.draws := by
  unfold State.panelHeartbeat; and_intros <;> (try simp only []) <;> (repeat' split) <;> simp

@[simp] theorem State.armAll_frame (s : State) :
    (s.armAll).part = s.part ∧ (s.armAll).node = s.node ∧ (s.armAll).rate = s.rate ∧ (s.armAll).active = s.active ∧
    (s.armAll).shadow = s.shadow ∧ (s.armAll).marks = s.marks ∧ (s.armAll).engine = s.engine ∧
    (s.armAll).flags = s.flags ∧ (s.armAll).vehicle = s.vehicle ∧ (s.armAll).climate = s.climate ∧
    (s.armAll).responses = s.responses ∧ (s.armAll).acks = s.acks ∧ (s.armAll).panelStatus = s.panelStatus ∧
    (s.armAll).slots = s.slots ∧ (s.armAll).zones = s.zones ∧ (s.armAll).coolers = s.coolers ∧
    (s.armAll).doors = s.doors ∧ (s.armAll).groupMask = s.groupMask ∧ (s.armAll).markHigh = s.markHigh ∧
    (s.armAll).screen = s.screen ∧ (s.armAll).overrides = s.overrides ∧ (s.armAll).alloc = s.alloc ∧
    (s.armAll).sources = s.sources ∧ (s.armAll).channels = s.channels ∧ (s.armAll).inFlight = s.inFlight ∧
    (s.armAll).pending = s.pending ∧
    (s.armAll).draws = s.draws := by
  unfold State.armAll; and_intros <;> apply forEach_keeps <;> intro i t <;> (try simp only []) <;> (repeat' split) <;> simp

@[simp] theorem State.panelTripEnd_frame (s : State) (tag : Byte) :
    (s.panelTripEnd tag).part = s.part ∧ (s.panelTripEnd tag).node = s.node ∧ (s.panelTripEnd tag).rate = s.rate ∧
    (s.panelTripEnd tag).active = s.active ∧ (s.panelTripEnd tag).shadow = s.shadow ∧
    (s.panelTripEnd tag).marks = s.marks ∧ (s.panelTripEnd tag).engine = s.engine ∧
    (s.panelTripEnd tag).flags = s.flags ∧ (s.panelTripEnd tag).vehicle = s.vehicle ∧
    (s.panelTripEnd tag).climate = s.climate ∧ (s.panelTripEnd tag).responses = s.responses ∧
    (s.panelTripEnd tag).panelStatus = s.panelStatus ∧ (s.panelTripEnd tag).slots = s.slots ∧
    (s.panelTripEnd tag).zones = s.zones ∧ (s.panelTripEnd tag).coolers = s.coolers ∧
    (s.panelTripEnd tag).doors = s.doors ∧ (s.panelTripEnd tag).groupMask = s.groupMask ∧
    (s.panelTripEnd tag).markHigh = s.markHigh ∧ (s.panelTripEnd tag).screen = s.screen ∧
    (s.panelTripEnd tag).alloc = s.alloc ∧ (s.panelTripEnd tag).sources = s.sources ∧
    (s.panelTripEnd tag).channels = s.channels ∧ (s.panelTripEnd tag).inFlight = s.inFlight ∧
    (s.panelTripEnd tag).pending = s.pending ∧
    (s.panelTripEnd tag).draws = s.draws := by
  unfold State.panelTripEnd; and_intros <;> (try simp only []) <;> (repeat' split) <;> simp

@[simp] theorem State.panelFrame_frame (s : State) (f : Frame) :
    (s.panelFrame f).part = s.part ∧ (s.panelFrame f).node = s.node ∧ (s.panelFrame f).rate = s.rate ∧
    (s.panelFrame f).active = s.active ∧ (s.panelFrame f).shadow = s.shadow ∧ (s.panelFrame f).marks = s.marks ∧
    (s.panelFrame f).engine = s.engine ∧ (s.panelFrame f).flags = s.flags ∧ (s.panelFrame f).vehicle = s.vehicle ∧
    (s.panelFrame f).climate = s.climate ∧ (s.panelFrame f).responses = s.responses ∧
    (s.panelFrame f).panelStatus = s.panelStatus ∧ (s.panelFrame f).slots = s.slots ∧
    (s.panelFrame f).zones = s.zones ∧ (s.panelFrame f).coolers = s.coolers ∧ (s.panelFrame f).doors = s.doors ∧
    (s.panelFrame f).groupMask = s.groupMask ∧ (s.panelFrame f).markHigh = s.markHigh ∧
    (s.panelFrame f).screen = s.screen ∧ (s.panelFrame f).alloc = s.alloc ∧ (s.panelFrame f).sources = s.sources ∧
    (s.panelFrame f).channels = s.channels ∧ (s.panelFrame f).pending = s.pending ∧
    (s.panelFrame f).channels = s.channels ∧ (s.panelFrame f).draws = s.draws := by
  unfold State.panelFrame; and_intros <;> (try simp only []) <;> (repeat' split) <;> simp

@[simp] theorem State.recordExpiry_frame (s : State) (kind : OverrideKind) (target : Target) :
    (s.recordExpiry kind target).part = s.part ∧ (s.recordExpiry kind target).node = s.node ∧
    (s.recordExpiry kind target).rate = s.rate ∧ (s.recordExpiry kind target).active = s.active ∧
    (s.recordExpiry kind target).shadow = s.shadow ∧ (s.recordExpiry kind target).marks = s.marks ∧
    (s.recordExpiry kind target).engine = s.engine ∧ (s.recordExpiry kind target).flags = s.flags ∧
    (s.recordExpiry kind target).vehicle = s.vehicle ∧ (s.recordExpiry kind target).climate = s.climate ∧
    (s.recordExpiry kind target).responses = s.responses ∧ (s.recordExpiry kind target).acks = s.acks ∧
    (s.recordExpiry kind target).panelStatus = s.panelStatus ∧ (s.recordExpiry kind target).slots = s.slots ∧
    (s.recordExpiry kind target).zones = s.zones ∧ (s.recordExpiry kind target).coolers = s.coolers ∧
    (s.recordExpiry kind target).doors = s.doors ∧ (s.recordExpiry kind target).groupMask = s.groupMask ∧
    (s.recordExpiry kind target).loads = s.loads ∧ (s.recordExpiry kind target).markHigh = s.markHigh ∧
    (s.recordExpiry kind target).screen = s.screen ∧ (s.recordExpiry kind target).alloc = s.alloc ∧
    (s.recordExpiry kind target).sources = s.sources ∧ (s.recordExpiry kind target).channels = s.channels ∧
    (s.recordExpiry kind target).pending = s.pending ∧
    (s.recordExpiry kind target).draws = s.draws := by
  unfold State.recordExpiry; and_intros <;> (try simp only []) <;> (repeat' split) <;> simp

@[simp] theorem State.panelExpiry_frame (s : State) :
    (s.panelExpiry).part = s.part ∧ (s.panelExpiry).node = s.node ∧ (s.panelExpiry).rate = s.rate ∧
    (s.panelExpiry).active = s.active ∧ (s.panelExpiry).shadow = s.shadow ∧ (s.panelExpiry).marks = s.marks ∧
    (s.panelExpiry).engine = s.engine ∧ (s.panelExpiry).vehicle = s.vehicle ∧ (s.panelExpiry).climate = s.climate ∧
    (s.panelExpiry).responses = s.responses ∧ (s.panelExpiry).acks = s.acks ∧
    (s.panelExpiry).panelStatus = s.panelStatus ∧ (s.panelExpiry).slots = s.slots ∧
    (s.panelExpiry).zones = s.zones ∧ (s.panelExpiry).coolers = s.coolers ∧ (s.panelExpiry).doors = s.doors ∧
    (s.panelExpiry).groupMask = s.groupMask ∧ (s.panelExpiry).loads = s.loads ∧
    (s.panelExpiry).markHigh = s.markHigh ∧ (s.panelExpiry).screen = s.screen ∧ (s.panelExpiry).alloc = s.alloc ∧
    (s.panelExpiry).sources = s.sources ∧ (s.panelExpiry).channels = s.channels ∧
    (s.panelExpiry).pending = s.pending ∧
    (s.panelExpiry).draws = s.draws := by
  unfold State.panelExpiry; and_intros <;> (try simp only []) <;> (repeat' split) <;> simp

@[simp] theorem State.offerStatus_frame (s : State) (f : Frame) :
    (s.offerStatus f).part = s.part ∧ (s.offerStatus f).node = s.node ∧ (s.offerStatus f).rate = s.rate ∧
    (s.offerStatus f).active = s.active ∧ (s.offerStatus f).shadow = s.shadow ∧ (s.offerStatus f).marks = s.marks ∧
    (s.offerStatus f).engine = s.engine ∧ (s.offerStatus f).flags = s.flags ∧
    (s.offerStatus f).climate = s.climate ∧ (s.offerStatus f).responses = s.responses ∧
    (s.offerStatus f).acks = s.acks ∧ (s.offerStatus f).slots = s.slots ∧ (s.offerStatus f).zones = s.zones ∧
    (s.offerStatus f).coolers = s.coolers ∧ (s.offerStatus f).doors = s.doors ∧
    (s.offerStatus f).groupMask = s.groupMask ∧ (s.offerStatus f).loads = s.loads ∧
    (s.offerStatus f).markHigh = s.markHigh ∧ (s.offerStatus f).screen = s.screen ∧
    (s.offerStatus f).overrides = s.overrides ∧ (s.offerStatus f).alloc = s.alloc ∧
    (s.offerStatus f).sources = s.sources ∧ (s.offerStatus f).channels = s.channels ∧
    (s.offerStatus f).inFlight = s.inFlight ∧ (s.offerStatus f).pending = s.pending ∧
    (s.offerStatus f).inFlight = s.inFlight ∧ (s.offerStatus f).draws = s.draws := by
  unfold State.offerStatus; and_intros <;> (try simp only []) <;> (repeat' split) <;> simp

@[simp] theorem State.statusExpiry_frame (s : State) :
    (s.statusExpiry).part = s.part ∧ (s.statusExpiry).node = s.node ∧ (s.statusExpiry).rate = s.rate ∧
    (s.statusExpiry).active = s.active ∧ (s.statusExpiry).shadow = s.shadow ∧ (s.statusExpiry).marks = s.marks ∧
    (s.statusExpiry).engine = s.engine ∧ (s.statusExpiry).flags = s.flags ∧ (s.statusExpiry).climate = s.climate ∧
    (s.statusExpiry).responses = s.responses ∧ (s.statusExpiry).acks = s.acks ∧ (s.statusExpiry).slots = s.slots ∧
    (s.statusExpiry).zones = s.zones ∧ (s.statusExpiry).coolers = s.coolers ∧ (s.statusExpiry).doors = s.doors ∧
    (s.statusExpiry).groupMask = s.groupMask ∧ (s.statusExpiry).loads = s.loads ∧
    (s.statusExpiry).markHigh = s.markHigh ∧ (s.statusExpiry).screen = s.screen ∧
    (s.statusExpiry).alloc = s.alloc ∧ (s.statusExpiry).sources = s.sources ∧
    (s.statusExpiry).channels = s.channels ∧ (s.statusExpiry).inFlight = s.inFlight ∧
    (s.statusExpiry).pending = s.pending ∧
    (s.statusExpiry).draws = s.draws := by
  unfold State.statusExpiry; and_intros <;> (try simp only []) <;> (repeat' split) <;> simp

/-! ### Zones (section 2.3) and ports (section 1.1) -/

@[simp] theorem State.zonePass_frame (s : State) (z : Fin 8) :
    (s.zonePass z).part = s.part ∧ (s.zonePass z).node = s.node ∧ (s.zonePass z).rate = s.rate ∧
    (s.zonePass z).active = s.active ∧ (s.zonePass z).shadow = s.shadow ∧ (s.zonePass z).marks = s.marks ∧
    (s.zonePass z).engine = s.engine ∧ (s.zonePass z).vehicle = s.vehicle ∧ (s.zonePass z).climate = s.climate ∧
    (s.zonePass z).responses = s.responses ∧ (s.zonePass z).acks = s.acks ∧
    (s.zonePass z).panelStatus = s.panelStatus ∧ (s.zonePass z).slots = s.slots ∧
    (s.zonePass z).coolers = s.coolers ∧ (s.zonePass z).doors = s.doors ∧ (s.zonePass z).groupMask = s.groupMask ∧
    (s.zonePass z).loads = s.loads ∧ (s.zonePass z).markHigh = s.markHigh ∧ (s.zonePass z).screen = s.screen ∧
    (s.zonePass z).overrides = s.overrides ∧ (s.zonePass z).alloc = s.alloc ∧ (s.zonePass z).sources = s.sources ∧
    (s.zonePass z).channels = s.channels ∧ (s.zonePass z).pending = s.pending ∧
    (s.zonePass z).channels = s.channels ∧ (s.zonePass z).draws = s.draws := by
  unfold State.zonePass; and_intros <;> (try simp only []) <;> (repeat' split) <;> simp

@[simp] theorem State.offerForward_frame (s : State) (p : PortName) (f : Frame) :
    (s.offerForward p f).part = s.part ∧ (s.offerForward p f).node = s.node ∧ (s.offerForward p f).rate = s.rate ∧
    (s.offerForward p f).active = s.active ∧ (s.offerForward p f).shadow = s.shadow ∧
    (s.offerForward p f).marks = s.marks ∧ (s.offerForward p f).engine = s.engine ∧
    (s.offerForward p f).responses = s.responses ∧ (s.offerForward p f).acks = s.acks ∧
    (s.offerForward p f).panelStatus = s.panelStatus ∧ (s.offerForward p f).slots = s.slots ∧
    (s.offerForward p f).zones = s.zones ∧ (s.offerForward p f).coolers = s.coolers ∧
    (s.offerForward p f).doors = s.doors ∧ (s.offerForward p f).groupMask = s.groupMask ∧
    (s.offerForward p f).loads = s.loads ∧ (s.offerForward p f).markHigh = s.markHigh ∧
    (s.offerForward p f).screen = s.screen ∧ (s.offerForward p f).overrides = s.overrides ∧
    (s.offerForward p f).alloc = s.alloc ∧ (s.offerForward p f).sources = s.sources ∧
    (s.offerForward p f).channels = s.channels ∧ (s.offerForward p f).inFlight = s.inFlight ∧
    (s.offerForward p f).pending = s.pending ∧
    (s.offerForward p f).draws = s.draws := by
  unfold State.offerForward; and_intros <;> (try simp only []) <;> (repeat' split) <;> simp

@[simp] theorem State.transmitStart_frame (s : State) (p : PortName) :
    (s.transmitStart p).part = s.part ∧ (s.transmitStart p).node = s.node ∧ (s.transmitStart p).rate = s.rate ∧
    (s.transmitStart p).active = s.active ∧ (s.transmitStart p).shadow = s.shadow ∧
    (s.transmitStart p).marks = s.marks ∧ (s.transmitStart p).engine = s.engine ∧
    (s.transmitStart p).flags = s.flags ∧ (s.transmitStart p).responses = s.responses ∧
    (s.transmitStart p).acks = s.acks ∧ (s.transmitStart p).panelStatus = s.panelStatus ∧
    (s.transmitStart p).slots = s.slots ∧ (s.transmitStart p).zones = s.zones ∧
    (s.transmitStart p).coolers = s.coolers ∧ (s.transmitStart p).doors = s.doors ∧
    (s.transmitStart p).groupMask = s.groupMask ∧ (s.transmitStart p).loads = s.loads ∧
    (s.transmitStart p).markHigh = s.markHigh ∧ (s.transmitStart p).screen = s.screen ∧
    (s.transmitStart p).overrides = s.overrides ∧ (s.transmitStart p).alloc = s.alloc ∧
    (s.transmitStart p).sources = s.sources ∧ (s.transmitStart p).channels = s.channels ∧
    (s.transmitStart p).inFlight = s.inFlight ∧ (s.transmitStart p).pending = s.pending ∧
    (s.transmitStart p).inFlight = s.inFlight ∧ (s.transmitStart p).draws = s.draws := by
  unfold State.transmitStart; and_intros <;> (try simp only []) <;> (repeat' split) <;> simp

@[simp] theorem State.leaveSource_frame (s : State) (p : PortName) (t : Tx) :
    (s.leaveSource p t).part = s.part ∧ (s.leaveSource p t).node = s.node ∧ (s.leaveSource p t).rate = s.rate ∧
    (s.leaveSource p t).active = s.active ∧ (s.leaveSource p t).shadow = s.shadow ∧
    (s.leaveSource p t).marks = s.marks ∧ (s.leaveSource p t).engine = s.engine ∧
    (s.leaveSource p t).flags = s.flags ∧ (s.leaveSource p t).slots = s.slots ∧
    (s.leaveSource p t).zones = s.zones ∧ (s.leaveSource p t).coolers = s.coolers ∧
    (s.leaveSource p t).doors = s.doors ∧ (s.leaveSource p t).groupMask = s.groupMask ∧
    (s.leaveSource p t).loads = s.loads ∧ (s.leaveSource p t).markHigh = s.markHigh ∧
    (s.leaveSource p t).screen = s.screen ∧ (s.leaveSource p t).overrides = s.overrides ∧
    (s.leaveSource p t).alloc = s.alloc ∧ (s.leaveSource p t).sources = s.sources ∧
    (s.leaveSource p t).inFlight = s.inFlight ∧ (s.leaveSource p t).pending = s.pending ∧
    (s.leaveSource p t).inFlight = s.inFlight ∧ (s.leaveSource p t).draws = s.draws := by
  unfold State.leaveSource; and_intros <;> (try simp only []) <;> (repeat' split) <;> simp

@[simp] theorem State.transmitComplete_frame (s : State) (p : PortName) :
    (s.transmitComplete p).part = s.part ∧ (s.transmitComplete p).node = s.node ∧
    (s.transmitComplete p).rate = s.rate ∧ (s.transmitComplete p).active = s.active ∧
    (s.transmitComplete p).shadow = s.shadow ∧ (s.transmitComplete p).marks = s.marks ∧
    (s.transmitComplete p).engine = s.engine ∧ (s.transmitComplete p).flags = s.flags ∧
    (s.transmitComplete p).slots = s.slots ∧ (s.transmitComplete p).zones = s.zones ∧
    (s.transmitComplete p).coolers = s.coolers ∧ (s.transmitComplete p).doors = s.doors ∧
    (s.transmitComplete p).groupMask = s.groupMask ∧ (s.transmitComplete p).loads = s.loads ∧
    (s.transmitComplete p).markHigh = s.markHigh ∧ (s.transmitComplete p).screen = s.screen ∧
    (s.transmitComplete p).overrides = s.overrides ∧ (s.transmitComplete p).alloc = s.alloc ∧
    (s.transmitComplete p).sources = s.sources ∧ (s.transmitComplete p).inFlight = s.inFlight ∧
    (s.transmitComplete p).pending = s.pending ∧
    (s.transmitComplete p).draws = s.draws := by
  unfold State.transmitComplete; and_intros <;> (try simp only []) <;> (repeat' split) <;> simp

@[simp] theorem State.arbitrationLost_frame (s : State) (p : PortName) :
    (s.arbitrationLost p).part = s.part ∧ (s.arbitrationLost p).node = s.node ∧
    (s.arbitrationLost p).rate = s.rate ∧ (s.arbitrationLost p).active = s.active ∧
    (s.arbitrationLost p).shadow = s.shadow ∧ (s.arbitrationLost p).marks = s.marks ∧
    (s.arbitrationLost p).engine = s.engine ∧ (s.arbitrationLost p).flags = s.flags ∧
    (s.arbitrationLost p).responses = s.responses ∧ (s.arbitrationLost p).acks = s.acks ∧
    (s.arbitrationLost p).panelStatus = s.panelStatus ∧ (s.arbitrationLost p).slots = s.slots ∧
    (s.arbitrationLost p).zones = s.zones ∧ (s.arbitrationLost p).coolers = s.coolers ∧
    (s.arbitrationLost p).doors = s.doors ∧ (s.arbitrationLost p).groupMask = s.groupMask ∧
    (s.arbitrationLost p).loads = s.loads ∧ (s.arbitrationLost p).markHigh = s.markHigh ∧
    (s.arbitrationLost p).screen = s.screen ∧ (s.arbitrationLost p).overrides = s.overrides ∧
    (s.arbitrationLost p).alloc = s.alloc ∧ (s.arbitrationLost p).sources = s.sources ∧
    (s.arbitrationLost p).channels = s.channels ∧ (s.arbitrationLost p).inFlight = s.inFlight ∧
    (s.arbitrationLost p).pending = s.pending ∧
    (s.arbitrationLost p).draws = s.draws := by
  unfold State.arbitrationLost; and_intros <;> (try simp only []) <;> (repeat' split) <;> simp

@[simp] theorem State.discardOwn_frame (s : State) (p : PortName) :
    (s.discardOwn p).part = s.part ∧ (s.discardOwn p).node = s.node ∧ (s.discardOwn p).rate = s.rate ∧
    (s.discardOwn p).active = s.active ∧ (s.discardOwn p).shadow = s.shadow ∧ (s.discardOwn p).marks = s.marks ∧
    (s.discardOwn p).engine = s.engine ∧ (s.discardOwn p).flags = s.flags ∧ (s.discardOwn p).vehicle = s.vehicle ∧
    (s.discardOwn p).climate = s.climate ∧ (s.discardOwn p).slots = s.slots ∧ (s.discardOwn p).zones = s.zones ∧
    (s.discardOwn p).coolers = s.coolers ∧ (s.discardOwn p).doors = s.doors ∧
    (s.discardOwn p).groupMask = s.groupMask ∧ (s.discardOwn p).loads = s.loads ∧
    (s.discardOwn p).markHigh = s.markHigh ∧ (s.discardOwn p).screen = s.screen ∧
    (s.discardOwn p).overrides = s.overrides ∧ (s.discardOwn p).alloc = s.alloc ∧
    (s.discardOwn p).sources = s.sources ∧ (s.discardOwn p).inFlight = s.inFlight ∧
    (s.discardOwn p).pending = s.pending ∧
    (s.discardOwn p).draws = s.draws := by
  unfold State.discardOwn; cases p
  · simp
  · and_intros <;> apply forEach_keeps <;> intro i t <;> simp

@[simp] theorem State.enterBusOff_frame (s : State) (p : PortName) :
    (s.enterBusOff p).part = s.part ∧ (s.enterBusOff p).node = s.node ∧ (s.enterBusOff p).rate = s.rate ∧
    (s.enterBusOff p).active = s.active ∧ (s.enterBusOff p).shadow = s.shadow ∧ (s.enterBusOff p).marks = s.marks ∧
    (s.enterBusOff p).engine = s.engine ∧ (s.enterBusOff p).flags = s.flags ∧ (s.enterBusOff p).slots = s.slots ∧
    (s.enterBusOff p).zones = s.zones ∧ (s.enterBusOff p).coolers = s.coolers ∧ (s.enterBusOff p).doors = s.doors ∧
    (s.enterBusOff p).groupMask = s.groupMask ∧ (s.enterBusOff p).loads = s.loads ∧
    (s.enterBusOff p).markHigh = s.markHigh ∧ (s.enterBusOff p).screen = s.screen ∧
    (s.enterBusOff p).overrides = s.overrides ∧ (s.enterBusOff p).alloc = s.alloc ∧
    (s.enterBusOff p).sources = s.sources ∧ (s.enterBusOff p).inFlight = s.inFlight ∧
    (s.enterBusOff p).pending = s.pending ∧
    (s.enterBusOff p).draws = s.draws := by
  unfold State.enterBusOff; and_intros <;> (try simp only []) <;> (repeat' split) <;> simp

@[simp] theorem State.transmitError_frame (s : State) (p : PortName) :
    (s.transmitError p).part = s.part ∧ (s.transmitError p).node = s.node ∧ (s.transmitError p).rate = s.rate ∧
    (s.transmitError p).active = s.active ∧ (s.transmitError p).shadow = s.shadow ∧
    (s.transmitError p).marks = s.marks ∧ (s.transmitError p).engine = s.engine ∧
    (s.transmitError p).flags = s.flags ∧ (s.transmitError p).slots = s.slots ∧
    (s.transmitError p).zones = s.zones ∧ (s.transmitError p).coolers = s.coolers ∧
    (s.transmitError p).doors = s.doors ∧ (s.transmitError p).groupMask = s.groupMask ∧
    (s.transmitError p).loads = s.loads ∧ (s.transmitError p).markHigh = s.markHigh ∧
    (s.transmitError p).screen = s.screen ∧ (s.transmitError p).overrides = s.overrides ∧
    (s.transmitError p).alloc = s.alloc ∧ (s.transmitError p).sources = s.sources ∧
    (s.transmitError p).inFlight = s.inFlight ∧ (s.transmitError p).pending = s.pending ∧
    (s.transmitError p).inFlight = s.inFlight ∧ (s.transmitError p).draws = s.draws := by
  unfold State.transmitError; and_intros <;> (try simp only []) <;> (repeat' split) <;> simp

@[simp] theorem State.busOffExpiry_frame (s : State) (p : PortName) :
    (s.busOffExpiry p).part = s.part ∧ (s.busOffExpiry p).node = s.node ∧ (s.busOffExpiry p).rate = s.rate ∧
    (s.busOffExpiry p).active = s.active ∧ (s.busOffExpiry p).shadow = s.shadow ∧
    (s.busOffExpiry p).marks = s.marks ∧ (s.busOffExpiry p).engine = s.engine ∧
    (s.busOffExpiry p).flags = s.flags ∧ (s.busOffExpiry p).responses = s.responses ∧
    (s.busOffExpiry p).acks = s.acks ∧ (s.busOffExpiry p).panelStatus = s.panelStatus ∧
    (s.busOffExpiry p).slots = s.slots ∧ (s.busOffExpiry p).zones = s.zones ∧
    (s.busOffExpiry p).coolers = s.coolers ∧ (s.busOffExpiry p).doors = s.doors ∧
    (s.busOffExpiry p).groupMask = s.groupMask ∧ (s.busOffExpiry p).loads = s.loads ∧
    (s.busOffExpiry p).markHigh = s.markHigh ∧ (s.busOffExpiry p).screen = s.screen ∧
    (s.busOffExpiry p).overrides = s.overrides ∧ (s.busOffExpiry p).alloc = s.alloc ∧
    (s.busOffExpiry p).sources = s.sources ∧ (s.busOffExpiry p).channels = s.channels ∧
    (s.busOffExpiry p).inFlight = s.inFlight ∧ (s.busOffExpiry p).pending = s.pending ∧
    (s.busOffExpiry p).inFlight = s.inFlight ∧ (s.busOffExpiry p).draws = s.draws := by
  unfold State.busOffExpiry; and_intros <;> (try simp only []) <;> (repeat' split) <;> simp

/-! ### Commits -/

@[simp] theorem State.emptySlot_frame (s : State) (i : Fin 64) :
    (s.emptySlot i).part = s.part ∧ (s.emptySlot i).node = s.node ∧ (s.emptySlot i).rate = s.rate ∧
    (s.emptySlot i).active = s.active ∧ (s.emptySlot i).shadow = s.shadow ∧ (s.emptySlot i).marks = s.marks ∧
    (s.emptySlot i).engine = s.engine ∧ (s.emptySlot i).flags = s.flags ∧ (s.emptySlot i).vehicle = s.vehicle ∧
    (s.emptySlot i).climate = s.climate ∧ (s.emptySlot i).responses = s.responses ∧ (s.emptySlot i).acks = s.acks ∧
    (s.emptySlot i).panelStatus = s.panelStatus ∧ (s.emptySlot i).zones = s.zones ∧
    (s.emptySlot i).coolers = s.coolers ∧ (s.emptySlot i).doors = s.doors ∧
    (s.emptySlot i).groupMask = s.groupMask ∧ (s.emptySlot i).loads = s.loads ∧
    (s.emptySlot i).markHigh = s.markHigh ∧ (s.emptySlot i).screen = s.screen ∧
    (s.emptySlot i).overrides = s.overrides ∧ (s.emptySlot i).alloc = s.alloc ∧
    (s.emptySlot i).sources = s.sources ∧ (s.emptySlot i).channels = s.channels ∧
    (s.emptySlot i).pending = s.pending ∧
    (s.emptySlot i).draws = s.draws := by
  unfold State.emptySlot; and_intros <;> (try simp only []) <;> (repeat' split) <;> simp

@[simp] theorem State.moveQc_frame (s : State) (z : Fin 8) (old new : ZoneRow) :
    (s.moveQc z old new).part = s.part ∧ (s.moveQc z old new).node = s.node ∧ (s.moveQc z old new).rate = s.rate ∧
    (s.moveQc z old new).active = s.active ∧ (s.moveQc z old new).shadow = s.shadow ∧
    (s.moveQc z old new).marks = s.marks ∧ (s.moveQc z old new).engine = s.engine ∧
    (s.moveQc z old new).flags = s.flags ∧ (s.moveQc z old new).vehicle = s.vehicle ∧
    (s.moveQc z old new).climate = s.climate ∧ (s.moveQc z old new).responses = s.responses ∧
    (s.moveQc z old new).acks = s.acks ∧ (s.moveQc z old new).panelStatus = s.panelStatus ∧
    (s.moveQc z old new).slots = s.slots ∧ (s.moveQc z old new).zones = s.zones ∧
    (s.moveQc z old new).doors = s.doors ∧ (s.moveQc z old new).groupMask = s.groupMask ∧
    (s.moveQc z old new).loads = s.loads ∧ (s.moveQc z old new).markHigh = s.markHigh ∧
    (s.moveQc z old new).screen = s.screen ∧ (s.moveQc z old new).overrides = s.overrides ∧
    (s.moveQc z old new).alloc = s.alloc ∧ (s.moveQc z old new).sources = s.sources ∧
    (s.moveQc z old new).channels = s.channels ∧ (s.moveQc z old new).inFlight = s.inFlight ∧
    (s.moveQc z old new).pending = s.pending ∧
    (s.moveQc z old new).draws = s.draws := by
  unfold State.moveQc; and_intros <;> (try simp only []) <;> (repeat' split) <;> simp

@[simp] theorem State.commitZone_frame (s : State) (z : Fin 8) (old new : ZoneRow) :
    (s.commitZone z old new).part = s.part ∧ (s.commitZone z old new).node = s.node ∧
    (s.commitZone z old new).rate = s.rate ∧ (s.commitZone z old new).active = s.active ∧
    (s.commitZone z old new).shadow = s.shadow ∧ (s.commitZone z old new).marks = s.marks ∧
    (s.commitZone z old new).engine = s.engine ∧ (s.commitZone z old new).flags = s.flags ∧
    (s.commitZone z old new).vehicle = s.vehicle ∧ (s.commitZone z old new).climate = s.climate ∧
    (s.commitZone z old new).responses = s.responses ∧ (s.commitZone z old new).acks = s.acks ∧
    (s.commitZone z old new).panelStatus = s.panelStatus ∧ (s.commitZone z old new).slots = s.slots ∧
    (s.commitZone z old new).doors = s.doors ∧ (s.commitZone z old new).groupMask = s.groupMask ∧
    (s.commitZone z old new).loads = s.loads ∧ (s.commitZone z old new).markHigh = s.markHigh ∧
    (s.commitZone z old new).screen = s.screen ∧ (s.commitZone z old new).overrides = s.overrides ∧
    (s.commitZone z old new).alloc = s.alloc ∧ (s.commitZone z old new).sources = s.sources ∧
    (s.commitZone z old new).channels = s.channels ∧ (s.commitZone z old new).pending = s.pending ∧
    (s.commitZone z old new).channels = s.channels ∧ (s.commitZone z old new).draws = s.draws := by
  unfold State.commitZone; and_intros <;> (try simp only []) <;> (repeat' split) <;> simp

@[simp] theorem State.commitSect_frame (s : State) (old : State) (k : Fin 3) :
    (State.commitSect old s k).part = s.part ∧ (State.commitSect old s k).node = s.node ∧
    (State.commitSect old s k).rate = s.rate ∧ (State.commitSect old s k).active = s.active ∧
    (State.commitSect old s k).shadow = s.shadow ∧ (State.commitSect old s k).marks = s.marks ∧
    (State.commitSect old s k).engine = s.engine ∧ (State.commitSect old s k).flags = s.flags ∧
    (State.commitSect old s k).vehicle = s.vehicle ∧ (State.commitSect old s k).climate = s.climate ∧
    (State.commitSect old s k).responses = s.responses ∧ (State.commitSect old s k).acks = s.acks ∧
    (State.commitSect old s k).panelStatus = s.panelStatus ∧ (State.commitSect old s k).slots = s.slots ∧
    (State.commitSect old s k).zones = s.zones ∧ (State.commitSect old s k).doors = s.doors ∧
    (State.commitSect old s k).groupMask = s.groupMask ∧ (State.commitSect old s k).loads = s.loads ∧
    (State.commitSect old s k).markHigh = s.markHigh ∧ (State.commitSect old s k).screen = s.screen ∧
    (State.commitSect old s k).overrides = s.overrides ∧ (State.commitSect old s k).alloc = s.alloc ∧
    (State.commitSect old s k).sources = s.sources ∧ (State.commitSect old s k).channels = s.channels ∧
    (State.commitSect old s k).pending = s.pending ∧
    (State.commitSect old s k).draws = s.draws := by
  unfold State.commitSect; and_intros <;> (try simp only []) <;> (repeat' split) <;> simp

@[simp] theorem State.commitSlot_frame (s : State) (old : State) :
    (State.commitSlot old s).part = s.part ∧ (State.commitSlot old s).node = s.node ∧
    (State.commitSlot old s).rate = s.rate ∧ (State.commitSlot old s).active = s.active ∧
    (State.commitSlot old s).shadow = s.shadow ∧ (State.commitSlot old s).marks = s.marks ∧
    (State.commitSlot old s).engine = s.engine ∧ (State.commitSlot old s).flags = s.flags ∧
    (State.commitSlot old s).vehicle = s.vehicle ∧ (State.commitSlot old s).climate = s.climate ∧
    (State.commitSlot old s).responses = s.responses ∧ (State.commitSlot old s).acks = s.acks ∧
    (State.commitSlot old s).panelStatus = s.panelStatus ∧ (State.commitSlot old s).zones = s.zones ∧
    (State.commitSlot old s).coolers = s.coolers ∧ (State.commitSlot old s).doors = s.doors ∧
    (State.commitSlot old s).groupMask = s.groupMask ∧ (State.commitSlot old s).loads = s.loads ∧
    (State.commitSlot old s).markHigh = s.markHigh ∧ (State.commitSlot old s).screen = s.screen ∧
    (State.commitSlot old s).overrides = s.overrides ∧ (State.commitSlot old s).alloc = s.alloc ∧
    (State.commitSlot old s).sources = s.sources ∧ (State.commitSlot old s).channels = s.channels ∧
    (State.commitSlot old s).pending = s.pending ∧
    (State.commitSlot old s).draws = s.draws := by
  unfold State.commitSlot; and_intros <;> apply forEach_keeps <;> intro i t <;> (try simp only []) <;> (repeat' split) <;> simp

@[simp] theorem State.commitZoneRows_frame (s : State) (old : State) :
    (State.commitZoneRows old s).part = s.part ∧ (State.commitZoneRows old s).node = s.node ∧
    (State.commitZoneRows old s).rate = s.rate ∧ (State.commitZoneRows old s).active = s.active ∧
    (State.commitZoneRows old s).shadow = s.shadow ∧ (State.commitZoneRows old s).marks = s.marks ∧
    (State.commitZoneRows old s).engine = s.engine ∧ (State.commitZoneRows old s).flags = s.flags ∧
    (State.commitZoneRows old s).vehicle = s.vehicle ∧ (State.commitZoneRows old s).climate = s.climate ∧
    (State.commitZoneRows old s).responses = s.responses ∧ (State.commitZoneRows old s).acks = s.acks ∧
    (State.commitZoneRows old s).panelStatus = s.panelStatus ∧ (State.commitZoneRows old s).slots = s.slots ∧
    (State.commitZoneRows old s).doors = s.doors ∧ (State.commitZoneRows old s).groupMask = s.groupMask ∧
    (State.commitZoneRows old s).loads = s.loads ∧ (State.commitZoneRows old s).markHigh = s.markHigh ∧
    (State.commitZoneRows old s).screen = s.screen ∧ (State.commitZoneRows old s).overrides = s.overrides ∧
    (State.commitZoneRows old s).alloc = s.alloc ∧ (State.commitZoneRows old s).sources = s.sources ∧
    (State.commitZoneRows old s).channels = s.channels ∧ (State.commitZoneRows old s).pending = s.pending ∧
    (State.commitZoneRows old s).channels = s.channels ∧ (State.commitZoneRows old s).draws = s.draws := by
  unfold State.commitZoneRows; and_intros <;> apply forEach_keeps <;> intro i t <;> (try simp only []) <;> (repeat' split) <;> simp

@[simp] theorem State.commitSectRows_frame (s : State) (old : State) :
    (State.commitSectRows old s).part = s.part ∧ (State.commitSectRows old s).node = s.node ∧
    (State.commitSectRows old s).rate = s.rate ∧ (State.commitSectRows old s).active = s.active ∧
    (State.commitSectRows old s).shadow = s.shadow ∧ (State.commitSectRows old s).marks = s.marks ∧
    (State.commitSectRows old s).engine = s.engine ∧ (State.commitSectRows old s).flags = s.flags ∧
    (State.commitSectRows old s).vehicle = s.vehicle ∧ (State.commitSectRows old s).climate = s.climate ∧
    (State.commitSectRows old s).responses = s.responses ∧ (State.commitSectRows old s).acks = s.acks ∧
    (State.commitSectRows old s).panelStatus = s.panelStatus ∧ (State.commitSectRows old s).slots = s.slots ∧
    (State.commitSectRows old s).zones = s.zones ∧ (State.commitSectRows old s).doors = s.doors ∧
    (State.commitSectRows old s).groupMask = s.groupMask ∧ (State.commitSectRows old s).loads = s.loads ∧
    (State.commitSectRows old s).markHigh = s.markHigh ∧ (State.commitSectRows old s).screen = s.screen ∧
    (State.commitSectRows old s).overrides = s.overrides ∧ (State.commitSectRows old s).alloc = s.alloc ∧
    (State.commitSectRows old s).sources = s.sources ∧ (State.commitSectRows old s).channels = s.channels ∧
    (State.commitSectRows old s).pending = s.pending ∧
    (State.commitSectRows old s).draws = s.draws := by
  unfold State.commitSectRows; and_intros <;> apply forEach_keeps <;> intro i t <;> (try simp only []) <;> (repeat' split) <;> simp

@[simp] theorem State.commitZones_frame (s : State) (old : State) :
    (State.commitZones old s).part = s.part ∧ (State.commitZones old s).node = s.node ∧
    (State.commitZones old s).rate = s.rate ∧ (State.commitZones old s).active = s.active ∧
    (State.commitZones old s).shadow = s.shadow ∧ (State.commitZones old s).marks = s.marks ∧
    (State.commitZones old s).engine = s.engine ∧ (State.commitZones old s).vehicle = s.vehicle ∧
    (State.commitZones old s).climate = s.climate ∧ (State.commitZones old s).responses = s.responses ∧
    (State.commitZones old s).acks = s.acks ∧ (State.commitZones old s).panelStatus = s.panelStatus ∧
    (State.commitZones old s).slots = s.slots ∧ (State.commitZones old s).doors = s.doors ∧
    (State.commitZones old s).groupMask = s.groupMask ∧ (State.commitZones old s).loads = s.loads ∧
    (State.commitZones old s).markHigh = s.markHigh ∧ (State.commitZones old s).screen = s.screen ∧
    (State.commitZones old s).overrides = s.overrides ∧ (State.commitZones old s).sources = s.sources ∧
    (State.commitZones old s).pending = s.pending ∧
    (State.commitZones old s).draws = s.draws := by
  unfold State.commitZones; and_intros <;> (try simp only []) <;> (repeat' split) <;> simp

@[simp] theorem State.commitDoor_frame (s : State) (d : Fin 8) (old new : DoorRow) :
    (s.commitDoor d old new).part = s.part ∧ (s.commitDoor d old new).node = s.node ∧
    (s.commitDoor d old new).rate = s.rate ∧ (s.commitDoor d old new).active = s.active ∧
    (s.commitDoor d old new).shadow = s.shadow ∧ (s.commitDoor d old new).marks = s.marks ∧
    (s.commitDoor d old new).engine = s.engine ∧ (s.commitDoor d old new).vehicle = s.vehicle ∧
    (s.commitDoor d old new).climate = s.climate ∧ (s.commitDoor d old new).responses = s.responses ∧
    (s.commitDoor d old new).acks = s.acks ∧ (s.commitDoor d old new).panelStatus = s.panelStatus ∧
    (s.commitDoor d old new).slots = s.slots ∧ (s.commitDoor d old new).zones = s.zones ∧
    (s.commitDoor d old new).coolers = s.coolers ∧ (s.commitDoor d old new).groupMask = s.groupMask ∧
    (s.commitDoor d old new).loads = s.loads ∧ (s.commitDoor d old new).markHigh = s.markHigh ∧
    (s.commitDoor d old new).screen = s.screen ∧ (s.commitDoor d old new).overrides = s.overrides ∧
    (s.commitDoor d old new).alloc = s.alloc ∧ (s.commitDoor d old new).sources = s.sources ∧
    (s.commitDoor d old new).channels = s.channels ∧ (s.commitDoor d old new).pending = s.pending ∧
    (s.commitDoor d old new).channels = s.channels ∧ (s.commitDoor d old new).draws = s.draws := by
  unfold State.commitDoor; and_intros <;> (try simp only []) <;> (repeat' split) <;> simp

@[simp] theorem State.commitDoors_frame (s : State) (old : State) :
    (State.commitDoors old s).part = s.part ∧ (State.commitDoors old s).node = s.node ∧
    (State.commitDoors old s).rate = s.rate ∧ (State.commitDoors old s).active = s.active ∧
    (State.commitDoors old s).shadow = s.shadow ∧ (State.commitDoors old s).marks = s.marks ∧
    (State.commitDoors old s).engine = s.engine ∧ (State.commitDoors old s).vehicle = s.vehicle ∧
    (State.commitDoors old s).climate = s.climate ∧ (State.commitDoors old s).responses = s.responses ∧
    (State.commitDoors old s).acks = s.acks ∧ (State.commitDoors old s).panelStatus = s.panelStatus ∧
    (State.commitDoors old s).slots = s.slots ∧ (State.commitDoors old s).zones = s.zones ∧
    (State.commitDoors old s).coolers = s.coolers ∧ (State.commitDoors old s).groupMask = s.groupMask ∧
    (State.commitDoors old s).loads = s.loads ∧ (State.commitDoors old s).markHigh = s.markHigh ∧
    (State.commitDoors old s).screen = s.screen ∧ (State.commitDoors old s).overrides = s.overrides ∧
    (State.commitDoors old s).alloc = s.alloc ∧ (State.commitDoors old s).sources = s.sources ∧
    (State.commitDoors old s).channels = s.channels ∧ (State.commitDoors old s).pending = s.pending ∧
    (State.commitDoors old s).channels = s.channels ∧ (State.commitDoors old s).draws = s.draws := by
  unfold State.commitDoors; and_intros <;> apply forEach_keeps <;> intro i t <;> (try simp only []) <;> (repeat' split) <;> simp

@[simp] theorem State.commitBand_frame (s : State) :
    (s.commitBand).part = s.part ∧ (s.commitBand).node = s.node ∧ (s.commitBand).rate = s.rate ∧
    (s.commitBand).active = s.active ∧ (s.commitBand).shadow = s.shadow ∧ (s.commitBand).marks = s.marks ∧
    (s.commitBand).engine = s.engine ∧ (s.commitBand).flags = s.flags ∧ (s.commitBand).vehicle = s.vehicle ∧
    (s.commitBand).climate = s.climate ∧ (s.commitBand).responses = s.responses ∧ (s.commitBand).acks = s.acks ∧
    (s.commitBand).panelStatus = s.panelStatus ∧ (s.commitBand).slots = s.slots ∧ (s.commitBand).zones = s.zones ∧
    (s.commitBand).coolers = s.coolers ∧ (s.commitBand).doors = s.doors ∧ (s.commitBand).groupMask = s.groupMask ∧
    (s.commitBand).markHigh = s.markHigh ∧ (s.commitBand).screen = s.screen ∧
    (s.commitBand).overrides = s.overrides ∧ (s.commitBand).alloc = s.alloc ∧ (s.commitBand).sources = s.sources ∧
    (s.commitBand).channels = s.channels ∧ (s.commitBand).inFlight = s.inFlight ∧ (s.commitBand).pending = s.pending ∧
    (s.commitBand).channels = s.channels ∧ (s.commitBand).inFlight = s.inFlight ∧ (s.commitBand).draws = s.draws := by
  unfold State.commitBand; and_intros <;> apply forEach_keeps <;> intro i t <;> (try simp only []) <;> (repeat' split) <;> simp

@[simp] theorem State.commitStage_frame (s : State) :
    (s.commitStage).part = s.part ∧ (s.commitStage).node = s.node ∧ (s.commitStage).rate = s.rate ∧
    (s.commitStage).active = s.active ∧ (s.commitStage).shadow = s.shadow ∧ (s.commitStage).marks = s.marks ∧
    (s.commitStage).engine = s.engine ∧ (s.commitStage).vehicle = s.vehicle ∧ (s.commitStage).climate = s.climate ∧
    (s.commitStage).responses = s.responses ∧ (s.commitStage).acks = s.acks ∧
    (s.commitStage).panelStatus = s.panelStatus ∧ (s.commitStage).slots = s.slots ∧
    (s.commitStage).zones = s.zones ∧ (s.commitStage).coolers = s.coolers ∧ (s.commitStage).doors = s.doors ∧
    (s.commitStage).groupMask = s.groupMask ∧ (s.commitStage).loads = s.loads ∧
    (s.commitStage).markHigh = s.markHigh ∧ (s.commitStage).overrides = s.overrides ∧
    (s.commitStage).sources = s.sources ∧ (s.commitStage).pending = s.pending ∧
    (s.commitStage).sources = s.sources ∧ (s.commitStage).draws = s.draws := by
  unfold State.commitStage; and_intros <;> (try simp only []) <;> (repeat' split) <;> simp

@[simp] theorem State.commitClaim_frame (s : State) :
    (s.commitClaim).part = s.part ∧ (s.commitClaim).node = s.node ∧ (s.commitClaim).rate = s.rate ∧
    (s.commitClaim).active = s.active ∧ (s.commitClaim).shadow = s.shadow ∧ (s.commitClaim).marks = s.marks ∧
    (s.commitClaim).engine = s.engine ∧ (s.commitClaim).vehicle = s.vehicle ∧ (s.commitClaim).climate = s.climate ∧
    (s.commitClaim).responses = s.responses ∧ (s.commitClaim).acks = s.acks ∧
    (s.commitClaim).panelStatus = s.panelStatus ∧ (s.commitClaim).slots = s.slots ∧
    (s.commitClaim).zones = s.zones ∧ (s.commitClaim).doors = s.doors ∧ (s.commitClaim).groupMask = s.groupMask ∧
    (s.commitClaim).loads = s.loads ∧ (s.commitClaim).markHigh = s.markHigh ∧ (s.commitClaim).screen = s.screen ∧
    (s.commitClaim).overrides = s.overrides ∧ (s.commitClaim).sources = s.sources ∧
    (s.commitClaim).channels = s.channels ∧ (s.commitClaim).pending = s.pending ∧
    (s.commitClaim).channels = s.channels ∧ (s.commitClaim).draws = s.draws := by
  unfold State.commitClaim; and_intros <;> (try simp only []) <;> (repeat' split) <;> simp

@[simp] theorem State.commitBudget_frame (s : State) :
    (s.commitBudget).part = s.part ∧ (s.commitBudget).node = s.node ∧ (s.commitBudget).rate = s.rate ∧
    (s.commitBudget).active = s.active ∧ (s.commitBudget).shadow = s.shadow ∧ (s.commitBudget).marks = s.marks ∧
    (s.commitBudget).engine = s.engine ∧ (s.commitBudget).vehicle = s.vehicle ∧
    (s.commitBudget).climate = s.climate ∧ (s.commitBudget).responses = s.responses ∧
    (s.commitBudget).acks = s.acks ∧ (s.commitBudget).panelStatus = s.panelStatus ∧
    (s.commitBudget).slots = s.slots ∧ (s.commitBudget).zones = s.zones ∧ (s.commitBudget).coolers = s.coolers ∧
    (s.commitBudget).doors = s.doors ∧ (s.commitBudget).groupMask = s.groupMask ∧
    (s.commitBudget).loads = s.loads ∧ (s.commitBudget).markHigh = s.markHigh ∧
    (s.commitBudget).screen = s.screen ∧ (s.commitBudget).overrides = s.overrides ∧
    (s.commitBudget).sources = s.sources ∧ (s.commitBudget).channels = s.channels ∧
    (s.commitBudget).pending = s.pending ∧
    (s.commitBudget).draws = s.draws := by
  unfold State.commitBudget; and_intros <;> (try simp only []) <;> (repeat' split) <;> simp

@[simp] theorem State.detachChannel_frame (s : State) (c : Fin 24) :
    (s.detachChannel c).part = s.part ∧ (s.detachChannel c).node = s.node ∧ (s.detachChannel c).rate = s.rate ∧
    (s.detachChannel c).active = s.active ∧ (s.detachChannel c).shadow = s.shadow ∧
    (s.detachChannel c).marks = s.marks ∧ (s.detachChannel c).engine = s.engine ∧
    (s.detachChannel c).flags = s.flags ∧ (s.detachChannel c).vehicle = s.vehicle ∧
    (s.detachChannel c).responses = s.responses ∧ (s.detachChannel c).acks = s.acks ∧
    (s.detachChannel c).panelStatus = s.panelStatus ∧ (s.detachChannel c).slots = s.slots ∧
    (s.detachChannel c).zones = s.zones ∧ (s.detachChannel c).coolers = s.coolers ∧
    (s.detachChannel c).doors = s.doors ∧ (s.detachChannel c).groupMask = s.groupMask ∧
    (s.detachChannel c).loads = s.loads ∧ (s.detachChannel c).markHigh = s.markHigh ∧
    (s.detachChannel c).screen = s.screen ∧ (s.detachChannel c).overrides = s.overrides ∧
    (s.detachChannel c).alloc = s.alloc ∧ (s.detachChannel c).sources = s.sources ∧
    (s.detachChannel c).channels = s.channels ∧ (s.detachChannel c).inFlight = s.inFlight ∧
    (s.detachChannel c).pending = s.pending ∧
    (s.detachChannel c).draws = s.draws := by
  and_intros <;> rfl

@[simp] theorem State.beginChannel_frame (s : State) (c : Fin 24) :
    (s.beginChannel c).part = s.part ∧ (s.beginChannel c).node = s.node ∧ (s.beginChannel c).rate = s.rate ∧
    (s.beginChannel c).active = s.active ∧ (s.beginChannel c).shadow = s.shadow ∧
    (s.beginChannel c).marks = s.marks ∧ (s.beginChannel c).engine = s.engine ∧
    (s.beginChannel c).flags = s.flags ∧ (s.beginChannel c).vehicle = s.vehicle ∧
    (s.beginChannel c).climate = s.climate ∧ (s.beginChannel c).responses = s.responses ∧
    (s.beginChannel c).acks = s.acks ∧ (s.beginChannel c).panelStatus = s.panelStatus ∧
    (s.beginChannel c).slots = s.slots ∧ (s.beginChannel c).zones = s.zones ∧
    (s.beginChannel c).coolers = s.coolers ∧ (s.beginChannel c).doors = s.doors ∧
    (s.beginChannel c).groupMask = s.groupMask ∧ (s.beginChannel c).loads = s.loads ∧
    (s.beginChannel c).markHigh = s.markHigh ∧ (s.beginChannel c).screen = s.screen ∧
    (s.beginChannel c).overrides = s.overrides ∧ (s.beginChannel c).alloc = s.alloc ∧
    (s.beginChannel c).sources = s.sources ∧ (s.beginChannel c).inFlight = s.inFlight ∧
    (s.beginChannel c).pending = s.pending ∧
    (s.beginChannel c).draws = s.draws := by
  unfold State.beginChannel; and_intros <;> (try simp only []) <;> (repeat' split) <;> simp

@[simp] theorem State.clearChannel_frame (s : State) (c : Fin 24) :
    (s.clearChannel c).part = s.part ∧ (s.clearChannel c).node = s.node ∧ (s.clearChannel c).rate = s.rate ∧
    (s.clearChannel c).active = s.active ∧ (s.clearChannel c).shadow = s.shadow ∧
    (s.clearChannel c).marks = s.marks ∧ (s.clearChannel c).engine = s.engine ∧
    (s.clearChannel c).flags = s.flags ∧ (s.clearChannel c).vehicle = s.vehicle ∧
    (s.clearChannel c).responses = s.responses ∧ (s.clearChannel c).acks = s.acks ∧
    (s.clearChannel c).panelStatus = s.panelStatus ∧ (s.clearChannel c).slots = s.slots ∧
    (s.clearChannel c).zones = s.zones ∧ (s.clearChannel c).coolers = s.coolers ∧
    (s.clearChannel c).doors = s.doors ∧ (s.clearChannel c).groupMask = s.groupMask ∧
    (s.clearChannel c).loads = s.loads ∧ (s.clearChannel c).markHigh = s.markHigh ∧
    (s.clearChannel c).screen = s.screen ∧ (s.clearChannel c).overrides = s.overrides ∧
    (s.clearChannel c).alloc = s.alloc ∧ (s.clearChannel c).sources = s.sources ∧
    (s.clearChannel c).inFlight = s.inFlight ∧ (s.clearChannel c).pending = s.pending ∧
    (s.clearChannel c).inFlight = s.inFlight ∧ (s.clearChannel c).draws = s.draws := by
  unfold State.clearChannel; and_intros <;> (try simp only []) <;> (repeat' split) <;> simp

@[simp] theorem State.clearChannels_frame (s : State) (cs : List (Fin 24)) :
    (s.clearChannels cs).part = s.part ∧ (s.clearChannels cs).node = s.node ∧ (s.clearChannels cs).rate = s.rate ∧
    (s.clearChannels cs).active = s.active ∧ (s.clearChannels cs).shadow = s.shadow ∧
    (s.clearChannels cs).marks = s.marks ∧ (s.clearChannels cs).engine = s.engine ∧
    (s.clearChannels cs).flags = s.flags ∧ (s.clearChannels cs).vehicle = s.vehicle ∧
    (s.clearChannels cs).responses = s.responses ∧ (s.clearChannels cs).acks = s.acks ∧
    (s.clearChannels cs).panelStatus = s.panelStatus ∧ (s.clearChannels cs).slots = s.slots ∧
    (s.clearChannels cs).zones = s.zones ∧ (s.clearChannels cs).coolers = s.coolers ∧
    (s.clearChannels cs).doors = s.doors ∧ (s.clearChannels cs).groupMask = s.groupMask ∧
    (s.clearChannels cs).loads = s.loads ∧ (s.clearChannels cs).markHigh = s.markHigh ∧
    (s.clearChannels cs).screen = s.screen ∧ (s.clearChannels cs).overrides = s.overrides ∧
    (s.clearChannels cs).alloc = s.alloc ∧ (s.clearChannels cs).sources = s.sources ∧
    (s.clearChannels cs).inFlight = s.inFlight ∧ (s.clearChannels cs).pending = s.pending ∧
    (s.clearChannels cs).inFlight = s.inFlight ∧ (s.clearChannels cs).draws = s.draws := by
  unfold State.clearChannels; and_intros <;> apply foldl_keeps <;> intro t a <;> (try simp only []) <;> (repeat' split) <;> simp

@[simp] theorem State.beginChannels_frame (s : State) (cs : List (Fin 24)) :
    (s.beginChannels cs).part = s.part ∧ (s.beginChannels cs).node = s.node ∧ (s.beginChannels cs).rate = s.rate ∧
    (s.beginChannels cs).active = s.active ∧ (s.beginChannels cs).shadow = s.shadow ∧
    (s.beginChannels cs).marks = s.marks ∧ (s.beginChannels cs).engine = s.engine ∧
    (s.beginChannels cs).flags = s.flags ∧ (s.beginChannels cs).vehicle = s.vehicle ∧
    (s.beginChannels cs).climate = s.climate ∧ (s.beginChannels cs).responses = s.responses ∧
    (s.beginChannels cs).acks = s.acks ∧ (s.beginChannels cs).panelStatus = s.panelStatus ∧
    (s.beginChannels cs).slots = s.slots ∧ (s.beginChannels cs).zones = s.zones ∧
    (s.beginChannels cs).coolers = s.coolers ∧ (s.beginChannels cs).doors = s.doors ∧
    (s.beginChannels cs).groupMask = s.groupMask ∧ (s.beginChannels cs).loads = s.loads ∧
    (s.beginChannels cs).markHigh = s.markHigh ∧ (s.beginChannels cs).screen = s.screen ∧
    (s.beginChannels cs).overrides = s.overrides ∧ (s.beginChannels cs).alloc = s.alloc ∧
    (s.beginChannels cs).sources = s.sources ∧ (s.beginChannels cs).inFlight = s.inFlight ∧
    (s.beginChannels cs).pending = s.pending ∧
    (s.beginChannels cs).draws = s.draws := by
  unfold State.beginChannels; and_intros <;> apply foldl_keeps <;> intro t a <;> (try simp only []) <;> (repeat' split) <;> simp

@[simp] theorem State.commitOutput_frame (s : State) (old : State) :
    (State.commitOutput old s).part = s.part ∧ (State.commitOutput old s).node = s.node ∧
    (State.commitOutput old s).rate = s.rate ∧ (State.commitOutput old s).active = s.active ∧
    (State.commitOutput old s).shadow = s.shadow ∧ (State.commitOutput old s).marks = s.marks ∧
    (State.commitOutput old s).engine = s.engine ∧ (State.commitOutput old s).vehicle = s.vehicle ∧
    (State.commitOutput old s).responses = s.responses ∧ (State.commitOutput old s).acks = s.acks ∧
    (State.commitOutput old s).panelStatus = s.panelStatus ∧ (State.commitOutput old s).slots = s.slots ∧
    (State.commitOutput old s).zones = s.zones ∧ (State.commitOutput old s).coolers = s.coolers ∧
    (State.commitOutput old s).doors = s.doors ∧ (State.commitOutput old s).groupMask = s.groupMask ∧
    (State.commitOutput old s).loads = s.loads ∧ (State.commitOutput old s).markHigh = s.markHigh ∧
    (State.commitOutput old s).screen = s.screen ∧ (State.commitOutput old s).overrides = s.overrides ∧
    (State.commitOutput old s).sources = s.sources ∧ (State.commitOutput old s).pending = s.pending ∧
    (State.commitOutput old s).sources = s.sources ∧ (State.commitOutput old s).draws = s.draws := by
  unfold State.commitOutput; and_intros <;> (try simp only []) <;> (repeat' split) <;> simp

@[simp] theorem State.clampLoads_frame (s : State) :
    (s.clampLoads).part = s.part ∧ (s.clampLoads).node = s.node ∧ (s.clampLoads).rate = s.rate ∧
    (s.clampLoads).active = s.active ∧ (s.clampLoads).shadow = s.shadow ∧ (s.clampLoads).marks = s.marks ∧
    (s.clampLoads).engine = s.engine ∧ (s.clampLoads).vehicle = s.vehicle ∧ (s.clampLoads).climate = s.climate ∧
    (s.clampLoads).responses = s.responses ∧ (s.clampLoads).acks = s.acks ∧
    (s.clampLoads).panelStatus = s.panelStatus ∧ (s.clampLoads).slots = s.slots ∧ (s.clampLoads).zones = s.zones ∧
    (s.clampLoads).coolers = s.coolers ∧ (s.clampLoads).doors = s.doors ∧ (s.clampLoads).groupMask = s.groupMask ∧
    (s.clampLoads).markHigh = s.markHigh ∧ (s.clampLoads).screen = s.screen ∧
    (s.clampLoads).overrides = s.overrides ∧ (s.clampLoads).alloc = s.alloc ∧ (s.clampLoads).sources = s.sources ∧
    (s.clampLoads).channels = s.channels ∧ (s.clampLoads).inFlight = s.inFlight ∧ (s.clampLoads).pending = s.pending ∧
    (s.clampLoads).channels = s.channels ∧ (s.clampLoads).inFlight = s.inFlight ∧ (s.clampLoads).draws = s.draws := by
  unfold State.clampLoads; and_intros <;> apply forEach_keeps <;> intro i t <;> (try simp only []) <;> (repeat' split) <;> simp

@[simp] theorem State.systemLoad_frame (s : State) (old : State) :
    (State.systemLoad old s).part = s.part ∧ (State.systemLoad old s).node = s.node ∧
    (State.systemLoad old s).rate = s.rate ∧ (State.systemLoad old s).active = s.active ∧
    (State.systemLoad old s).shadow = s.shadow ∧ (State.systemLoad old s).marks = s.marks ∧
    (State.systemLoad old s).engine = s.engine ∧ (State.systemLoad old s).vehicle = s.vehicle ∧
    (State.systemLoad old s).climate = s.climate ∧ (State.systemLoad old s).responses = s.responses ∧
    (State.systemLoad old s).acks = s.acks ∧ (State.systemLoad old s).panelStatus = s.panelStatus ∧
    (State.systemLoad old s).slots = s.slots ∧ (State.systemLoad old s).zones = s.zones ∧
    (State.systemLoad old s).coolers = s.coolers ∧ (State.systemLoad old s).doors = s.doors ∧
    (State.systemLoad old s).groupMask = s.groupMask ∧ (State.systemLoad old s).screen = s.screen ∧
    (State.systemLoad old s).overrides = s.overrides ∧ (State.systemLoad old s).alloc = s.alloc ∧
    (State.systemLoad old s).sources = s.sources ∧ (State.systemLoad old s).channels = s.channels ∧
    (State.systemLoad old s).inFlight = s.inFlight ∧ (State.systemLoad old s).pending = s.pending ∧
    (State.systemLoad old s).inFlight = s.inFlight ∧ (State.systemLoad old s).draws = s.draws := by
  unfold State.systemLoad; and_intros <;> (try simp only []) <;> (repeat' split) <;> simp

@[simp] theorem State.systemScreen_frame (s : State) (old : State) :
    (State.systemScreen old s).part = s.part ∧ (State.systemScreen old s).node = s.node ∧
    (State.systemScreen old s).rate = s.rate ∧ (State.systemScreen old s).active = s.active ∧
    (State.systemScreen old s).shadow = s.shadow ∧ (State.systemScreen old s).marks = s.marks ∧
    (State.systemScreen old s).engine = s.engine ∧ (State.systemScreen old s).flags = s.flags ∧
    (State.systemScreen old s).vehicle = s.vehicle ∧ (State.systemScreen old s).climate = s.climate ∧
    (State.systemScreen old s).responses = s.responses ∧ (State.systemScreen old s).acks = s.acks ∧
    (State.systemScreen old s).panelStatus = s.panelStatus ∧ (State.systemScreen old s).slots = s.slots ∧
    (State.systemScreen old s).zones = s.zones ∧ (State.systemScreen old s).coolers = s.coolers ∧
    (State.systemScreen old s).doors = s.doors ∧ (State.systemScreen old s).groupMask = s.groupMask ∧
    (State.systemScreen old s).loads = s.loads ∧ (State.systemScreen old s).markHigh = s.markHigh ∧
    (State.systemScreen old s).overrides = s.overrides ∧ (State.systemScreen old s).alloc = s.alloc ∧
    (State.systemScreen old s).sources = s.sources ∧ (State.systemScreen old s).channels = s.channels ∧
    (State.systemScreen old s).inFlight = s.inFlight ∧ (State.systemScreen old s).pending = s.pending ∧
    (State.systemScreen old s).inFlight = s.inFlight ∧ (State.systemScreen old s).draws = s.draws := by
  unfold State.systemScreen; and_intros <;> (try simp only []) <;> (repeat' split) <;> simp

@[simp] theorem State.systemAlloc_frame (s : State) (old : State) :
    (State.systemAlloc old s).part = s.part ∧ (State.systemAlloc old s).node = s.node ∧
    (State.systemAlloc old s).rate = s.rate ∧ (State.systemAlloc old s).active = s.active ∧
    (State.systemAlloc old s).shadow = s.shadow ∧ (State.systemAlloc old s).marks = s.marks ∧
    (State.systemAlloc old s).engine = s.engine ∧ (State.systemAlloc old s).vehicle = s.vehicle ∧
    (State.systemAlloc old s).climate = s.climate ∧ (State.systemAlloc old s).responses = s.responses ∧
    (State.systemAlloc old s).acks = s.acks ∧ (State.systemAlloc old s).panelStatus = s.panelStatus ∧
    (State.systemAlloc old s).slots = s.slots ∧ (State.systemAlloc old s).zones = s.zones ∧
    (State.systemAlloc old s).coolers = s.coolers ∧ (State.systemAlloc old s).doors = s.doors ∧
    (State.systemAlloc old s).groupMask = s.groupMask ∧ (State.systemAlloc old s).loads = s.loads ∧
    (State.systemAlloc old s).markHigh = s.markHigh ∧ (State.systemAlloc old s).screen = s.screen ∧
    (State.systemAlloc old s).overrides = s.overrides ∧ (State.systemAlloc old s).sources = s.sources ∧
    (State.systemAlloc old s).channels = s.channels ∧ (State.systemAlloc old s).pending = s.pending ∧
    (State.systemAlloc old s).channels = s.channels ∧ (State.systemAlloc old s).draws = s.draws := by
  unfold State.systemAlloc; and_intros <;> (try simp only []) <;> (repeat' split) <;> simp

@[simp] theorem State.commitSystem_frame (s : State) (old : State) :
    (State.commitSystem old s).part = s.part ∧ (State.commitSystem old s).node = s.node ∧
    (State.commitSystem old s).rate = s.rate ∧ (State.commitSystem old s).active = s.active ∧
    (State.commitSystem old s).shadow = s.shadow ∧ (State.commitSystem old s).marks = s.marks ∧
    (State.commitSystem old s).engine = s.engine ∧ (State.commitSystem old s).vehicle = s.vehicle ∧
    (State.commitSystem old s).climate = s.climate ∧ (State.commitSystem old s).responses = s.responses ∧
    (State.commitSystem old s).acks = s.acks ∧ (State.commitSystem old s).panelStatus = s.panelStatus ∧
    (State.commitSystem old s).slots = s.slots ∧ (State.commitSystem old s).zones = s.zones ∧
    (State.commitSystem old s).doors = s.doors ∧ (State.commitSystem old s).groupMask = s.groupMask ∧
    (State.commitSystem old s).overrides = s.overrides ∧ (State.commitSystem old s).sources = s.sources ∧
    (State.commitSystem old s).channels = s.channels ∧ (State.commitSystem old s).pending = s.pending ∧
    (State.commitSystem old s).channels = s.channels ∧ (State.commitSystem old s).draws = s.draws := by
  unfold State.commitSystem; and_intros <;> (try simp only []) <;> (repeat' split) <;> simp

@[simp] theorem State.installBank_frame (s : State) (t : TableId) :
    (s.installBank t).part = s.part ∧ (s.installBank t).node = s.node ∧ (s.installBank t).rate = s.rate ∧
    (s.installBank t).shadow = s.shadow ∧ (s.installBank t).engine = s.engine ∧ (s.installBank t).flags = s.flags ∧
    (s.installBank t).vehicle = s.vehicle ∧ (s.installBank t).climate = s.climate ∧
    (s.installBank t).responses = s.responses ∧ (s.installBank t).acks = s.acks ∧
    (s.installBank t).panelStatus = s.panelStatus ∧ (s.installBank t).slots = s.slots ∧
    (s.installBank t).zones = s.zones ∧ (s.installBank t).coolers = s.coolers ∧ (s.installBank t).doors = s.doors ∧
    (s.installBank t).groupMask = s.groupMask ∧ (s.installBank t).loads = s.loads ∧
    (s.installBank t).markHigh = s.markHigh ∧ (s.installBank t).screen = s.screen ∧
    (s.installBank t).overrides = s.overrides ∧ (s.installBank t).alloc = s.alloc ∧
    (s.installBank t).sources = s.sources ∧ (s.installBank t).channels = s.channels ∧
    (s.installBank t).inFlight = s.inFlight ∧ (s.installBank t).pending = s.pending ∧
    (s.installBank t).inFlight = s.inFlight ∧ (s.installBank t).draws = s.draws := by
  and_intros <;> rfl

@[simp] theorem State.commitTable_frame (s : State) (t : TableId) :
    (s.commitTable t).part = s.part ∧ (s.commitTable t).node = s.node ∧ (s.commitTable t).rate = s.rate ∧
    (s.commitTable t).shadow = s.shadow ∧ (s.commitTable t).engine = s.engine ∧
    (s.commitTable t).vehicle = s.vehicle ∧ (s.commitTable t).responses = s.responses ∧
    (s.commitTable t).acks = s.acks ∧ (s.commitTable t).panelStatus = s.panelStatus ∧
    (s.commitTable t).groupMask = s.groupMask ∧ (s.commitTable t).overrides = s.overrides ∧
    (s.commitTable t).sources = s.sources ∧ (s.commitTable t).pending = s.pending ∧
    (s.commitTable t).sources = s.sources ∧ (s.commitTable t).draws = s.draws := by
  unfold State.commitTable; cases t <;> simp

/-! ### START and STOP -/

@[simp] theorem State.startZone_frame (s : State) (z : Fin 8) :
    (s.startZone z).part = s.part ∧ (s.startZone z).node = s.node ∧ (s.startZone z).rate = s.rate ∧
    (s.startZone z).active = s.active ∧ (s.startZone z).shadow = s.shadow ∧ (s.startZone z).marks = s.marks ∧
    (s.startZone z).engine = s.engine ∧ (s.startZone z).flags = s.flags ∧ (s.startZone z).vehicle = s.vehicle ∧
    (s.startZone z).climate = s.climate ∧ (s.startZone z).responses = s.responses ∧ (s.startZone z).acks = s.acks ∧
    (s.startZone z).panelStatus = s.panelStatus ∧ (s.startZone z).slots = s.slots ∧
    (s.startZone z).coolers = s.coolers ∧ (s.startZone z).doors = s.doors ∧
    (s.startZone z).groupMask = s.groupMask ∧ (s.startZone z).loads = s.loads ∧
    (s.startZone z).markHigh = s.markHigh ∧ (s.startZone z).screen = s.screen ∧
    (s.startZone z).overrides = s.overrides ∧ (s.startZone z).alloc = s.alloc ∧
    (s.startZone z).sources = s.sources ∧ (s.startZone z).channels = s.channels ∧
    (s.startZone z).pending = s.pending ∧
    (s.startZone z).draws = s.draws := by
  unfold State.startZone; and_intros <;> (try simp only []) <;> (repeat' split) <;> simp

@[simp] theorem State.startZones_frame (s : State) :
    (s.startZones).part = s.part ∧ (s.startZones).node = s.node ∧ (s.startZones).rate = s.rate ∧
    (s.startZones).active = s.active ∧ (s.startZones).shadow = s.shadow ∧ (s.startZones).marks = s.marks ∧
    (s.startZones).engine = s.engine ∧ (s.startZones).flags = s.flags ∧ (s.startZones).vehicle = s.vehicle ∧
    (s.startZones).climate = s.climate ∧ (s.startZones).responses = s.responses ∧ (s.startZones).acks = s.acks ∧
    (s.startZones).panelStatus = s.panelStatus ∧ (s.startZones).slots = s.slots ∧
    (s.startZones).coolers = s.coolers ∧ (s.startZones).doors = s.doors ∧ (s.startZones).groupMask = s.groupMask ∧
    (s.startZones).loads = s.loads ∧ (s.startZones).markHigh = s.markHigh ∧ (s.startZones).screen = s.screen ∧
    (s.startZones).overrides = s.overrides ∧ (s.startZones).alloc = s.alloc ∧ (s.startZones).sources = s.sources ∧
    (s.startZones).channels = s.channels ∧ (s.startZones).pending = s.pending ∧
    (s.startZones).channels = s.channels ∧ (s.startZones).draws = s.draws := by
  unfold State.startZones; and_intros <;> apply forEach_keeps <;> intro i t <;> (try simp only []) <;> (repeat' split) <;> simp

@[simp] theorem State.startCoolers_frame (s : State) :
    (s.startCoolers).part = s.part ∧ (s.startCoolers).node = s.node ∧ (s.startCoolers).rate = s.rate ∧
    (s.startCoolers).active = s.active ∧ (s.startCoolers).shadow = s.shadow ∧
    (s.startCoolers).marks = s.marks ∧ (s.startCoolers).engine = s.engine ∧
    (s.startCoolers).flags = s.flags ∧ (s.startCoolers).vehicle = s.vehicle ∧
    (s.startCoolers).climate = s.climate ∧ (s.startCoolers).responses = s.responses ∧
    (s.startCoolers).acks = s.acks ∧ (s.startCoolers).panelStatus = s.panelStatus ∧
    (s.startCoolers).slots = s.slots ∧ (s.startCoolers).zones = s.zones ∧ (s.startCoolers).doors = s.doors ∧
    (s.startCoolers).groupMask = s.groupMask ∧ (s.startCoolers).loads = s.loads ∧
    (s.startCoolers).markHigh = s.markHigh ∧ (s.startCoolers).screen = s.screen ∧
    (s.startCoolers).overrides = s.overrides ∧ (s.startCoolers).alloc = s.alloc ∧
    (s.startCoolers).sources = s.sources ∧ (s.startCoolers).channels = s.channels ∧
    (s.startCoolers).pending = s.pending ∧
    (s.startCoolers).draws = s.draws := by
  unfold State.startCoolers; and_intros <;> simp only [State.coolersCompute_frame] <;> apply forEach_keeps <;> intro i t <;> simp

@[simp] theorem State.startDoor_frame (s : State) (d : Fin 8) :
    (s.startDoor d).part = s.part ∧ (s.startDoor d).node = s.node ∧ (s.startDoor d).rate = s.rate ∧
    (s.startDoor d).active = s.active ∧ (s.startDoor d).shadow = s.shadow ∧ (s.startDoor d).marks = s.marks ∧
    (s.startDoor d).engine = s.engine ∧ (s.startDoor d).flags = s.flags ∧ (s.startDoor d).vehicle = s.vehicle ∧
    (s.startDoor d).climate = s.climate ∧ (s.startDoor d).responses = s.responses ∧ (s.startDoor d).acks = s.acks ∧
    (s.startDoor d).panelStatus = s.panelStatus ∧ (s.startDoor d).slots = s.slots ∧
    (s.startDoor d).zones = s.zones ∧ (s.startDoor d).coolers = s.coolers ∧
    (s.startDoor d).groupMask = s.groupMask ∧ (s.startDoor d).loads = s.loads ∧
    (s.startDoor d).markHigh = s.markHigh ∧ (s.startDoor d).screen = s.screen ∧
    (s.startDoor d).overrides = s.overrides ∧ (s.startDoor d).alloc = s.alloc ∧
    (s.startDoor d).sources = s.sources ∧ (s.startDoor d).channels = s.channels ∧
    (s.startDoor d).inFlight = s.inFlight ∧ (s.startDoor d).pending = s.pending ∧
    (s.startDoor d).inFlight = s.inFlight ∧ (s.startDoor d).draws = s.draws := by
  unfold State.startDoor; and_intros <;> (try simp only []) <;> (repeat' split) <;> simp

@[simp] theorem State.startDoors_frame (s : State) :
    (s.startDoors).part = s.part ∧ (s.startDoors).node = s.node ∧ (s.startDoors).rate = s.rate ∧
    (s.startDoors).active = s.active ∧ (s.startDoors).shadow = s.shadow ∧ (s.startDoors).marks = s.marks ∧
    (s.startDoors).engine = s.engine ∧ (s.startDoors).flags = s.flags ∧ (s.startDoors).vehicle = s.vehicle ∧
    (s.startDoors).climate = s.climate ∧ (s.startDoors).responses = s.responses ∧ (s.startDoors).acks = s.acks ∧
    (s.startDoors).panelStatus = s.panelStatus ∧ (s.startDoors).slots = s.slots ∧ (s.startDoors).zones = s.zones ∧
    (s.startDoors).coolers = s.coolers ∧ (s.startDoors).groupMask = s.groupMask ∧ (s.startDoors).loads = s.loads ∧
    (s.startDoors).markHigh = s.markHigh ∧ (s.startDoors).screen = s.screen ∧
    (s.startDoors).overrides = s.overrides ∧ (s.startDoors).alloc = s.alloc ∧ (s.startDoors).sources = s.sources ∧
    (s.startDoors).channels = s.channels ∧ (s.startDoors).inFlight = s.inFlight ∧ (s.startDoors).pending = s.pending ∧
    (s.startDoors).channels = s.channels ∧ (s.startDoors).inFlight = s.inFlight ∧ (s.startDoors).draws = s.draws := by
  unfold State.startDoors; and_intros <;> apply forEach_keeps <;> intro i t <;> (try simp only []) <;> (repeat' split) <;> simp

@[simp] theorem State.startScreen_frame (s : State) :
    (s.startScreen).part = s.part ∧ (s.startScreen).node = s.node ∧ (s.startScreen).rate = s.rate ∧
    (s.startScreen).active = s.active ∧ (s.startScreen).shadow = s.shadow ∧ (s.startScreen).marks = s.marks ∧
    (s.startScreen).engine = s.engine ∧ (s.startScreen).flags = s.flags ∧ (s.startScreen).vehicle = s.vehicle ∧
    (s.startScreen).climate = s.climate ∧ (s.startScreen).responses = s.responses ∧ (s.startScreen).acks = s.acks ∧
    (s.startScreen).panelStatus = s.panelStatus ∧ (s.startScreen).slots = s.slots ∧
    (s.startScreen).zones = s.zones ∧ (s.startScreen).coolers = s.coolers ∧ (s.startScreen).doors = s.doors ∧
    (s.startScreen).groupMask = s.groupMask ∧ (s.startScreen).loads = s.loads ∧
    (s.startScreen).markHigh = s.markHigh ∧ (s.startScreen).overrides = s.overrides ∧
    (s.startScreen).alloc = s.alloc ∧ (s.startScreen).sources = s.sources ∧ (s.startScreen).channels = s.channels ∧
    (s.startScreen).pending = s.pending ∧
    (s.startScreen).draws = s.draws := by
  unfold State.startScreen; and_intros <;> (try simp only []) <;> (repeat' split) <;> simp

@[simp] theorem State.startOverrides_frame (s : State) :
    (s.startOverrides).part = s.part ∧ (s.startOverrides).node = s.node ∧ (s.startOverrides).rate = s.rate ∧
    (s.startOverrides).active = s.active ∧ (s.startOverrides).shadow = s.shadow ∧
    (s.startOverrides).marks = s.marks ∧ (s.startOverrides).engine = s.engine ∧
    (s.startOverrides).flags = s.flags ∧ (s.startOverrides).vehicle = s.vehicle ∧
    (s.startOverrides).climate = s.climate ∧ (s.startOverrides).responses = s.responses ∧
    (s.startOverrides).acks = s.acks ∧ (s.startOverrides).panelStatus = s.panelStatus ∧
    (s.startOverrides).slots = s.slots ∧ (s.startOverrides).zones = s.zones ∧
    (s.startOverrides).coolers = s.coolers ∧ (s.startOverrides).doors = s.doors ∧
    (s.startOverrides).groupMask = s.groupMask ∧ (s.startOverrides).loads = s.loads ∧
    (s.startOverrides).markHigh = s.markHigh ∧ (s.startOverrides).screen = s.screen ∧
    (s.startOverrides).alloc = s.alloc ∧ (s.startOverrides).sources = s.sources ∧
    (s.startOverrides).channels = s.channels ∧ (s.startOverrides).inFlight = s.inFlight ∧
    (s.startOverrides).pending = s.pending ∧
    (s.startOverrides).draws = s.draws := by
  and_intros <;> rfl

@[simp] theorem State.startChannel_frame (s : State) (c : Fin 24) :
    (s.startChannel c).part = s.part ∧ (s.startChannel c).node = s.node ∧ (s.startChannel c).rate = s.rate ∧
    (s.startChannel c).active = s.active ∧ (s.startChannel c).shadow = s.shadow ∧
    (s.startChannel c).marks = s.marks ∧ (s.startChannel c).engine = s.engine ∧
    (s.startChannel c).flags = s.flags ∧ (s.startChannel c).vehicle = s.vehicle ∧
    (s.startChannel c).climate = s.climate ∧ (s.startChannel c).responses = s.responses ∧
    (s.startChannel c).acks = s.acks ∧ (s.startChannel c).panelStatus = s.panelStatus ∧
    (s.startChannel c).slots = s.slots ∧ (s.startChannel c).zones = s.zones ∧
    (s.startChannel c).coolers = s.coolers ∧ (s.startChannel c).doors = s.doors ∧
    (s.startChannel c).groupMask = s.groupMask ∧ (s.startChannel c).loads = s.loads ∧
    (s.startChannel c).markHigh = s.markHigh ∧ (s.startChannel c).screen = s.screen ∧
    (s.startChannel c).overrides = s.overrides ∧ (s.startChannel c).alloc = s.alloc ∧
    (s.startChannel c).sources = s.sources ∧ (s.startChannel c).inFlight = s.inFlight ∧
    (s.startChannel c).pending = s.pending ∧
    (s.startChannel c).draws = s.draws := by
  unfold State.startChannel; and_intros <;> (try simp only []) <;> (repeat' split) <;> simp

@[simp] theorem State.startChannels_frame (s : State) :
    (s.startChannels).part = s.part ∧ (s.startChannels).node = s.node ∧ (s.startChannels).rate = s.rate ∧
    (s.startChannels).active = s.active ∧ (s.startChannels).shadow = s.shadow ∧ (s.startChannels).marks = s.marks ∧
    (s.startChannels).engine = s.engine ∧ (s.startChannels).flags = s.flags ∧
    (s.startChannels).vehicle = s.vehicle ∧ (s.startChannels).climate = s.climate ∧
    (s.startChannels).responses = s.responses ∧ (s.startChannels).acks = s.acks ∧
    (s.startChannels).panelStatus = s.panelStatus ∧ (s.startChannels).slots = s.slots ∧
    (s.startChannels).zones = s.zones ∧ (s.startChannels).coolers = s.coolers ∧ (s.startChannels).doors = s.doors ∧
    (s.startChannels).groupMask = s.groupMask ∧ (s.startChannels).loads = s.loads ∧
    (s.startChannels).markHigh = s.markHigh ∧ (s.startChannels).screen = s.screen ∧
    (s.startChannels).overrides = s.overrides ∧ (s.startChannels).alloc = s.alloc ∧
    (s.startChannels).sources = s.sources ∧ (s.startChannels).inFlight = s.inFlight ∧
    (s.startChannels).pending = s.pending ∧
    (s.startChannels).draws = s.draws := by
  unfold State.startChannels; and_intros <;> apply forEach_keeps <;> intro i t <;> (try simp only []) <;> (repeat' split) <;> simp

@[simp] theorem State.startPart_frame (s : State) :
    (s.startPart).node = s.node ∧ (s.startPart).rate = s.rate ∧ (s.startPart).active = s.active ∧
    (s.startPart).shadow = s.shadow ∧ (s.startPart).marks = s.marks ∧ (s.startPart).engine = s.engine ∧
    (s.startPart).vehicle = s.vehicle ∧ (s.startPart).climate = s.climate ∧ (s.startPart).responses = s.responses ∧
    (s.startPart).acks = s.acks ∧ (s.startPart).panelStatus = s.panelStatus ∧ (s.startPart).slots = s.slots ∧
    (s.startPart).groupMask = s.groupMask ∧ (s.startPart).loads = s.loads ∧ (s.startPart).markHigh = s.markHigh ∧
    (s.startPart).sources = s.sources ∧ (s.startPart).pending = s.pending ∧
    (s.startPart).sources = s.sources ∧ (s.startPart).draws = s.draws := by
  unfold State.startPart; and_intros <;> (try simp only []) <;> (repeat' split) <;> simp

@[simp] theorem State.stopZone_frame (s : State) (z : Fin 8) :
    (s.stopZone z).part = s.part ∧ (s.stopZone z).node = s.node ∧ (s.stopZone z).rate = s.rate ∧
    (s.stopZone z).active = s.active ∧ (s.stopZone z).shadow = s.shadow ∧ (s.stopZone z).marks = s.marks ∧
    (s.stopZone z).engine = s.engine ∧ (s.stopZone z).flags = s.flags ∧ (s.stopZone z).vehicle = s.vehicle ∧
    (s.stopZone z).climate = s.climate ∧ (s.stopZone z).responses = s.responses ∧ (s.stopZone z).acks = s.acks ∧
    (s.stopZone z).panelStatus = s.panelStatus ∧ (s.stopZone z).slots = s.slots ∧
    (s.stopZone z).coolers = s.coolers ∧ (s.stopZone z).doors = s.doors ∧ (s.stopZone z).groupMask = s.groupMask ∧
    (s.stopZone z).loads = s.loads ∧ (s.stopZone z).markHigh = s.markHigh ∧ (s.stopZone z).screen = s.screen ∧
    (s.stopZone z).overrides = s.overrides ∧ (s.stopZone z).alloc = s.alloc ∧ (s.stopZone z).sources = s.sources ∧
    (s.stopZone z).channels = s.channels ∧ (s.stopZone z).pending = s.pending ∧
    (s.stopZone z).channels = s.channels ∧ (s.stopZone z).draws = s.draws := by
  unfold State.stopZone; and_intros <;> (try simp only []) <;> (repeat' split) <;> simp

@[simp] theorem State.stopZones_frame (s : State) :
    (s.stopZones).part = s.part ∧ (s.stopZones).node = s.node ∧ (s.stopZones).rate = s.rate ∧
    (s.stopZones).active = s.active ∧ (s.stopZones).shadow = s.shadow ∧ (s.stopZones).marks = s.marks ∧
    (s.stopZones).engine = s.engine ∧ (s.stopZones).flags = s.flags ∧ (s.stopZones).vehicle = s.vehicle ∧
    (s.stopZones).climate = s.climate ∧ (s.stopZones).responses = s.responses ∧ (s.stopZones).acks = s.acks ∧
    (s.stopZones).panelStatus = s.panelStatus ∧ (s.stopZones).slots = s.slots ∧ (s.stopZones).coolers = s.coolers ∧
    (s.stopZones).doors = s.doors ∧ (s.stopZones).groupMask = s.groupMask ∧ (s.stopZones).loads = s.loads ∧
    (s.stopZones).markHigh = s.markHigh ∧ (s.stopZones).screen = s.screen ∧ (s.stopZones).overrides = s.overrides ∧
    (s.stopZones).alloc = s.alloc ∧ (s.stopZones).sources = s.sources ∧ (s.stopZones).channels = s.channels ∧
    (s.stopZones).pending = s.pending ∧
    (s.stopZones).draws = s.draws := by
  unfold State.stopZones; and_intros <;> apply forEach_keeps <;> intro i t <;> (try simp only []) <;> (repeat' split) <;> simp

@[simp] theorem State.stopCoolers_frame (s : State) :
    (s.stopCoolers).part = s.part ∧ (s.stopCoolers).node = s.node ∧ (s.stopCoolers).rate = s.rate ∧
    (s.stopCoolers).active = s.active ∧ (s.stopCoolers).shadow = s.shadow ∧ (s.stopCoolers).marks = s.marks ∧
    (s.stopCoolers).engine = s.engine ∧ (s.stopCoolers).flags = s.flags ∧ (s.stopCoolers).vehicle = s.vehicle ∧
    (s.stopCoolers).climate = s.climate ∧ (s.stopCoolers).responses = s.responses ∧ (s.stopCoolers).acks = s.acks ∧
    (s.stopCoolers).panelStatus = s.panelStatus ∧ (s.stopCoolers).slots = s.slots ∧
    (s.stopCoolers).zones = s.zones ∧ (s.stopCoolers).doors = s.doors ∧ (s.stopCoolers).groupMask = s.groupMask ∧
    (s.stopCoolers).loads = s.loads ∧ (s.stopCoolers).markHigh = s.markHigh ∧ (s.stopCoolers).screen = s.screen ∧
    (s.stopCoolers).overrides = s.overrides ∧ (s.stopCoolers).alloc = s.alloc ∧
    (s.stopCoolers).sources = s.sources ∧ (s.stopCoolers).channels = s.channels ∧
    (s.stopCoolers).pending = s.pending ∧
    (s.stopCoolers).draws = s.draws := by
  unfold State.stopCoolers; and_intros <;> apply forEach_keeps <;> intro i t <;> (try simp only []) <;> (repeat' split) <;> simp

@[simp] theorem State.stopDoors_frame (s : State) :
    (s.stopDoors).part = s.part ∧ (s.stopDoors).node = s.node ∧ (s.stopDoors).rate = s.rate ∧
    (s.stopDoors).active = s.active ∧ (s.stopDoors).shadow = s.shadow ∧ (s.stopDoors).marks = s.marks ∧
    (s.stopDoors).engine = s.engine ∧ (s.stopDoors).vehicle = s.vehicle ∧ (s.stopDoors).climate = s.climate ∧
    (s.stopDoors).responses = s.responses ∧ (s.stopDoors).acks = s.acks ∧
    (s.stopDoors).panelStatus = s.panelStatus ∧ (s.stopDoors).slots = s.slots ∧ (s.stopDoors).zones = s.zones ∧
    (s.stopDoors).coolers = s.coolers ∧ (s.stopDoors).groupMask = s.groupMask ∧ (s.stopDoors).loads = s.loads ∧
    (s.stopDoors).markHigh = s.markHigh ∧ (s.stopDoors).screen = s.screen ∧ (s.stopDoors).overrides = s.overrides ∧
    (s.stopDoors).alloc = s.alloc ∧ (s.stopDoors).sources = s.sources ∧ (s.stopDoors).channels = s.channels ∧
    (s.stopDoors).pending = s.pending ∧
    (s.stopDoors).draws = s.draws := by
  unfold State.stopDoors; and_intros <;> apply forEach_keeps <;> intro i t <;> (try simp only []) <;> (repeat' split) <;> simp

@[simp] theorem State.stopScreen_frame (s : State) :
    (s.stopScreen).part = s.part ∧ (s.stopScreen).node = s.node ∧ (s.stopScreen).rate = s.rate ∧
    (s.stopScreen).active = s.active ∧ (s.stopScreen).shadow = s.shadow ∧ (s.stopScreen).marks = s.marks ∧
    (s.stopScreen).engine = s.engine ∧ (s.stopScreen).flags = s.flags ∧ (s.stopScreen).vehicle = s.vehicle ∧
    (s.stopScreen).climate = s.climate ∧ (s.stopScreen).responses = s.responses ∧ (s.stopScreen).acks = s.acks ∧
    (s.stopScreen).panelStatus = s.panelStatus ∧ (s.stopScreen).slots = s.slots ∧ (s.stopScreen).zones = s.zones ∧
    (s.stopScreen).coolers = s.coolers ∧ (s.stopScreen).doors = s.doors ∧ (s.stopScreen).groupMask = s.groupMask ∧
    (s.stopScreen).loads = s.loads ∧ (s.stopScreen).markHigh = s.markHigh ∧
    (s.stopScreen).overrides = s.overrides ∧ (s.stopScreen).alloc = s.alloc ∧ (s.stopScreen).sources = s.sources ∧
    (s.stopScreen).channels = s.channels ∧ (s.stopScreen).pending = s.pending ∧
    (s.stopScreen).channels = s.channels ∧ (s.stopScreen).draws = s.draws := by
  unfold State.stopScreen; and_intros <;> (try simp only []) <;> (repeat' split) <;> simp

@[simp] theorem State.stopChannel_frame (s : State) (c : Fin 24) :
    (s.stopChannel c).part = s.part ∧ (s.stopChannel c).node = s.node ∧ (s.stopChannel c).rate = s.rate ∧
    (s.stopChannel c).active = s.active ∧ (s.stopChannel c).shadow = s.shadow ∧ (s.stopChannel c).marks = s.marks ∧
    (s.stopChannel c).engine = s.engine ∧ (s.stopChannel c).flags = s.flags ∧
    (s.stopChannel c).vehicle = s.vehicle ∧ (s.stopChannel c).climate = s.climate ∧
    (s.stopChannel c).responses = s.responses ∧ (s.stopChannel c).acks = s.acks ∧
    (s.stopChannel c).panelStatus = s.panelStatus ∧ (s.stopChannel c).slots = s.slots ∧
    (s.stopChannel c).zones = s.zones ∧ (s.stopChannel c).coolers = s.coolers ∧ (s.stopChannel c).doors = s.doors ∧
    (s.stopChannel c).groupMask = s.groupMask ∧ (s.stopChannel c).loads = s.loads ∧
    (s.stopChannel c).markHigh = s.markHigh ∧ (s.stopChannel c).screen = s.screen ∧
    (s.stopChannel c).overrides = s.overrides ∧ (s.stopChannel c).alloc = s.alloc ∧
    (s.stopChannel c).sources = s.sources ∧ (s.stopChannel c).inFlight = s.inFlight ∧
    (s.stopChannel c).pending = s.pending ∧
    (s.stopChannel c).draws = s.draws := by
  unfold State.stopChannel; and_intros <;> (try simp only []) <;> (repeat' split) <;> simp

@[simp] theorem State.stopChannels_frame (s : State) :
    (s.stopChannels).part = s.part ∧ (s.stopChannels).node = s.node ∧ (s.stopChannels).rate = s.rate ∧
    (s.stopChannels).active = s.active ∧ (s.stopChannels).shadow = s.shadow ∧ (s.stopChannels).marks = s.marks ∧
    (s.stopChannels).engine = s.engine ∧ (s.stopChannels).flags = s.flags ∧ (s.stopChannels).vehicle = s.vehicle ∧
    (s.stopChannels).climate = s.climate ∧ (s.stopChannels).responses = s.responses ∧
    (s.stopChannels).acks = s.acks ∧ (s.stopChannels).panelStatus = s.panelStatus ∧
    (s.stopChannels).slots = s.slots ∧ (s.stopChannels).zones = s.zones ∧ (s.stopChannels).coolers = s.coolers ∧
    (s.stopChannels).doors = s.doors ∧ (s.stopChannels).groupMask = s.groupMask ∧
    (s.stopChannels).loads = s.loads ∧ (s.stopChannels).markHigh = s.markHigh ∧
    (s.stopChannels).screen = s.screen ∧ (s.stopChannels).overrides = s.overrides ∧
    (s.stopChannels).alloc = s.alloc ∧ (s.stopChannels).sources = s.sources ∧
    (s.stopChannels).inFlight = s.inFlight ∧ (s.stopChannels).pending = s.pending ∧
    (s.stopChannels).inFlight = s.inFlight ∧ (s.stopChannels).draws = s.draws := by
  unfold State.stopChannels; and_intros <;> apply forEach_keeps <;> intro i t <;> (try simp only []) <;> (repeat' split) <;> simp

@[simp] theorem State.stopPart_frame (s : State) :
    (s.stopPart).node = s.node ∧ (s.stopPart).rate = s.rate ∧ (s.stopPart).active = s.active ∧
    (s.stopPart).shadow = s.shadow ∧ (s.stopPart).marks = s.marks ∧ (s.stopPart).engine = s.engine ∧
    (s.stopPart).vehicle = s.vehicle ∧ (s.stopPart).climate = s.climate ∧ (s.stopPart).responses = s.responses ∧
    (s.stopPart).acks = s.acks ∧ (s.stopPart).panelStatus = s.panelStatus ∧ (s.stopPart).slots = s.slots ∧
    (s.stopPart).loads = s.loads ∧ (s.stopPart).markHigh = s.markHigh ∧
    (s.stopPart).sources = s.sources ∧ (s.stopPart).pending = s.pending ∧
    (s.stopPart).sources = s.sources ∧ (s.stopPart).draws = s.draws := by
  unfold State.stopPart; and_intros <;> (try simp only []) <;> (repeat' split) <;> simp

@[simp] theorem State.restartLoads_frame (s : State) :
    (s.restartLoads).part = s.part ∧ (s.restartLoads).node = s.node ∧ (s.restartLoads).rate = s.rate ∧
    (s.restartLoads).active = s.active ∧ (s.restartLoads).shadow = s.shadow ∧ (s.restartLoads).marks = s.marks ∧
    (s.restartLoads).engine = s.engine ∧ (s.restartLoads).flags = s.flags ∧ (s.restartLoads).vehicle = s.vehicle ∧
    (s.restartLoads).climate = s.climate ∧ (s.restartLoads).responses = s.responses ∧
    (s.restartLoads).acks = s.acks ∧ (s.restartLoads).panelStatus = s.panelStatus ∧
    (s.restartLoads).slots = s.slots ∧ (s.restartLoads).zones = s.zones ∧ (s.restartLoads).coolers = s.coolers ∧
    (s.restartLoads).doors = s.doors ∧ (s.restartLoads).groupMask = s.groupMask ∧
    (s.restartLoads).markHigh = s.markHigh ∧ (s.restartLoads).screen = s.screen ∧
    (s.restartLoads).overrides = s.overrides ∧ (s.restartLoads).alloc = s.alloc ∧
    (s.restartLoads).sources = s.sources ∧ (s.restartLoads).channels = s.channels ∧
    (s.restartLoads).inFlight = s.inFlight ∧ (s.restartLoads).pending = s.pending ∧
    (s.restartLoads).inFlight = s.inFlight ∧ (s.restartLoads).draws = s.draws := by
  unfold State.restartLoads State.restartLoad; and_intros <;> apply forEach_keeps <;> intro i t <;> simp

@[simp] theorem State.restartAlloc_frame (s : State) :
    (s.restartAlloc).part = s.part ∧ (s.restartAlloc).node = s.node ∧ (s.restartAlloc).rate = s.rate ∧
    (s.restartAlloc).active = s.active ∧ (s.restartAlloc).shadow = s.shadow ∧ (s.restartAlloc).marks = s.marks ∧
    (s.restartAlloc).engine = s.engine ∧ (s.restartAlloc).flags = s.flags ∧ (s.restartAlloc).vehicle = s.vehicle ∧
    (s.restartAlloc).climate = s.climate ∧ (s.restartAlloc).responses = s.responses ∧
    (s.restartAlloc).acks = s.acks ∧ (s.restartAlloc).panelStatus = s.panelStatus ∧
    (s.restartAlloc).slots = s.slots ∧ (s.restartAlloc).zones = s.zones ∧ (s.restartAlloc).coolers = s.coolers ∧
    (s.restartAlloc).doors = s.doors ∧ (s.restartAlloc).groupMask = s.groupMask ∧
    (s.restartAlloc).loads = s.loads ∧ (s.restartAlloc).markHigh = s.markHigh ∧
    (s.restartAlloc).screen = s.screen ∧ (s.restartAlloc).overrides = s.overrides ∧
    (s.restartAlloc).sources = s.sources ∧ (s.restartAlloc).channels = s.channels ∧
    (s.restartAlloc).inFlight = s.inFlight ∧ (s.restartAlloc).pending = s.pending ∧
    (s.restartAlloc).inFlight = s.inFlight ∧ (s.restartAlloc).draws = s.draws := by
  unfold State.restartAlloc; and_intros <;> (try simp only []) <;> (repeat' split) <;> simp

/-! ### The service engine (chapter 9) and the classifier -/

@[simp] theorem State.answer_frame (s : State) (code : Nat) (r : Result) (content : List Byte) :
    (s.answer code r content).part = s.part ∧ (s.answer code r content).node = s.node ∧
    (s.answer code r content).rate = s.rate ∧ (s.answer code r content).active = s.active ∧
    (s.answer code r content).shadow = s.shadow ∧ (s.answer code r content).marks = s.marks ∧
    (s.answer code r content).engine = s.engine ∧ (s.answer code r content).flags = s.flags ∧
    (s.answer code r content).vehicle = s.vehicle ∧ (s.answer code r content).climate = s.climate ∧
    (s.answer code r content).acks = s.acks ∧ (s.answer code r content).panelStatus = s.panelStatus ∧
    (s.answer code r content).slots = s.slots ∧ (s.answer code r content).zones = s.zones ∧
    (s.answer code r content).coolers = s.coolers ∧ (s.answer code r content).doors = s.doors ∧
    (s.answer code r content).groupMask = s.groupMask ∧ (s.answer code r content).loads = s.loads ∧
    (s.answer code r content).markHigh = s.markHigh ∧ (s.answer code r content).screen = s.screen ∧
    (s.answer code r content).overrides = s.overrides ∧ (s.answer code r content).alloc = s.alloc ∧
    (s.answer code r content).sources = s.sources ∧ (s.answer code r content).channels = s.channels ∧
    (s.answer code r content).inFlight = s.inFlight ∧ (s.answer code r content).pending = s.pending := by
  unfold State.answer; and_intros <;> (try simp only []) <;> (repeat' split) <;> simp

@[simp] theorem State.serveRead_frame (s : State) (code : Nat) (content : Option (List Byte)) :
    (s.serveRead code content).part = s.part ∧ (s.serveRead code content).node = s.node ∧
    (s.serveRead code content).rate = s.rate ∧ (s.serveRead code content).active = s.active ∧
    (s.serveRead code content).shadow = s.shadow ∧ (s.serveRead code content).marks = s.marks ∧
    (s.serveRead code content).engine = s.engine ∧ (s.serveRead code content).vehicle = s.vehicle ∧
    (s.serveRead code content).climate = s.climate ∧ (s.serveRead code content).acks = s.acks ∧
    (s.serveRead code content).panelStatus = s.panelStatus ∧ (s.serveRead code content).slots = s.slots ∧
    (s.serveRead code content).zones = s.zones ∧ (s.serveRead code content).coolers = s.coolers ∧
    (s.serveRead code content).doors = s.doors ∧ (s.serveRead code content).groupMask = s.groupMask ∧
    (s.serveRead code content).loads = s.loads ∧ (s.serveRead code content).markHigh = s.markHigh ∧
    (s.serveRead code content).screen = s.screen ∧ (s.serveRead code content).overrides = s.overrides ∧
    (s.serveRead code content).alloc = s.alloc ∧ (s.serveRead code content).sources = s.sources ∧
    (s.serveRead code content).channels = s.channels ∧ (s.serveRead code content).inFlight = s.inFlight ∧
    (s.serveRead code content).pending = s.pending := by
  unfold State.serveRead State.withRoom; and_intros <;> (try simp only []) <;> (repeat' split) <;> simp

@[simp] theorem State.halt_frame (s : State) (h : HaltCode) :
    (s.halt h).part = s.part ∧ (s.halt h).node = s.node ∧ (s.halt h).rate = s.rate ∧ (s.halt h).active = s.active ∧
    (s.halt h).shadow = s.shadow ∧ (s.halt h).marks = s.marks ∧ (s.halt h).vehicle = s.vehicle ∧
    (s.halt h).climate = s.climate ∧ (s.halt h).responses = s.responses ∧ (s.halt h).acks = s.acks ∧
    (s.halt h).panelStatus = s.panelStatus ∧ (s.halt h).slots = s.slots ∧ (s.halt h).zones = s.zones ∧
    (s.halt h).coolers = s.coolers ∧ (s.halt h).doors = s.doors ∧ (s.halt h).groupMask = s.groupMask ∧
    (s.halt h).loads = s.loads ∧ (s.halt h).markHigh = s.markHigh ∧ (s.halt h).screen = s.screen ∧
    (s.halt h).overrides = s.overrides ∧ (s.halt h).alloc = s.alloc ∧ (s.halt h).sources = s.sources ∧
    (s.halt h).channels = s.channels ∧ (s.halt h).inFlight = s.inFlight ∧ (s.halt h).pending = s.pending ∧
    (s.halt h).channels = s.channels ∧ (s.halt h).inFlight = s.inFlight ∧ (s.halt h).draws = s.draws := by
  unfold State.halt; and_intros <;> (try simp only []) <;> (repeat' split) <;> simp

@[simp] theorem State.assemblyExpiry_frame (s : State) :
    (s.assemblyExpiry).part = s.part ∧ (s.assemblyExpiry).node = s.node ∧ (s.assemblyExpiry).rate = s.rate ∧
    (s.assemblyExpiry).active = s.active ∧ (s.assemblyExpiry).shadow = s.shadow ∧
    (s.assemblyExpiry).marks = s.marks ∧ (s.assemblyExpiry).vehicle = s.vehicle ∧
    (s.assemblyExpiry).climate = s.climate ∧ (s.assemblyExpiry).responses = s.responses ∧
    (s.assemblyExpiry).acks = s.acks ∧ (s.assemblyExpiry).panelStatus = s.panelStatus ∧
    (s.assemblyExpiry).slots = s.slots ∧ (s.assemblyExpiry).zones = s.zones ∧
    (s.assemblyExpiry).coolers = s.coolers ∧ (s.assemblyExpiry).doors = s.doors ∧
    (s.assemblyExpiry).groupMask = s.groupMask ∧ (s.assemblyExpiry).loads = s.loads ∧
    (s.assemblyExpiry).markHigh = s.markHigh ∧ (s.assemblyExpiry).screen = s.screen ∧
    (s.assemblyExpiry).overrides = s.overrides ∧ (s.assemblyExpiry).alloc = s.alloc ∧
    (s.assemblyExpiry).sources = s.sources ∧ (s.assemblyExpiry).channels = s.channels ∧
    (s.assemblyExpiry).inFlight = s.inFlight ∧ (s.assemblyExpiry).pending = s.pending ∧
    (s.assemblyExpiry).inFlight = s.inFlight ∧ (s.assemblyExpiry).draws = s.draws := by
  unfold State.assemblyExpiry; and_intros <;> (try simp only []) <;> (repeat' split) <;> simp

@[simp] theorem State.writeShadow_frame (s : State) (t : TableId) (rows : List RowBytes) :
    (s.writeShadow t rows).part = s.part ∧ (s.writeShadow t rows).node = s.node ∧
    (s.writeShadow t rows).rate = s.rate ∧ (s.writeShadow t rows).active = s.active ∧
    (s.writeShadow t rows).engine = s.engine ∧ (s.writeShadow t rows).flags = s.flags ∧
    (s.writeShadow t rows).vehicle = s.vehicle ∧ (s.writeShadow t rows).climate = s.climate ∧
    (s.writeShadow t rows).responses = s.responses ∧ (s.writeShadow t rows).acks = s.acks ∧
    (s.writeShadow t rows).panelStatus = s.panelStatus ∧ (s.writeShadow t rows).slots = s.slots ∧
    (s.writeShadow t rows).zones = s.zones ∧ (s.writeShadow t rows).coolers = s.coolers ∧
    (s.writeShadow t rows).doors = s.doors ∧ (s.writeShadow t rows).groupMask = s.groupMask ∧
    (s.writeShadow t rows).loads = s.loads ∧ (s.writeShadow t rows).markHigh = s.markHigh ∧
    (s.writeShadow t rows).screen = s.screen ∧ (s.writeShadow t rows).overrides = s.overrides ∧
    (s.writeShadow t rows).alloc = s.alloc ∧ (s.writeShadow t rows).sources = s.sources ∧
    (s.writeShadow t rows).channels = s.channels ∧ (s.writeShadow t rows).inFlight = s.inFlight ∧
    (s.writeShadow t rows).pending = s.pending ∧
    (s.writeShadow t rows).draws = s.draws := by
  and_intros <;> rfl

@[simp] theorem State.maskSet_frame (s : State) (b : Bool) (doors : Byte) :
    (s.maskSet b doors).part = s.part ∧ (s.maskSet b doors).node = s.node ∧ (s.maskSet b doors).rate = s.rate ∧
    (s.maskSet b doors).active = s.active ∧ (s.maskSet b doors).shadow = s.shadow ∧
    (s.maskSet b doors).marks = s.marks ∧ (s.maskSet b doors).engine = s.engine ∧
    (s.maskSet b doors).vehicle = s.vehicle ∧ (s.maskSet b doors).climate = s.climate ∧
    (s.maskSet b doors).responses = s.responses ∧ (s.maskSet b doors).acks = s.acks ∧
    (s.maskSet b doors).panelStatus = s.panelStatus ∧ (s.maskSet b doors).slots = s.slots ∧
    (s.maskSet b doors).zones = s.zones ∧ (s.maskSet b doors).coolers = s.coolers ∧
    (s.maskSet b doors).groupMask = s.groupMask ∧ (s.maskSet b doors).loads = s.loads ∧
    (s.maskSet b doors).markHigh = s.markHigh ∧ (s.maskSet b doors).screen = s.screen ∧
    (s.maskSet b doors).overrides = s.overrides ∧ (s.maskSet b doors).alloc = s.alloc ∧
    (s.maskSet b doors).sources = s.sources ∧ (s.maskSet b doors).channels = s.channels ∧
    (s.maskSet b doors).pending = s.pending ∧
    (s.maskSet b doors).draws = s.draws := by
  unfold State.maskSet; and_intros <;> apply foldl_keeps <;> intro t a <;> (try simp only []) <;> (repeat' split) <;> simp

@[simp] theorem State.armSet_frame (s : State) (b : Bool) (sections : Byte) :
    (s.armSet b sections).part = s.part ∧ (s.armSet b sections).node = s.node ∧
    (s.armSet b sections).rate = s.rate ∧ (s.armSet b sections).active = s.active ∧
    (s.armSet b sections).shadow = s.shadow ∧ (s.armSet b sections).marks = s.marks ∧
    (s.armSet b sections).engine = s.engine ∧ (s.armSet b sections).flags = s.flags ∧
    (s.armSet b sections).vehicle = s.vehicle ∧ (s.armSet b sections).climate = s.climate ∧
    (s.armSet b sections).responses = s.responses ∧ (s.armSet b sections).acks = s.acks ∧
    (s.armSet b sections).panelStatus = s.panelStatus ∧ (s.armSet b sections).slots = s.slots ∧
    (s.armSet b sections).zones = s.zones ∧ (s.armSet b sections).coolers = s.coolers ∧
    (s.armSet b sections).doors = s.doors ∧ (s.armSet b sections).groupMask = s.groupMask ∧
    (s.armSet b sections).markHigh = s.markHigh ∧ (s.armSet b sections).screen = s.screen ∧
    (s.armSet b sections).overrides = s.overrides ∧ (s.armSet b sections).alloc = s.alloc ∧
    (s.armSet b sections).sources = s.sources ∧ (s.armSet b sections).channels = s.channels ∧
    (s.armSet b sections).inFlight = s.inFlight ∧ (s.armSet b sections).pending = s.pending ∧
    (s.armSet b sections).inFlight = s.inFlight ∧ (s.armSet b sections).draws = s.draws := by
  unfold State.armSet; and_intros <;> apply foldl_keeps <;> intro t a <;> (try simp only []) <;> (repeat' split) <;> simp

@[simp] theorem State.clearSet_frame (s : State) (doors : Byte) :
    (s.clearSet doors).part = s.part ∧ (s.clearSet doors).node = s.node ∧ (s.clearSet doors).rate = s.rate ∧
    (s.clearSet doors).active = s.active ∧ (s.clearSet doors).shadow = s.shadow ∧
    (s.clearSet doors).marks = s.marks ∧ (s.clearSet doors).engine = s.engine ∧
    (s.clearSet doors).flags = s.flags ∧ (s.clearSet doors).vehicle = s.vehicle ∧
    (s.clearSet doors).climate = s.climate ∧ (s.clearSet doors).responses = s.responses ∧
    (s.clearSet doors).acks = s.acks ∧ (s.clearSet doors).panelStatus = s.panelStatus ∧
    (s.clearSet doors).slots = s.slots ∧ (s.clearSet doors).zones = s.zones ∧
    (s.clearSet doors).coolers = s.coolers ∧ (s.clearSet doors).groupMask = s.groupMask ∧
    (s.clearSet doors).loads = s.loads ∧ (s.clearSet doors).markHigh = s.markHigh ∧
    (s.clearSet doors).screen = s.screen ∧ (s.clearSet doors).overrides = s.overrides ∧
    (s.clearSet doors).alloc = s.alloc ∧ (s.clearSet doors).sources = s.sources ∧
    (s.clearSet doors).channels = s.channels ∧ (s.clearSet doors).inFlight = s.inFlight ∧
    (s.clearSet doors).pending = s.pending ∧
    (s.clearSet doors).draws = s.draws := by
  unfold State.clearSet; and_intros <;> apply foldl_keeps <;> intro t a <;> (try simp only []) <;> (repeat' split) <;> simp

@[simp] theorem State.deliverField_frame (s : State) (data : List Byte) (r : FieldRow) :
    (State.deliverField data s r).part = s.part ∧ (State.deliverField data s r).node = s.node ∧
    (State.deliverField data s r).rate = s.rate ∧ (State.deliverField data s r).active = s.active ∧
    (State.deliverField data s r).shadow = s.shadow ∧ (State.deliverField data s r).marks = s.marks ∧
    (State.deliverField data s r).engine = s.engine ∧ (State.deliverField data s r).vehicle = s.vehicle ∧
    (State.deliverField data s r).climate = s.climate ∧ (State.deliverField data s r).responses = s.responses ∧
    (State.deliverField data s r).acks = s.acks ∧ (State.deliverField data s r).panelStatus = s.panelStatus ∧
    (State.deliverField data s r).zones = s.zones ∧ (State.deliverField data s r).coolers = s.coolers ∧
    (State.deliverField data s r).doors = s.doors ∧ (State.deliverField data s r).groupMask = s.groupMask ∧
    (State.deliverField data s r).loads = s.loads ∧ (State.deliverField data s r).markHigh = s.markHigh ∧
    (State.deliverField data s r).screen = s.screen ∧ (State.deliverField data s r).overrides = s.overrides ∧
    (State.deliverField data s r).alloc = s.alloc ∧ (State.deliverField data s r).sources = s.sources ∧
    (State.deliverField data s r).channels = s.channels ∧ (State.deliverField data s r).pending = s.pending ∧
    (State.deliverField data s r).channels = s.channels ∧ (State.deliverField data s r).draws = s.draws := by
  unfold State.deliverField; and_intros <;> (try simp only []) <;> (repeat' split) <;> simp

@[simp] theorem State.hit_frame (s : State) (r : FrameRow) (f : Frame) :
    (s.hit r f).part = s.part ∧ (s.hit r f).node = s.node ∧ (s.hit r f).rate = s.rate ∧
    (s.hit r f).active = s.active ∧ (s.hit r f).shadow = s.shadow ∧ (s.hit r f).marks = s.marks ∧
    (s.hit r f).engine = s.engine ∧ (s.hit r f).vehicle = s.vehicle ∧ (s.hit r f).climate = s.climate ∧
    (s.hit r f).responses = s.responses ∧ (s.hit r f).panelStatus = s.panelStatus ∧ (s.hit r f).zones = s.zones ∧
    (s.hit r f).coolers = s.coolers ∧ (s.hit r f).doors = s.doors ∧ (s.hit r f).groupMask = s.groupMask ∧
    (s.hit r f).markHigh = s.markHigh ∧ (s.hit r f).screen = s.screen ∧ (s.hit r f).alloc = s.alloc ∧
    (s.hit r f).sources = s.sources ∧ (s.hit r f).pending = s.pending ∧
    (s.hit r f).sources = s.sources ∧ (s.hit r f).draws = s.draws := by
  unfold State.hit; cases r.cls with
  | none => simp
  | some c => cases c <;> first | (simp; done) | (and_intros <;> apply foldl_keeps <;> intro t a <;> simp)

@[simp] theorem State.classify_frame (s : State) (p : PortName) (f : Frame) :
    (s.classify p f).part = s.part ∧ (s.classify p f).node = s.node ∧ (s.classify p f).rate = s.rate ∧
    (s.classify p f).active = s.active ∧ (s.classify p f).shadow = s.shadow ∧ (s.classify p f).marks = s.marks ∧
    (s.classify p f).engine = s.engine ∧ (s.classify p f).responses = s.responses ∧
    (s.classify p f).panelStatus = s.panelStatus ∧ (s.classify p f).zones = s.zones ∧
    (s.classify p f).coolers = s.coolers ∧ (s.classify p f).doors = s.doors ∧
    (s.classify p f).groupMask = s.groupMask ∧ (s.classify p f).markHigh = s.markHigh ∧
    (s.classify p f).screen = s.screen ∧ (s.classify p f).alloc = s.alloc ∧ (s.classify p f).sources = s.sources ∧
    (s.classify p f).pending = s.pending ∧
    (s.classify p f).draws = s.draws := by
  unfold State.classify; and_intros <;> (try simp only []) <;> (repeat' split) <;> simp

end Sys2Proof.Machine
end

