-- ==== Sys2Proof/Laws/Specs.lean ====
section
/-! SUPPORT. What the shared operations give, one lemma each: arithmetic, responses and their room, the source values of
the output scheduler, and the recomputation of the power allocator. -/

namespace Sys2Proof.Machine

/-! ### Arithmetic -/

theorem clamp_between {x a b : Int} (h : a ≤ b) : a ≤ clamp x a b ∧ clamp x a b ≤ b := by
  unfold clamp; split <;> (try split) <;> omega

theorem clamp_of_between {x a b : Int} (h : a ≤ x ∧ x ≤ b) : clamp x a b = x := by
  unfold clamp; split <;> (try split) <;> omega

/-- The rounded quotient is the number nearest to it, the larger of two that are equally near. -/
theorem rounded_nearest (num : Int) {den : Nat} (h : 0 < den) :
    rounded num den * (2 * den) ≤ 2 * num + den ∧ 2 * num + den < (rounded num den + 1) * (2 * den) := by
  have hd : (0 : Int) < 2 * (den : Int) := by omega
  exact ⟨Int.ediv_mul_le _ hd.ne', Int.lt_ediv_add_one_mul_self _ hd⟩

theorem roundedNat_le {num den m : Nat} (h : num ≤ m * den) (hd : 0 < den) : roundedNat num den ≤ m := by
  unfold roundedNat
  rw [← Nat.lt_succ_iff, Nat.div_lt_iff_lt_mul (by omega)]
  calc 2 * num + den < 2 * (m * den) + 2 * den := by omega
    _ = m.succ * (2 * den) := by rw [Nat.succ_eq_add_one]; ring

/-! ### Timers -/

@[simp] theorem seconds_ne_none (n : Nat) : seconds n ≠ none := by simp [seconds]

theorem wholeSeconds_seconds (n : Nat) : Timer.wholeSeconds (seconds n) = n := by
  simp [Timer.wholeSeconds, seconds]

/-! ### Flags -/

@[simp] theorem EventFlags.get_set (e : EventFlags) (f : Flag) : (e.set f).get f = true := by cases f <;> rfl

theorem EventFlags.get_set_ne (e : EventFlags) {f g : Flag} (h : f ≠ g) : (e.set f).get g = e.get g := by
  cases f <;> cases g <;> first | rfl | exact absurd rfl h

/-! ### Responses -/

@[simp] theorem responseFrames_length (node : Fin 4) (code : Nat) (r : Result) (content : List Byte) :
    (responseFrames node code r content).length = framesOf content := by simp [responseFrames]

theorem responseFrame_length (node : Fin 4) (code : Nat) (r : Result) (content : List Byte) (n k : Nat) :
    (responseFrame node code r content n k).data.length = 8 := by simp [responseFrame]

theorem State.answer_on {s : State} (h : s.vehicle.link = .on) (code : Nat) (r : Result) (content : List Byte) :
    s.answer code r content
      = { s with responses := s.responses ++ responseFrames s.node code r content, draws := s.draws + 1 } := by
  simp [State.answer, h]

theorem State.answer_busOff {s : State} (h : s.vehicle.link = .busOff) (code : Nat) (r : Result) (content : List Byte) :
    s.answer code r content = s := by simp [State.answer, h]

/-- The room check: the request carried out, BUSY, or discarded with SERVICE_DROPPED (R182). -/
theorem State.withRoom_spec (s : State) (code n : Nat) (act : State → State) :
    (s.responses.length + n ≤ 16 → s.withRoom code n act = act s)
      ∧ (16 < s.responses.length + n → s.responses.length < 16 → s.withRoom code n act = s.answer code .busy [])
      ∧ (16 < s.responses.length + n → 16 ≤ s.responses.length → s.withRoom code n act = s.raise .serviceDropped) := by
  refine ⟨fun h => ?_, fun h h' => ?_, fun h h' => ?_⟩ <;> unfold State.withRoom
  · rw [if_pos h]
  · rw [if_neg (by omega), if_pos h']
  · rw [if_neg (by omega), if_neg (by omega)]

theorem State.serveOne_room {s : State} (h : s.responses.length < 16) (code : Nat)
    (f : State → State × Result × List Byte) : s.serveOne code f = (f s).1.answer code (f s).2.1 (f s).2.2 := by
  unfold State.serveOne
  rw [(s.withRoom_spec code 1 _).1 (by omega)]

/-! ### Source values -/

@[simp] theorem State.setSource_sourceValue (s : State) (src : Source) (v : Nat) :
    (s.setSource src v).sourceValue src = v := by
  cases src <;> simp [State.setSource, State.sourceValue]

theorem State.setSource_sourceValue_ne (s : State) {src other : Source} (v : Nat) (h : other ≠ src) :
    (s.setSource src v).sourceValue other = s.sourceValue other := by
  cases src <;> cases other <;>
    first
    | rfl
    | exact absurd rfl h
    | (simp only [State.setSource, State.sourceValue, Fin.getElem_fin]
       rw [Vector.getElem_set_ne]
       intro e
       exact h (by congr 1; exact (Fin.ext e).symm))

/-! ### The power allocator -/

@[simp] theorem handOut_length (left : Nat) (l : List (Nat × Nat)) : (handOut left l).length = l.length := by
  induction l generalizing left with
  | nil => rfl
  | cons x rest ih => unfold handOut; split <;> simp [ih]

@[simp] theorem shareOut_length (avail : Nat) (needs : List Nat) : (shareOut avail needs).length = needs.length := by
  by_cases h : needs.sum ≤ avail <;> simp [shareOut, h]

theorem shareOut_of_fits {avail : Nat} {needs : List Nat} (h : needs.sum ≤ avail) : shareOut avail needs = needs := by
  simp [shareOut, h]

@[simp] theorem needsOf_length (p : Share → Bool) (cs : List Share) : (needsOf p cs).length = cs.length := by simp [needsOf]

theorem needsOf_of_none {p : Share → Bool} {cs : List Share} (h : ∀ c ∈ cs, p c = false) :
    needsOf p cs = List.replicate cs.length 0 := by
  rw [← List.map_const']
  exact List.map_congr_left fun c hc => by simp [h c hc]

theorem zipWith_add_zeros (l : List Nat) : List.zipWith (· + ·) (List.replicate l.length 0) l = l := by
  induction l with
  | nil => rfl
  | cons x rest ih => simpa [List.replicate_succ] using ih

@[simp] theorem levelShares_length (level remaining : Nat) (cs : List Share) :
    (levelShares level remaining cs).length = cs.length := by simp [levelShares]

/-- A level whose claimants are all served together shares the remaining budget among them (R150). -/
theorem levelShares_together {level : Nat} (remaining : Nat) {cs : List Share}
    (h : ∀ c ∈ cs, c.level = level → c.first = false) :
    levelShares level remaining cs = shareOut remaining (needsOf (fun c => c.level == level) cs) := by
  have hnone : needsOf (fun c => c.level == level && c.first) cs = List.replicate cs.length 0 :=
    needsOf_of_none fun c hc => by by_cases hl : c.level = level <;> simp_all
  have hall : needsOf (fun c => c.level == level && !c.first) cs = needsOf (fun c => c.level == level) cs :=
    List.map_congr_left fun c hc => by by_cases hl : c.level = level <;> simp_all
  rw [levelShares, hnone, hall, shareOut_of_fits (by simp)]
  simpa using zipWith_add_zeros (shareOut remaining (needsOf (fun c => c.level == level) cs))

/-- Above level 0 every level is shared among all its claimants (R150). -/
theorem levelShares_above (level remaining : Nat) (cs : List Share) (h : level ≠ 0) :
    levelShares level remaining cs = shareOut remaining (needsOf (fun c => c.level == level) cs) :=
  levelShares_together remaining fun c _ hc => by simp [Share.first, hc, h]

/-- A refused share is received by nobody: a claimant receives its own share or 0 (R151). -/
theorem receive_own {level : Nat} {cs : List Share} {shares : List Nat} {i : Nat} {c : Share} {q : Nat}
    (hc : cs[i]? = some c) (hq : shares[i]? = some q) :
    (receive level cs shares)[i]? = some (if c.level = level ∧ c.minimum ≤ q then q else 0) := by
  simp [receive, List.getElem?_zipWith, hc, hq]

/-- In STANDBY no recomputation is made (R148). -/
theorem State.recompute_standby {s : State} (h : s.part = .standby) (fall : Bool) : s.recompute fall = s := by
  simp [State.recompute, h]

theorem State.regranted_standby {s : State} (h : s.part = .standby) : s.regranted = s := by simp [State.regranted, h]

/-- What the claimants bring to the levels (R147, R149). -/
theorem State.shares_spec (s : State) : s.shares = (List.finRange 20).map s.shareOf := by
  refine List.map_congr_left fun c _ => ?_
  have h : c = screenClaim ↔ c.val = 19 := by simp [screenClaim, Fin.ext_iff]
  simp [State.shareOf, State.effectiveLevel, Claim.effective, h]

/-- The headrooms that share the pool (R153). -/
theorem State.headrooms_spec (s : State) (regular : List Nat) :
    s.headrooms regular = (List.finRange 20).map (s.headroomOf regular) := by
  refine List.map_congr_left fun c _ => ?_
  unfold claimantOf State.headroomOf
  split_ifs <;> simp_all [Published.eligible, and_assoc]

/-- The deliveries of a recomputation (R154). -/
theorem State.deliveries_spec (s : State) (new : Vector Claim 20) :
    (List.finRange 20).flatMap (fun c => deliveriesOf c s.alloc.claims[c] new[c]) = s.grantDeliveries new := by
  have h : List.finRange 20 = (List.finRange 8).map zoneClaim ++ (List.finRange 8).map curtainClaim
      ++ (List.finRange 3).map coolClaim ++ [19] := by decide
  have hz (z : Fin 8) : claimantOf (zoneClaim z) = .heater z := by revert z; decide
  have hd (d : Fin 8) : claimantOf (curtainClaim d) = .curtain d := by revert d; decide
  have hk (k : Fin 3) : claimantOf (coolClaim k) = .cooling k := by revert k; decide
  have hs : claimantOf 19 = .screen := by decide
  have sym (a b : Nat) (x : List Instr) : (if a != b then x else []) = if b = a then [] else x := by
    by_cases hp : a = b
    · simp [hp]
    · simp [hp, Ne.symm hp]
  rw [h, List.flatMap_append, List.flatMap_append, List.flatMap_append, List.flatMap_map, List.flatMap_map,
    List.flatMap_map, State.grantDeliveries]
  simp only [List.flatMap_cons, List.flatMap_nil, List.append_nil, deliveriesOf, hz, hd, hk, hs, sym, List.append_assoc]

/-- The records of a recomputation are those that Safety spells out (R149 to R153). -/
theorem State.regrantedClaims_spec (s : State) :
    withGrants s.alloc.claims (regularGrants s.alloc.beff s.shares)
        (shareOut s.alloc.pool (s.headrooms (regularGrants s.alloc.beff s.shares)))
      = s.regrantedClaims := by
  rw [s.headrooms_spec, s.shares_spec]; rfl

/-- What a recomputation does in RUNNING. -/
theorem State.recompute_running {s : State} (h : s.part = .running) (fall : Bool) :
    s.recompute fall = s.regranted.raiseIf
      (fall && (List.finRange 20).any fun c => s.regrantedClaims[c].regular < s.alloc.claims[c].regular) .budgetShed := by
  have h' : ¬ s.part = .standby := by simp [h]
  rw [State.recompute, if_pos h, State.regranted, if_neg h', ← s.deliveries_spec, ← s.regrantedClaims_spec]
  rfl

/-- A recomputation that no fall caused is the one that Safety spells out. -/
theorem State.recompute_regranted (s : State) : s.recompute false = s.regranted := by
  cases h : s.part
  · rw [State.recompute_standby h, State.regranted_standby h]
  · rw [State.recompute_running h]; rfl

/-- A recomputation that a fall of Beff caused (R155). -/
theorem State.recompute_byFall (s : State) : s.recompute true = s.regrantedByFall := by
  cases h : s.part
  · rw [State.recompute_standby h, State.regrantedByFall, if_neg (by simp [h]), State.regranted_standby h]
  · have hf : s.regranted.flags = s.flags := by unfold State.regranted; split <;> rfl
    rw [State.recompute_running h, State.regrantedByFall]
    by_cases hl : ∃ c : Fin 20, s.regrantedClaims[c].regular < s.alloc.claims[c].regular
    · rw [if_pos (show _ ∧ _ from ⟨h, hl⟩), State.raiseIf, if_pos (by simpa using hl), State.raise, hf]; rfl
    · rw [if_neg (fun x : _ ∧ _ => hl x.2), State.raiseIf, if_neg (by simpa using hl)]

/-- The target budget recomputed (R141, R142). -/
theorem State.retarget_targeted (s : State) : s.retarget = s.targeted := by
  have h : s.targetNow = min (s.budgetRow s.alloc.line).base (s.alloc.permitted.getD (s.budgetRow s.alloc.line).base) := by
    unfold State.targetNow; cases s.alloc.permitted <;> simp
  unfold State.retarget State.targeted
  simp only [h, State.recompute_byFall]
  split_ifs <;> rfl

/-- The absorption pool recomputed (R152). -/
theorem State.repool_pooled (s : State) : s.repool = s.pooled := by
  have h : s.poolNow
      = if s.alloc.line = .wired then min (s.alloc.surplus.getD 0) (s.budgetRow .wired).cap else 0 := by
    unfold State.poolNow; cases s.alloc.surplus <;> simp
  unfold State.repool State.pooled
  simp only [h, State.recompute_regranted, eq_comm]

/-- Which claimant a row is for (R146, R161, R204). -/
theorem OutputRow.isFor_spec (r : OutputRow) (c : Fin 20) : r.isFor c = (r.claimant == some c) := by
  unfold OutputRow.isFor OutputRow.claimant OutputRow.func
  rw [Bool.eq_iff_iff]
  generalize r.functionCode = f
  generalize r.target = t
  have hc := c.isLt
  rcases f with _ | _ | _ | _ | _ | _ | _ | _ | f
  all_goals simp [OutFunction.ofCode, zoneClaim, curtainClaim, coolClaim, screenClaim, Fin.ext_iff]
  all_goals omega

theorem State.serves_spec (s : State) (i : Fin 24) (c : Fin 20) :
    s.serves i c = ((s.outputRow i).used && (s.outputRow i).claimant == some c) := by
  rw [State.serves, OutputRow.isFor_spec]

/-- The capacity of a claimant (R146). -/
theorem State.capacityNow_spec (s : State) (c : Fin 20) : s.capacityNow c = s.usablePower c := by
  unfold State.capacityNow State.channelsReady State.usablePower State.ownCapacity claimantOf
  simp only [s.serves_spec]
  generalize (List.finRange 24).filter _ = mine
  by_cases h : mine = [] ∨ ∃ i ∈ mine, s.channels[i].faulted = true
  · rw [if_pos h, if_neg]
    rcases h with h | ⟨i, hi, hf⟩
    · simp [h]
    · simp only [Bool.and_eq_true, List.all_eq_true, not_and, not_forall]
      exact fun _ => ⟨i, hi, by simpa using hf⟩
  · rw [if_neg h, if_pos]
    · split_ifs <;> (try rfl) <;> (simp_all; try split) <;> simp_all
    · push Not at h
      simp only [Bool.and_eq_true, List.all_eq_true, Bool.not_eq_true', List.isEmpty_eq_false_iff]
      exact ⟨h.1, fun i hi => by simpa using h.2 i hi⟩

theorem State.deliver_claims (s : State) (claims : Vector Claim 20) :
    (s.deliver claims).alloc = { s.alloc with claims := claims } := rfl

/-! ### The output channels -/

/-- Which source value a row is formed from (R161, R163). -/
theorem OutputRow.fedBy_spec (r : OutputRow) (src : Source) : r.fedBy src = (r.source == some src) := by
  unfold OutputRow.fedBy OutputRow.source OutputRow.func
  rw [Bool.eq_iff_iff]
  generalize r.functionCode = f
  generalize r.target = t
  rcases f with _ | _ | _ | _ | _ | _ | _ | _ | f <;> cases src
  all_goals simp [OutFunction.ofCode, Fin.ext_iff]
  all_goals omega

theorem OutputRow.isHeater_spec (r : OutputRow) :
    r.isHeater = decide (r.functionCode = 1 ∨ r.functionCode = 4 ∨ r.functionCode = 5) := by
  unfold OutputRow.isHeater OutputRow.func
  generalize r.functionCode = f
  rcases f with _ | _ | _ | _ | _ | _ | _ | _ | f <;> simp [OutFunction.ofCode, OutFunction.isHeater]

theorem OutputRow.isPower_spec (r : OutputRow) :
    r.isPower = decide (r.functionCode = 1 ∨ r.functionCode = 4 ∨ r.functionCode = 5 ∨ r.functionCode = 7) := by
  unfold OutputRow.isPower OutputRow.func
  generalize r.functionCode = f
  rcases f with _ | _ | _ | _ | _ | _ | _ | _ | f <;> simp [OutFunction.ofCode, OutFunction.isPower]

theorem OutputRow.isSwitch_spec (r : OutputRow) : r.isSwitch = decide (r.encodingCode = 2) := by
  unfold OutputRow.isSwitch OutputRow.encoding Encoding.ofCode
  split_ifs <;> simp_all

theorem encodeOutput_spec (r : OutputRow) (cmd : Nat) : encodeOutput r cmd = r.encoded cmd := by
  unfold encodeOutput OutputRow.encoded OutputRow.encoding Encoding.ofCode
  split_ifs <;> simp_all

/-- What a changed output does to the pending frame (R169, R170, R173). -/
theorem Channel.afterChange_spec (s : State) (c : Fin 24) (out : Nat) (y : Channel)
    (hf : y.frame = s.channels[c].frame) (hs : y.spacing = s.channels[c].spacing)
    (hl : y.lastCarried = s.channels[c].lastCarried) (ho : y.output = out) :
    Channel.afterChange (s.channelView c) y = { y with frame := s.frameAfterChange c out } := by
  subst ho
  have heta : ∀ f, y.frame = f → y = { y with frame := f } := fun f h => by rw [← h]
  simp only [State.frameAfterChange, Channel.afterChange, ← hf, ← hs, ← hl]
  cases h : y.frame <;>
    simp only [Channel.makeFrame, Channel.judge, Channel.exempt, Channel.offer, State.channelView,
      OutputRow.isPower_spec, Bool.and_eq_true, decide_eq_true_eq, beq_iff_eq]
  · by_cases hv : (s.outputRow c).level ≤ 14
    · have hv' : ¬ 14 < (s.outputRow c).level := by omega
      simp only [hv, hv', if_true, and_false, reduceCtorEq, false_and, if_false]
      split <;> rfl
    · have hv' : 14 < (s.outputRow c).level := by omega
      simp only [hv, hv', if_false, and_true, if_true]
      exact heta _ h
  · simp only [reduceCtorEq, false_and, if_false]
    split <;> rfl
  · cases hb : s.climate.onBus.any fun t => t.src == TxSource.channel c
    · simp only [reduceCtorEq, false_and, and_false, Bool.false_eq_true, if_false]
      split <;> rfl
    · simp only [reduceCtorEq, false_and, and_true, if_true, if_false]
      exact heta _ h

/-- The output formed again (R166, R169). -/
theorem Channel.setOutput_spec (s : State) (c : Fin 24) (out : Nat) (y : Channel)
    (hf : y.frame = s.channels[c].frame) (hs : y.spacing = s.channels[c].spacing)
    (hl : y.lastCarried = s.channels[c].lastCarried) (ho : y.output = s.channels[c].output) :
    Channel.setOutput (s.channelView c) out y = s.withOutput c out y := by
  unfold Channel.setOutput State.withOutput
  rw [ho]
  split
  · next h => rw [h, ← ho, ← hf]
  · rw [Channel.afterChange_spec s c out { y with output := out } hf hs hl rfl]

/-- A commanded value taken (R166, R168). -/
theorem Channel.command_spec (s : State) (c : Fin 24) (cmd : Nat) :
    s.channels[c].command (s.channelView c) cmd = s.withCommand c cmd := by
  unfold Channel.command Channel.commandSwitch State.withCommand
  have hr : (s.channelView c).row = s.outputRow c := rfl
  rw [hr, OutputRow.isSwitch_spec, encodeOutput_spec]
  by_cases h : (s.outputRow c).encodingCode = 2
  · have ho : cmd * (1000 * (s.outputRow c).window) / 1000 = onTimeOf (s.outputRow c) cmd := rfl
    simp only [h, decide_true, if_true, ne_eq, not_true_eq_false, if_false, ho]
    split
    · by_cases ht : onTimeOf (s.outputRow c) cmd ≤ s.channels[c].elapsed
      · rw [if_pos ht, if_pos ht]; exact Channel.setOutput_spec s c _ _ rfl rfl rfl rfl
      · rw [if_neg ht, if_neg ht, State.withOutput, if_pos rfl]
    · rfl
  · simp only [h, decide_false, Bool.false_eq_true, if_false, ne_eq, not_false_eq_true, if_true]
    exact Channel.setOutput_spec s c _ _ rfl rfl rfl rfl

/-- A window start (R167). -/
theorem Channel.windowStart_spec (s : State) (c : Fin 24) (cmd : Nat) :
    Channel.windowStart (s.channelView c) { s.channels[c] with commanded := cmd } = s.withWindow c cmd :=
  Channel.setOutput_spec s c _ _ rfl rfl rfl rfl

/-- The commanded value of a used row (R165). -/
theorem State.commandedFrom_spec (s : State) (c : Fin 24) (v : Nat) (h : (s.outputRow c).used = true) :
    s.commandedFrom (s.outputRow c) v = s.commandedValue c v := by
  unfold State.commandedFrom State.commandedValue
  simp only [s.serves_spec, h, Bool.true_and, OutputRow.isHeater_spec, decide_eq_true_eq]
  have hf : ∀ k : Fin 20, ((List.finRange 20).find? fun j => some k == some j) = some k := by decide
  have hn : ((List.finRange 20).find? fun j => (none : Option (Fin 20)) == some j) = none := by decide
  cases hc : (s.outputRow c).claimant with
  | none => simp only [hn, if_true]
  | some k => simp only [hf]

/-! ### Cooling units, notifications and stages -/

/-- A cooling unit that computes and posts (R43, R45, R46). -/
theorem CoolRun.compute_spec (s : State) (k : Fin 3) :
    CoolRun.compute (s.coolView k) ⟨s.coolers[k], []⟩ = ⟨(s.coolComputed k).1, (s.coolComputed k).2⟩ := by
  have hp : (s.coolView k).power = roundedNat (s.coolPerMille k * s.ratedPower k) 1000 := rfl
  have hq : (s.coolView k).raised
      = if roundedNat (s.coolPerMille k * s.ratedPower k) 1000 = 0 then 0
        else max (roundedNat (s.coolPerMille k * s.ratedPower k) 1000) (s.claimRow (coolClaim k)).minimum := rfl
  have ho : (s.coolView k).minOff = (s.sectRow k).minOff := rfl
  have hs : (s.coolView k).sec = k := rfl
  have hr : (if (s.sectRow k).used = true then (s.sectRow k).rated else 0) = s.ratedPower k := rfl
  unfold CoolRun.compute State.coolComputed
  simp only [hr]
  generalize hpw : roundedNat (s.coolPerMille k * s.ratedPower k) 1000 = power at *
  generalize hu : s.coolers[k] = u
  rcases hst : u.state
  · simp [CoolRun.post, hq, hs]
    exact hst
  · by_cases h : power = 0 ∧ u.minOn = none
    · have h' : ¬ (power ≠ 0 ∨ u.minOn ≠ none) := by tauto
      obtain ⟨h0, h1⟩ := h
      by_cases hm : (s.sectRow k).minOff = 0
      · by_cases hd : u.demand = 0 <;>
          simp [CoolRun.enterLockout, CoolRun.post, CoolRun.setDemand, startSeconds, h0, h1, hm, hd, hp, hq, ho, hs, eq_comm]
      · by_cases hd : u.demand = 0 <;>
          simp [CoolRun.enterLockout, CoolRun.post, CoolRun.setDemand, startSeconds, h0, h1, hm, hd, hp, ho, hs, seconds,
            eq_comm]
    · have h' : power ≠ 0 ∨ u.minOn ≠ none := by tauto
      simp [CoolRun.post, hp, hq, hs, h, h']
      exact hst
  · simp [CoolRun.post, hs]
    exact hst

theorem State.coolComputed_congr {s t : State} (k : Fin 3) (h : t.coolers[k] = s.coolers[k]) (ha : t.active = s.active) :
    t.coolComputed k = s.coolComputed k := by
  have hz : t.zoneRow = s.zoneRow := by funext z; simp only [State.zoneRow, ha]
  have hr : t.sectRow k = s.sectRow k := by simp only [State.sectRow, ha]
  have hc : t.claimRow = s.claimRow := by funext c; simp only [State.claimRow, ha]
  have hi : t.zoneIn k = s.zoneIn k := by funext z; simp only [State.zoneIn, hz]
  have hb : t.cabZone = s.cabZone := by simp only [State.cabZone, hz]
  have hp : t.coolPerMille k = s.coolPerMille k := by simp only [State.coolPerMille, h, hi, hb, hz]
  unfold State.coolComputed
  rw [hp, hr, hc, h]

/-- Every unit computes and posts (R43). -/
theorem State.coolersCompute_spec (s : State) : s.coolersCompute = s.coolersComputed := by
  have hrun (t : State) (k : Fin 3) : t.runCooler k CoolRun.compute
      = { t with
          coolers := t.coolers.set k (t.coolComputed k).1, inFlight := t.inFlight ++ (t.coolComputed k).2 } := by
    rw [State.runCooler, CoolRun.compute_spec]; rfl
  have hfold : s.coolersCompute
      = ((s.runCooler 0 CoolRun.compute).runCooler 1 CoolRun.compute).runCooler 2 CoolRun.compute := rfl
  have h1 : (s.runCooler 0 CoolRun.compute).coolComputed 1 = s.coolComputed 1 :=
    State.coolComputed_congr 1 (by rw [hrun]; simp) (by rw [hrun])
  have h2 : ((s.runCooler 0 CoolRun.compute).runCooler 1 CoolRun.compute).coolComputed 2 = s.coolComputed 2 :=
    State.coolComputed_congr 2 (by rw [hrun, hrun]; simp) (by rw [hrun, hrun])
  rw [hfold, hrun _ 2, h2, hrun _ 1, h1, hrun _ 0]
  have hl : (List.finRange 3).flatMap (fun k => (s.coolComputed k).2)
      = (s.coolComputed 0).2 ++ ((s.coolComputed 1).2 ++ (s.coolComputed 2).2) := by
    rw [show List.finRange 3 = [0, 1, 2] by decide]; simp
  have hv : Vector.ofFn (fun k : Fin 3 => (s.coolComputed k).1)
      = ((s.coolers.set 0 (s.coolComputed 0).1).set 1 (s.coolComputed 1).1).set 2 (s.coolComputed 2).1 := by
    ext1 i hi
    rcases i with _ | _ | _ | i <;> first | omega | simp
  rw [State.coolersComputed, hl, hv]
  simp only [List.append_assoc]
  rfl

/-- The units as START finds them, and their requests (R51). -/
theorem State.startCoolers_spec (s : State) : s.startCoolers = s.coolersRested.coolersComputed := by
  have hrun (t : State) (k : Fin 3) : t.runCooler k CoolRun.rest
      = { t with
          coolers := t.coolers.set k { t.coolers[k] with
            state := .off, minOn := none, minOff := none, demand := 0, qcs := Vector.replicate 8 0 }
          inFlight := t.inFlight ++ if t.coolers[k].demand = 0 then [] else [.sourceDelivery (.demand k) 0] } := by
    have hs : (t.coolView k).sec = k := rfl
    by_cases h : t.coolers[k].demand = 0
    · simp only [State.runCooler, CoolRun.rest, CoolRun.enterOff, CoolRun.setDemand, h, if_true]
      rfl
    · simp only [State.runCooler, CoolRun.rest, CoolRun.enterOff, CoolRun.setDemand, Ne.symm h, h, if_false, hs]
      rfl
  have hfold : forEach 3 (fun k t => t.runCooler k CoolRun.rest) s = s.coolersRested := by
    rw [show forEach 3 (fun k t => t.runCooler k CoolRun.rest) s
      = ((s.runCooler 0 CoolRun.rest).runCooler 1 CoolRun.rest).runCooler 2 CoolRun.rest from rfl]
    rw [hrun _ 2, hrun _ 1, hrun _ 0, State.coolersRested]
    rw [show List.finRange 3 = [0, 1, 2] by decide]
    simp
    ext1 i hi
    rcases i with _ | _ | _ | i <;> first | omega | simp
  rw [State.startCoolers, hfold, State.coolersCompute_spec]

/-- The notifications of a slot event (R23). -/
theorem State.notify_spec (s : State) (n : SlotNote) : s.notify n = s.emit (s.notified n) := by
  have hc (code : Nat) : slotOfCode code = some n.slot ↔ code = n.slot.val := by
    unfold slotOfCode
    have := n.slot.isLt
    split <;> (simp [Fin.ext_iff]; try omega)
  have hu (r : DoorRow) (p : Prop) [Decidable p] (e : Instr) :
      (if r.used = true ∧ p then [e] else []) = if r.used = true then (if p then [e] else []) else [] := by
    split_ifs <;> simp_all
  have hs (p : Prop) [Decidable p] (e : Instr) :
      (if s.sys.used = true ∧ p then [e] else []) = if s.sys.used = true then (if p then [e] else []) else [] := by
    split_ifs <;> simp_all
  have hd : s.doorNotes n = (List.finRange 8).flatMap fun d =>
      (if (s.doorRow d).used = true ∧ (s.doorRow d).stateSlot = n.slot.val then [.doorStateNotification d n] else [])
        ++ (if (s.doorRow d).used = true ∧ (s.doorRow d).boardedSlot = n.slot.val then
          [.countSlotNotification d .boarded n] else [])
        ++ (if (s.doorRow d).used = true ∧ (s.doorRow d).alightedSlot = n.slot.val then
          [.countSlotNotification d .alighted n] else []) := by
    refine List.flatMap_congr fun d _ => ?_
    simp only [hu, hc]
    split_ifs <;> rfl
  have hr (role : Role) (code : Nat) (e : Instr) (h : s.designated role = if s.sys.used then slotOfCode code else none) :
      (if s.designated role = some n.slot then [e] else []) = if s.sys.used = true ∧ code = n.slot.val then [e] else [] := by
    rw [h, hs]
    by_cases hb : s.sys.used = true
    · simp only [hb, if_true, hc]
    · simp only [hb, if_false, reduceCtorEq]
  unfold State.notify State.notified State.allNotes State.allocatorNotes
  simp only [hd, hr .lineState _ _ rfl, hr .permittedPower _ _ rfl, hr .surplus _ _ rfl, hr .terminusMark _ _ rfl]
  by_cases h : n.status = .held
  · simp [h]
  · simp [h, List.append_assoc]

/-- The hand-overs of the present stage (R107, R108, R113). -/
theorem State.handStage_spec (s : State) : s.handStage = s.stageHanded := by
  have hf (posted : Nat) (es : List Instr) :
      State.flapNow { s with screen := { s.screen with posted := posted }, inFlight := es }
        = s.flapOf s.screen.stage posted s.screen.grant := by
    simp only [State.flapNow, State.flapOf, Screen.short, State.stageNow, Bool.and_eq_true, decide_eq_true_eq]
    rfl
  unfold State.handStage State.stageHanded State.formFlap State.emit
  simp only [hf]
  change (if s.flapOf s.screen.stage (s.stageRow s.screen.stage).request s.screen.grant = s.screen.flap then _ else _) = _
  split
  · next h => simp only [h, List.append_nil]; rfl
  · rfl

end Sys2Proof.Machine
end

