-- ==== Sys2Proof/Laws/Capacities.lean ====
section
/-! SUPPORT. What the capacity updates of the power allocator give, in one step: the capacities of the claimants listed,
the heater channels that form again, and the recomputation that a change triggers. -/

namespace Sys2Proof.Machine

/-! ### Walks over the channels -/

theorem channels_set_fold (new : Fin 24 → Channel) (l : List (Fin 24)) (cs : Vector Channel 24) :
    l.foldl (fun v i => v.set i (new i)) cs = Vector.ofFn fun j : Fin 24 => if j ∈ l then new j else cs[j] := by
  induction l generalizing cs with
  | nil => simp
  | cons i l ih =>
    rw [List.foldl_cons, ih]
    refine Vector.ext fun j hj => ?_
    simp only [Vector.getElem_ofFn, Fin.getElem_fin, Vector.getElem_set, List.mem_cons]
    by_cases hji : i.val = j
    · subst hji; simp
    · have hm : (⟨j, hj⟩ : Fin 24) ≠ i := fun e => hji (by rw [← e])
      simp [hji, hm]

/-- A walk over the channels in which each turn replaces the channel of its index alone. -/
theorem forEach_channels (s : State) (f : Fin 24 → State → State) (new : Fin 24 → Channel)
    (h : ∀ i (cs : Vector Channel 24), cs[i] = s.channels[i] →
      f i { s with channels := cs } = { s with channels := cs.set i (new i) }) :
    forEach 24 f s = { s with channels := Vector.ofFn new } := by
  have key : ∀ (l : List (Fin 24)), l.Nodup → ∀ cs : Vector Channel 24, (∀ j ∈ l, cs[j] = s.channels[j]) →
      l.foldl (fun t i => f i t) { s with channels := cs }
        = { s with channels := l.foldl (fun v (i : Fin 24) => v.set i (new i)) cs } := by
    intro l
    induction l with
    | nil => intro _ cs _; rfl
    | cons i l ih =>
      intro hn cs hc
      obtain ⟨hi, hl⟩ := List.nodup_cons.mp hn
      rw [List.foldl_cons, h i cs (hc i List.mem_cons_self)]
      refine ih hl _ fun j hj => ?_
      have hne : i.val ≠ j.val := fun e => hi (Fin.ext e ▸ hj)
      rw [← hc j (List.mem_cons_of_mem _ hj)]
      simp only [Fin.getElem_fin, Vector.getElem_set, if_neg hne]
  have h' := key (List.finRange 24) (List.nodup_finRange 24) s.channels fun _ _ => rfl
  rw [channels_set_fold] at h'
  simp only [List.mem_finRange, if_true] at h'
  exact h'

/-! ### The channels of a claimant -/

/-- The channels that serve a claimant are those of a heater function just where the claimant is a heater (R146, R165). -/
theorem State.serves_heater (s : State) (i : Fin 24) (c : Fin 20) (h : s.serves i c = true) :
    (s.outputRow i).isHeater = true ↔ c.val < 16 ∨ c.val = 19 := by
  rw [OutputRow.isHeater_spec, decide_eq_true_iff]
  simp only [State.serves, OutputRow.isFor, Bool.and_eq_true, Bool.or_eq_true, beq_iff_eq, decide_eq_true_eq] at h
  have := c.isLt
  omega

/-- The heater channels of a claimant form again (R165). -/
theorem State.formClaimant_spec (s : State) (c : Fin 20) :
    s.formClaimant c
      = { s with
          channels := Vector.ofFn fun i : Fin 24 =>
            if s.serves i c = true ∧ (c.val < 16 ∨ c.val = 19) then
              s.withCommand i (s.commandedValue i (s.alloc.claims[c].regular + s.alloc.claims[c].absorption))
            else s.channels[i] } := by
  refine forEach_channels s _ _ fun i cs hi => ?_
  have hr : State.outputRow { s with channels := cs } i = s.outputRow i := rfl
  have hg : (((s.outputRow i).used && (s.outputRow i).isHeater && (s.outputRow i).claimant == some c) = true)
      ↔ (s.serves i c = true ∧ (c.val < 16 ∨ c.val = 19)) := by
    constructor
    · intro h
      simp only [Bool.and_eq_true] at h
      have hs : s.serves i c = true := by rw [s.serves_spec]; simp [h.1.1, h.2]
      exact ⟨hs, (s.serves_heater i c hs).mp h.1.2⟩
    · rintro ⟨hs, hc⟩
      have hh := (s.serves_heater i c hs).mpr hc
      rw [s.serves_spec, Bool.and_eq_true] at hs
      simp [hs.1, hs.2, hh]
  simp only [hr]
  by_cases h : s.serves i c = true ∧ (c.val < 16 ∨ c.val = 19)
  · rw [if_pos (hg.mpr h), if_pos h]
    have hu : (s.outputRow i).used = true := by
      have := h.1; rw [s.serves_spec, Bool.and_eq_true] at this; exact this.1
    rw [← s.commandedFrom_spec i _ hu, ← Channel.command_spec]
    rw [← hi]
    rfl
  · rw [if_neg (fun e => h (hg.mp e)), if_neg h, ← hi]
    simp

theorem State.usablePower_congr {s t : State} (c : Fin 20) (ha : t.active = s.active) (hd : t.doors = s.doors)
    (hs : t.screen = s.screen) (hc : ∀ i : Fin 24, t.channels[i].faulted = s.channels[i].faulted) :
    t.usablePower c = s.usablePower c := by
  have ho : t.outputRow = s.outputRow := by funext i; simp only [State.outputRow, ha]
  have hv (i : Fin 24) : t.serves i c = s.serves i c := by simp only [State.serves, ho]
  have hz : t.zoneRow = s.zoneRow := by funext z; simp only [State.zoneRow, ha]
  have hk : t.sectRow = s.sectRow := by funext z; simp only [State.sectRow, ha]
  have hg : t.stageRow = s.stageRow := by funext z; simp only [State.stageRow, ha]
  unfold State.usablePower
  simp only [hv, hz, hk, hg, hd, hs, hc]

/-- A claimant that a channel serves is the only one it serves. -/
theorem State.serves_find (s : State) (i : Fin 24) (c : Fin 20) (h : s.serves i c = true) (p : Fin 20 → Bool) :
    ((List.finRange 20).find? fun k => s.serves i k && p k) = if p c = true then some c else none := by
  have huniq (k : Fin 20) : s.serves i k = true → k = c := fun hk => by
    rw [s.serves_spec, Bool.and_eq_true] at hk h
    have := (beq_iff_eq.mp hk.2).symm.trans (beq_iff_eq.mp h.2)
    exact Option.some.inj this
  split
  · next hp =>
    cases hf : (List.finRange 20).find? fun k => s.serves i k && p k with
    | none =>
      have := List.find?_eq_none.mp hf c (List.mem_finRange c)
      simp [h, hp] at this
    | some k =>
      have := List.find?_some hf
      rw [Bool.and_eq_true] at this
      rw [huniq k this.1]
  · next hp =>
    rw [List.find?_eq_none]
    intro k _ hk
    rw [Bool.and_eq_true] at hk
    exact hp (huniq k hk.1 ▸ hk.2)

theorem State.commandedValue_serves (s : State) (i : Fin 24) (c : Fin 20) (h : s.serves i c = true) (v : Nat) :
    s.commandedValue i v = if s.part = .standby then (s.outputRow i).standby
      else if (s.outputRow i).functionCode = 1 ∨ (s.outputRow i).functionCode = 4 ∨ (s.outputRow i).functionCode = 5 then
        (if s.alloc.claims[c].capacity = 0 then 0 else min 1000 (v * 1000 / s.alloc.claims[c].capacity))
      else v := by
  have := s.serves_find i c h fun _ => true
  simp only [Bool.and_true, if_true] at this
  simp only [State.commandedValue, this]

/-- Of the claims, a channel's commanded value takes the capacity of the claimant it serves. -/
theorem State.commandedValue_congr {s t : State} (i : Fin 24) (c : Fin 20) (h : s.serves i c = true) (v : Nat)
    (ha : t.active = s.active) (hp : t.part = s.part) (hc : t.alloc.claims[c].capacity = s.alloc.claims[c].capacity) :
    t.commandedValue i v = s.commandedValue i v := by
  have ho : t.outputRow i = s.outputRow i := by simp only [State.outputRow, ha]
  have hv : t.serves i c = true := by simpa only [State.serves, ho] using h
  rw [State.commandedValue_serves t i c hv, State.commandedValue_serves s i c h, ho, hp, hc]

/-! ### The capacities brought up to date -/

/-- The claimants of the list with their capacities up to date. -/
def State.cappedClaims (s : State) (l : List (Fin 20)) : Vector Claim 20 :=
  Vector.ofFn fun c : Fin 20 =>
    { s.alloc.claims[c] with capacity := if c ∈ l then s.usablePower c else s.alloc.claims[c].capacity }

/-- The commanded value that channel i of claimant c forms when the claimant's capacity comes up to date. -/
def State.cappedValue (s : State) (i : Fin 24) (c : Fin 20) : Nat :=
  State.commandedValue (s.setClaim c { s.alloc.claims[c] with capacity := s.usablePower c }) i
    (s.alloc.claims[c].regular + s.alloc.claims[c].absorption)

/-- Channel i once the capacities of the list are up to date. -/
def State.cappedChannel (s : State) (l : List (Fin 20)) (i : Fin 24) : Channel :=
  match (List.finRange 20).find? fun c =>
      s.serves i c && (decide (c ∈ l) && s.usablePower c != s.alloc.claims[c].capacity) with
  | some c => if c.val < 16 ∨ c.val = 19 then s.withCommand i (s.cappedValue i c) else s.channels[i]
  | none => s.channels[i]

/-- The part with other claimants and channels. -/
def State.repowered (s : State) (claims : Vector Claim 20) (channels : Vector Channel 24) : State :=
  { s with alloc := { s.alloc with claims := claims }, channels := channels }

/-- The part once the capacities of the claimants listed are up to date, with no recomputation yet (R146, R165). -/
def State.capped (s : State) (l : List (Fin 20)) : State :=
  s.repowered (s.cappedClaims l) (Vector.ofFn (s.cappedChannel l))

theorem State.capped_nil (s : State) : s.capped [] = s := by
  have hc : s.cappedClaims [] = s.alloc.claims := Vector.ext fun i hi => by simp [State.cappedClaims]
  have hf (i : Fin 24) : ((List.finRange 20).find? fun c =>
      s.serves i c && (decide (c ∈ ([] : List (Fin 20))) && s.usablePower c != s.alloc.claims[c].capacity)) = none := by simp
  have hv : Vector.ofFn (s.cappedChannel []) = s.channels := Vector.ext fun i hi => by
    rw [Vector.getElem_ofFn, State.cappedChannel, hf]; rfl
  rw [State.capped, hc, hv]; rfl

theorem State.withCommand_faulted (s : State) (i : Fin 24) (cmd : Nat) :
    (s.withCommand i cmd).faulted = s.channels[i].faulted := by
  unfold State.withCommand State.withOutput
  simp only []
  split_ifs <;> rfl

theorem State.cappedChannel_faulted (s : State) (l : List (Fin 20)) (i : Fin 24) :
    (s.cappedChannel l i).faulted = s.channels[i].faulted := by
  unfold State.cappedChannel
  split
  · split
    · exact s.withCommand_faulted i _
    · rfl
  · rfl

theorem State.withCommand_congr {s t : State} (i : Fin 24) (cmd : Nat) (ha : t.active = s.active) (hp : t.climate = s.climate)
    (hc : t.channels[i] = s.channels[i]) : t.withCommand i cmd = s.withCommand i cmd := by
  have ho : t.outputRow i = s.outputRow i := by simp only [State.outputRow, ha]
  simp only [State.withCommand, State.withOutput, State.frameAfterChange, ho, hp, hc]

/-- A channel that serves claimant c depends on that claimant alone. -/
theorem State.cappedChannel_serves (s : State) (l : List (Fin 20)) (i : Fin 24) (c : Fin 20) (h : s.serves i c = true) :
    s.cappedChannel l i
      = if (c ∈ l ∧ s.usablePower c ≠ s.alloc.claims[c].capacity) ∧ (c.val < 16 ∨ c.val = 19) then
          s.withCommand i (s.cappedValue i c) else s.channels[i] := by
  unfold State.cappedChannel
  rw [s.serves_find i c h fun k => decide (k ∈ l) && s.usablePower k != s.alloc.claims[k].capacity]
  by_cases hl : c ∈ l ∧ s.usablePower c ≠ s.alloc.claims[c].capacity
  · rw [if_pos (by simpa using hl)]
    simp only [hl, ne_eq, not_false_eq_true, and_self, true_and]
  · rw [if_neg (by simpa using hl), if_neg (fun e => hl e.1)]

theorem State.cappedChannel_free (s : State) (l : List (Fin 20)) (i : Fin 24) (h : ∀ c, s.serves i c = false) :
    s.cappedChannel l i = s.channels[i] := by
  unfold State.cappedChannel
  simp only [h, Bool.false_and, List.find?_eq_none.mpr (fun _ _ => Bool.false_ne_true)]

theorem State.capped_frame (s : State) (l : List (Fin 20)) : (s.capped l).active = s.active ∧ (s.capped l).doors = s.doors
    ∧ (s.capped l).screen = s.screen ∧ (s.capped l).climate = s.climate ∧ (s.capped l).part = s.part
    ∧ (s.capped l).alloc.claims = s.cappedClaims l := by
  simp only [State.capped, State.repowered, and_self]

theorem State.capped_channels (s : State) (l : List (Fin 20)) (i : Fin 24) : (s.capped l).channels[i] = s.cappedChannel l i := by
  rw [State.capped, State.repowered]
  simp only [Fin.getElem_fin, Vector.getElem_ofFn]

theorem State.capped_set (s : State) (l : List (Fin 20)) (c : Fin 20) (x : Claim) (cs : Vector Channel 24) :
    ({ (s.capped l).setClaim c x with channels := cs } : State) = s.repowered ((s.cappedClaims l).set c x) cs := by
  simp only [State.capped, State.repowered, State.setClaim]

/-- One more capacity brought up to date. -/
theorem State.capped_step (s : State) (l : List (Fin 20)) (c : Fin 20) (h : c ∉ l) :
    (s.capped l).updateCapacity c = s.capped (l ++ [c]) := by
  have hcap : (s.capped l).capacityNow c = s.usablePower c := by
    rw [State.capacityNow_spec]
    refine State.usablePower_congr (s := s) (t := s.capped l) c (s.capped_frame l).1 (s.capped_frame l).2.1
      (s.capped_frame l).2.2.1 fun i => ?_
    rw [State.capped_channels]; exact s.cappedChannel_faulted l i
  have hcl := (s.capped_frame l).2.2.2.2.2
  have hold : (s.capped l).alloc.claims[c] = s.alloc.claims[c] := by
    rw [hcl]; simp [State.cappedClaims, h]
  have hmem (k : Fin 20) (hk : k ≠ c) : k ∈ l ++ [c] ↔ k ∈ l := by simp [hk]
  have hch (i : Fin 24) (hs : s.serves i c = false) : s.cappedChannel (l ++ [c]) i = s.cappedChannel l i := by
    unfold State.cappedChannel
    have : (fun k => s.serves i k && (decide (k ∈ l ++ [c]) && s.usablePower k != s.alloc.claims[k].capacity))
        = fun k => s.serves i k && (decide (k ∈ l) && s.usablePower k != s.alloc.claims[k].capacity) := by
      funext k
      by_cases hk : k = c
      · subst hk; simp [hs]
      · simp only [hmem k hk]
    rw [this]
  unfold State.updateCapacity
  rw [hcap, hold]
  by_cases hne : s.usablePower c = s.alloc.claims[c].capacity
  · rw [if_pos hne]
    unfold State.capped
    refine congrArg₂ (State.repowered s) ?_ (congrArg Vector.ofFn (funext fun i => ?_))
    · refine Vector.ext fun k hk => ?_
      simp only [State.cappedClaims, Vector.getElem_ofFn]
      by_cases e : (⟨k, hk⟩ : Fin 20) = c
      · rw [e, if_neg h, if_pos (by simp), hne]
      · simp only [hmem _ e]
    · cases hs : s.serves i c with
      | false => rw [hch i hs]
      | true => rw [s.cappedChannel_serves _ i c hs, s.cappedChannel_serves _ i c hs]; simp [h, hne]
  · rw [if_neg hne, State.formClaimant_spec]
    refine (State.capped_set s l c _ _).trans ?_
    rw [show s.capped (l ++ [c]) = s.repowered (s.cappedClaims (l ++ [c])) (Vector.ofFn (s.cappedChannel (l ++ [c]))) from rfl]
    refine congrArg₂ (State.repowered s) ?_ (congrArg Vector.ofFn (funext fun i => ?_))
    · refine Vector.ext fun k hk => ?_
      simp only [State.cappedClaims, Vector.getElem_set, Vector.getElem_ofFn]
      by_cases e : c.val = k
      · subst e; simp
      · have e' : (⟨k, hk⟩ : Fin 20) ≠ c := fun x => e (by rw [← x])
        simp only [if_neg e, hmem _ e']
    · generalize hx : ({ s.alloc.claims[c] with capacity := s.usablePower c } : Claim) = x
      have hf : ((s.capped l).setClaim c x).active = s.active ∧ ((s.capped l).setClaim c x).climate = s.climate
          ∧ ((s.capped l).setClaim c x).part = s.part ∧ ((s.capped l).setClaim c x).channels[i] = s.cappedChannel l i
          ∧ ((s.capped l).setClaim c x).alloc.claims[c] = x := by
        obtain ⟨h1, -, -, h4, h5, -⟩ := s.capped_frame l
        simp only [State.setClaim, Fin.getElem_fin, Vector.getElem_set_self, and_true]
        exact ⟨h1, h4, h5, s.capped_channels l i⟩
      generalize (s.capped l).setClaim c x = t at hf
      obtain ⟨h1, h2, h3, h4, h5⟩ := hf
      have ho : t.outputRow i = s.outputRow i := by simp only [State.outputRow, h1]
      have hv : t.serves i c = s.serves i c := by simp only [State.serves, ho]
      rw [hv, h4]
      cases hs : s.serves i c with
      | false => rw [if_neg (by simp), hch i hs]
      | true =>
        have hl : s.cappedChannel l i = s.channels[i] := by
          rw [s.cappedChannel_serves l i c hs, if_neg (fun e => h e.1.1)]
        rw [s.cappedChannel_serves (l ++ [c]) i c hs, hl]
        by_cases hh : c.val < 16 ∨ c.val = 19
        · rw [if_pos ⟨rfl, hh⟩, if_pos ⟨⟨by simp, hne⟩, hh⟩, State.withCommand_congr i _ h1 h2 (h4.trans hl)]
          refine congrArg (s.withCommand i) ?_
          have hc : (s.setClaim c x).alloc.claims[c] = x := by
            simp only [State.setClaim, Fin.getElem_fin, Vector.getElem_set_self]
          have hr : x.regular = s.alloc.claims[c].regular ∧ x.absorption = s.alloc.claims[c].absorption := by
            rw [← hx]; exact ⟨rfl, rfl⟩
          rw [State.cappedValue, hx, State.commandedValue_serves t i c (hv.trans hs),
            State.commandedValue_serves (s.setClaim c x) i c hs, hc, h5, h3, ho, hr.1, hr.2]
          rfl
        · rw [if_neg (fun e => hh e.2), if_neg (fun e => hh e.2)]

/-- The capacities of a list brought up to date, in whatever order the list names them (R146). -/
theorem State.updateCapacities_spec (s : State) (l : List (Fin 20)) (h : l.Nodup) : s.updateCapacities l = s.capped l := by
  have key : ∀ (done todo : List (Fin 20)), (done ++ todo).Nodup →
      todo.foldl State.updateCapacity (s.capped done) = s.capped (done ++ todo) := by
    intro done todo
    induction todo generalizing done with
    | nil => intro _; simp
    | cons c l ih =>
      intro hn
      have hc : c ∉ done := by
        have := List.disjoint_of_nodup_append hn
        exact fun hd => this hd List.mem_cons_self
      rw [List.foldl_cons, s.capped_step done c hc, ih _ (by simpa using hn)]
      simp
  have := key [] l (by simpa using h)
  rwa [State.capped_nil] at this

/-- Whether a capacity of the list is out of date. -/
theorem State.capacityChanges_spec (s : State) (l : List (Fin 20)) :
    s.capacityChanges l = true ↔ s.cappedClaims l ≠ s.alloc.claims := by
  simp only [State.capacityChanges, List.any_eq_true, bne_iff_ne, State.capacityNow_spec]
  constructor
  · rintro ⟨c, hc, hne⟩ e
    apply hne
    have : (s.cappedClaims l)[c].capacity = s.usablePower c := by simp [State.cappedClaims, hc]
    rw [← this, e]
  · intro hne
    by_contra hno
    push Not at hno
    refine hne (Vector.ext fun k hk => ?_)
    simp only [State.cappedClaims, Vector.getElem_ofFn]
    by_cases e : (⟨k, hk⟩ : Fin 20) ∈ l
    · rw [if_pos e, hno _ e]; rfl
    · rw [if_neg e]; rfl

/-- The same, with a recomputation when one of them changed or another trigger came with it (R146, R148). -/
theorem State.refreshCapacities_capped (s : State) (l : List (Fin 20)) (h : l.Nodup) (also : Bool) :
    s.refreshCapacities l also
      = if s.cappedClaims l ≠ s.alloc.claims ∨ also = true then (s.capped l).regranted else s.capped l := by
  simp only [State.refreshCapacities, s.updateCapacities_spec l h, State.recompute_regranted, Bool.or_eq_true,
    State.capacityChanges_spec]

/-- The capacities of a list brought up to date, with the recomputation that a change triggers (R146, R165). -/
theorem State.refreshCapacities_spec (s : State) (l : List (Fin 20)) (h : l.Nodup) :
    s.refreshCapacities l false = s.recapacitated fun c => decide (c ∈ l) := by
  have hcl : (Vector.ofFn fun c : Fin 20 =>
      { s.alloc.claims[c] with
        capacity := if decide (c ∈ l) = true then s.usablePower c else s.alloc.claims[c].capacity }) = s.cappedClaims l := by
    simp only [decide_eq_true_eq]; rfl
  have hcap (c : Fin 20) : (s.cappedClaims l)[c] =
      { s.alloc.claims[c] with capacity := if c ∈ l then s.usablePower c else s.alloc.claims[c].capacity } := by
    simp only [State.cappedClaims, Fin.getElem_fin, Vector.getElem_ofFn]
  have hne (c : Fin 20) : ((s.cappedClaims l)[c].capacity != s.alloc.claims[c].capacity)
      = (decide (c ∈ l) && s.usablePower c != s.alloc.claims[c].capacity) := by
    rw [hcap]; by_cases e : c ∈ l <;> simp [e]
  unfold State.refreshCapacities State.recapacitated
  simp only [hcl, hne, s.updateCapacities_spec l h, Bool.or_false, State.recompute_regranted]
  by_cases hn : s.cappedClaims l = s.alloc.claims
  · rw [if_neg (fun e => (s.capacityChanges_spec l).mp e hn), if_pos hn, State.capped, hn]
    have hv : Vector.ofFn (s.cappedChannel l) = s.channels := Vector.ext fun i hi => by
      have hf : (fun c => s.serves ⟨i, hi⟩ c && (decide (c ∈ l) && s.usablePower c != s.alloc.claims[c].capacity))
          = fun _ => false := by
        funext c; rw [← hne, hn]; simp
      rw [Vector.getElem_ofFn, State.cappedChannel, hf, List.find?_eq_none.mpr fun _ _ => Bool.false_ne_true]
      rfl
    rw [hv]; rfl
  · rw [if_pos ((s.capacityChanges_spec l).mpr hn), if_neg hn]
    refine congrArg State.regranted (congrArg (State.repowered s _) (congrArg Vector.ofFn (funext fun i => ?_)))
    unfold State.cappedChannel
    cases hf : (List.finRange 20).find? fun c =>
        s.serves i c && (decide (c ∈ l) && s.usablePower c != s.alloc.claims[c].capacity) with
    | none => rfl
    | some c =>
      have hp := List.find?_some hf
      simp only [Bool.and_eq_true, decide_eq_true_eq] at hp
      simp only []
      split
      · refine Eq.trans ?_ (State.withCommand_congr (s := s)
          (t := { s with alloc := { s.alloc with claims := s.cappedClaims l } }) i _ rfl rfl rfl).symm
        refine congrArg (s.withCommand i) ?_
        have hs : State.serves { s with alloc := { s.alloc with claims := s.cappedClaims l } } i c = true := by
          rw [← hp.1]; simp only [State.serves, State.outputRow]
        have h2 : (s.cappedClaims l)[c.val].capacity = s.usablePower c := by
          have := hcap c
          rw [if_pos hp.2.1] at this
          exact congrArg Claim.capacity this
        rw [State.cappedValue]
        refine State.commandedValue_congr i c hs _ (by simp only [State.setClaim]) (by simp only [State.setClaim]) ?_
        simp only [State.setClaim, Fin.getElem_fin, Vector.getElem_set_self, h2]
      · rfl

end Sys2Proof.Machine
end

