-- ==== Sys2Proof/Tests/Slice0.lean ====
section
/-! SUPPORT. Tests: what the checks refuse, one step of each command on the spec's worked examples, and for every
statement with hypotheses a state and operands that meet them. -/

set_option maxRecDepth 20000

namespace Sys2Proof.Tests

open Sys2Proof Sys2Proof.Machine

/-! ### The bench: a part loaded with the tables of the worked examples -/

/-- A 16-bit number, least significant byte first. -/
def w (n : Int) : List Byte := [byteOf n, byteOf (n / 256)]

/-- A row written into the active bank. -/
def row (t : TableId) (i : Nat) (r : RowBytes) (s : State) : State :=
  { s with active := s.active.put t ((s.active.get t).set i r) }

/-- A MEASURE row from -400 to 850 with the timers and the substitute of the silent slot (1.4). -/
def measureRow : RowBytes := [1, 1] ++ w (-400) ++ w 850 ++ w 2000 ++ w 10 ++ w 150

/-- A STATE row from 0 to 255. -/
def stateRow : RowBytes := [1, 2] ++ w 0 ++ w 255 ++ w 2000 ++ w 0 ++ w 0

/-- The zone row of the worked passes (2.3): section B, load-coupled. -/
def zoneTwo : RowBytes :=
  [5, 1] ++ w 200 ++ w 160 ++ w 240 ++ [20, 8] ++ w 600 ++ [50, 5, 0, 3] ++ w 240 ++ w 200 ++ w 150 ++ w 250

/-- A cab zone in section A. -/
def zoneCab : RowBytes :=
  [3, 0] ++ w 200 ++ w 160 ++ w 240 ++ [20, 8] ++ w 600 ++ [50, 5, 0, 3] ++ w 100 ++ w 200 ++ w 150 ++ w 250

/-- The REPEAT door of the winter stop (3.9), with boarded slot 31. -/
def doorOne : RowBytes :=
  [1, 2, 30, 31, 255, 5] ++ w 300 ++ w 180 ++ w 120 ++ [3, 2, 20, 16] ++ w 90 ++ [5, 0] ++ w 30 ++ [0, 0]

/-- A STANDARD door of zone 2 with draft weight 150 (2.3, 11.2): delay 0, Tb 20 s, recovery 30 s, curtain 60. -/
def doorThree : RowBytes :=
  [1, 2, 33, 255, 255, 1] ++ w 0 ++ w 150 ++ w 60 ++ [3, 0, 20, 16] ++ w 90 ++ [5, 0] ++ w 30 ++ [0, 0]

/-- An OUTPUT row. -/
def outRow (func target enc level window : Byte) (id period spacing reply timeout standby : Int) : RowBytes :=
  [1, func, target, enc, level, window] ++ w id ++ w period ++ w spacing ++ w reply ++ w timeout ++ w standby

def systemRow : RowBytes :=
  [1, 1, 5, 20, 52, 50, 51, 24, 25, 26] ++ w 0x301 ++ w 0x302 ++ w 0x303 ++ [10, 30, 5, 50, 120, 140, 110, 0]

/-- The tables of the worked examples, in a part in STANDBY right after reset. -/
def loaded : State :=
  (row .system 0 systemRow ∘ row .frame 0 [0x31, 1, 1, 0xA4, 2, 40] ∘ row .frame 1 [1, 1, 2, 1, 3, 0]
    ∘ row .frame 2 [3, 2, 4, 0x55, 1, 0] ∘ row .frame 3 [1, 2, 3, 0x80, 2, 0] ∘ row .frame 4 [0x11, 1, 1, 0x23, 1, 0]
    ∘ row .field 0 ([0, 0, 8, 1, 0, 10] ++ w 1280 ++ w (-400) ++ w 0)
    ∘ row .field 40 ([3, 0, 12, 2, 0, 50] ++ w 640 ++ w 0 ++ w 0) ∘ row .field 41 ([4, 4, 12, 1, 0, 51] ++ w 256 ++ w 0 ++ w 0)
    ∘ row .field 42 ([6, 0, 2, 1, 0, 52] ++ w 256 ++ w 0 ++ w 0)
    ∘ row .slot 10 measureRow ∘ row .slot 11 measureRow ∘ row .slot 12 measureRow ∘ row .slot 20 measureRow
    ∘ row .slot 25 measureRow ∘ row .slot 26 measureRow ∘ row .slot 24 stateRow ∘ row .slot 30 stateRow
    ∘ row .slot 50 ([1, 1] ++ w 0 ++ w 2000 ++ w 2000 ++ w 10 ++ w 0)
    ∘ row .slot 51 ([1, 1] ++ w 0 ++ w 2000 ++ w 2000 ++ w 10 ++ w 0) ∘ row .slot 52 stateRow
    ∘ row .zone 0 zoneCab ∘ row .zone 2 zoneTwo ∘ row .zone 8 ([1, 0] ++ w 300 ++ w 180 ++ w 120 ++ List.replicate 16 0)
    ∘ row .list 0 [10, 3, 0, 0, 0, 0] ∘ row .list 1 [11, 1, 0, 0, 0, 0] ∘ row .list 2 [12, 2, 0, 0, 0, 0]
    ∘ row .door 1 doorOne ∘ row .door 3 doorThree
    ∘ row .band 0 ([1, 0, 20, 10] ++ w 0 ++ w 100 ++ List.replicate 4 0)
    ∘ row .band 1 ([1, 21, 60, 0] ++ w 200 ++ w 200 ++ List.replicate 4 0)
    ∘ row .band 2 ([1, 61, 120, 246] ++ w 300 ++ w 250 ++ List.replicate 4 0)
    ∘ row .band 3 ([1, 121, 250, 236] ++ w 450 ++ w 350 ++ List.replicate 4 0)
    ∘ row .step 0 ([1, 2] ++ w 30 ++ w 60) ∘ row .step 1 ([1, 3] ++ w 0 ++ w 30) ∘ row .step 3 ([3, 2] ++ w 20 ++ w 120)
    ∘ row .step 4 ([3, 1] ++ w 60 ++ w 0)
    ∘ row .stage 0 (w 0 ++ w 200 ++ w 0 ++ w 0 ++ [0, 0] ++ w 0)
    ∘ row .stage 1 (w 60 ++ w 500 ++ w 350 ++ w 200 ++ [1, 0] ++ w 400)
    ∘ row .stage 2 (w 120 ++ w 800 ++ w 500 ++ w 300 ++ [1, 0] ++ w 600)
    ∘ row .stage 3 (w 150 ++ w 1000 ++ w 800 ++ w 400 ++ [1, 0] ++ w 800)
    ∘ row .claim 0 [4, 0, 0, 0, 0, 0] ∘ row .claim 2 [4, 0, 0, 0, 0, 0] ∘ row .claim 16 [6, 0, 90, 0, 0, 0]
    ∘ row .claim 19 [1, 0, 100, 0, 0, 0]
    ∘ row .budget 0 (w 800 ++ w 120 ++ w 0) ∘ row .budget 1 (w 80 ++ w 0 ++ w 0) ∘ row .budget 2 (w 400 ++ w 0 ++ w 0)
    ∘ row .budget 3 (w 300 ++ w 0 ++ w 0)
    ∘ row .output 0 (outRow 1 0 1 4 10 0x180 1000 100 0x280 200 0)
    ∘ row .output 4 (outRow 1 2 2 4 10 0x184 5000 200 0x284 200 0)
    ∘ row .output 6 (outRow 2 2 13 8 10 0x186 1000 100 0x286 200 0)
    ∘ row .output 12 (outRow 7 0 1 5 10 0x18C 1000 500 0x28C 200 0)) State.reset

/-- The same part in RUNNING, its doors working under their rows. -/
def bench : State :=
  { loaded with
    part := .running
    doors := Vector.ofFn fun d : Fin 8 => { Door.reset with working := some (loaded.doorRow d).burst }
    zones := Vector.ofFn fun _ : Fin 8 => { Zone.reset with mode := .vent } }

/-- Whether a command answers a next state with a property. -/
def after (c : Instr) (s : State) (p : State → Bool) : Bool :=
  match exec c s with
  | .next t => p t
  | _ => false

/-- The bench rows read as the spec's layouts place them (R205). -/
theorem test_bench_rows : firstBadRow 0 .zone (loaded.active.get .zone) = none
    ∧ firstBadRow 0 .door (loaded.active.get .door) = none ∧ firstBadRow 0 .output (loaded.active.get .output) = none
    ∧ firstBadRow 0 .system (loaded.active.get .system) = none ∧ firstBadRow 0 .frame (loaded.active.get .frame) = none
    ∧ firstBadRow 0 .slot (loaded.active.get .slot) = none ∧ firstBadRow 0 .field (loaded.active.get .field) = none
    ∧ firstBadRow 0 .step (loaded.active.get .step) = none ∧ firstBadRow 0 .stage (loaded.active.get .stage) = none
    ∧ firstBadRow 0 .band (loaded.active.get .band) = none := by decide

/-! ### What the checks refuse -/

theorem test_wellformed_refuses_long_frames : Instr.wellFormed (.frameArrival .vehicle ⟨1, List.replicate 9 0⟩) = false
    ∧ Instr.wellFormed (.reply 1 (List.replicate 9 0)) = false
    ∧ Instr.wellFormed (.frameArrival .vehicle ⟨1, List.replicate 8 0⟩) = true := by decide

theorem test_wellformed_refuses_large_powers : Instr.wellFormed (.claimPosting 0 2001) = false
    ∧ Instr.wellFormed (.coolingGrantDelivery 0 2001) = false ∧ Instr.wellFormed (.screenGrantDelivery 2001) = false
    ∧ Instr.wellFormed (.sourceDelivery (.zoneGrant 0) 2001) = false
    ∧ Instr.wellFormed (.sourceDelivery (.curtainGrant 0) 2001) = false
    ∧ Instr.wellFormed (.sourceDelivery .screenGrant 2001) = false ∧ Instr.wellFormed (.claimPosting 0 2000) = true := by
  decide

theorem test_wellformed_refuses_large_per_mille : Instr.wellFormed (.qcPosting 0 0 1001) = false
    ∧ Instr.wellFormed (.stageNotice 0 true 1001) = false ∧ Instr.wellFormed (.sourceDelivery (.demand 0) 1001) = false
    ∧ Instr.wellFormed (.sourceDelivery (.blower 0) 1001) = false
    ∧ Instr.wellFormed (.sourceDelivery (.freshAir 0) 1001) = false
    ∧ Instr.wellFormed (.sourceDelivery .flap 1001) = false := by decide

theorem test_wellformed_refuses_wide_values : Instr.wellFormed (.lineStateNotification ⟨0, 32768, .fresh⟩) = false
    ∧ Instr.wellFormed (.permittedPowerNotification ⟨0, 32768, .fresh⟩) = false
    ∧ Instr.wellFormed (.surplusNotification ⟨0, -32769, .fresh⟩) = false
    ∧ Instr.wellFormed (.doorStateNotification 0 ⟨0, 32768, .fresh⟩) = false
    ∧ Instr.wellFormed (.countSlotNotification 0 .boarded ⟨0, 32768, .fresh⟩) = false
    ∧ Instr.wellFormed (.terminusMarkNotification ⟨0, -32769, .fresh⟩) = false
    ∧ Instr.wellFormed (.boarding 0 256) = false ∧ Instr.wellFormed (.alighting 0 256) = false := by decide

/-- A frame of nine data bytes is no frame of the bus, and is refused by name (notes/assumptions/24.md). -/
theorem test_nine_bytes_are_refused :
    exec (.frameArrival .vehicle ⟨1, List.replicate 9 0⟩) bench = .refused .notACanFrame := by rfl

/-- No row of the table has bits, so no word spells a command (notes/assumptions/2.md). -/
theorem test_no_word_spells_a_command : decodeTableWord 8 1 = none ∧ State.reset.withFetchWord 8 1 = State.reset := by
  exact ⟨rfl, rfl⟩

theorem test_reset_queue_is_empty : State.reset.pending = [] ∧ State.reset.inFlight = [] := by decide

/-! ### Ports and frames -/

/-- The first loss of a frame that takes the count to 256 (R2). -/
theorem test_transmitError_bus_off :
    after (.transmitError .vehicle)
      { bench with vehicle := { bench.vehicle with errors := 248, onBus := some ⟨.response, ⟨0, []⟩, 0⟩ } }
      (fun t => t.vehicle.link = .busOff && t.vehicle.busOff = some 500) = true := by decide

theorem test_transmitError_counts_eight :
    after (.transmitError .climate)
      { bench with climate := { bench.climate with errors := 247, onBus := some ⟨.forward, ⟨0, []⟩, 0⟩ } }
      (fun t => t.climate.link = .on && t.climate.errors = 255) = true := by decide

/-- A frame of the lowest level goes first (R7): channel 4 at level 4 before channel 12 at level 5. -/
theorem test_transmitStart_level :
    after (.transmitStart .climate)
      { bench with
        channels := (bench.channels.set 12 { Channel.reset with frame := .offered }).set 4 { Channel.reset with frame := .offered } }
      (fun t => (t.climate.onBus.map fun x => x.src) = some (.channel 4)) = true := by decide

theorem test_transmitComplete_pops_the_response :
    after (.transmitComplete .vehicle)
      { bench with
        responses := [⟨0x6E1, []⟩, ⟨0x6E1, [1]⟩]
        vehicle := { bench.vehicle with errors := 3, onBus := some ⟨.response, ⟨0x6E1, []⟩, 0⟩ } }
      (fun t => t.responses = [⟨0x6E1, [1]⟩] && t.vehicle.errors = 2) = true := by decide

theorem test_arbitrationLost_keeps_the_frame :
    after (.arbitrationLost .vehicle)
      { bench with responses := [⟨0x6E1, []⟩], vehicle := { bench.vehicle with onBus := some ⟨.response, ⟨0x6E1, []⟩, 0⟩ } }
      (fun t => t.responses = [⟨0x6E1, []⟩] && t.vehicle.onBus = none) = true := by decide

theorem test_busOffExpiry_returns_to_on :
    after (.busOffExpiry .climate)
      { bench with climate := { bench.climate with link := .busOff, errors := 250, busOff := some 0 } }
      (fun t => t.climate.link = .on && t.climate.errors = 0) = true := by decide

/-- The short traction frame (1.3): two fields are delivered and the third is short. -/
theorem test_frameArrival_traction :
    after (.frameArrival .vehicle ⟨0x2A4, [0, 0, 0x01, 0x40, 0x30, 0x02]⟩) bench
      (fun t => t.slots[50].value = 800 && t.slots[51].value = 35 && t.slots[52].status = .empty && t.flags.fieldShort) = true := by
  decide

/-- A raw count of 255 is delivered as 850 with CLAMPED set (1.3). -/
theorem test_frameArrival_clamps :
    after (.frameArrival .vehicle ⟨0x123, [255]⟩) bench
      (fun t => t.slots[10].value = 850 && t.slots[10].clamped && t.slots[10].fresh = some 2000) = true := by decide

/-- 3.1 s of the silent actuator (8.8): an OK reply makes the channel READY, and the allocator is told. -/
theorem test_reply_ok :
    after (.reply 0x280 [0]) { bench with channels := bench.channels.set 0 { Channel.reset with faulted := true, misses := 3 } }
      (fun t => !t.channels[0].faulted && t.channels[0].misses = 0 && t.inFlight = [.capacityEvent 0]) = true := by decide

/-! ### Slots -/

/-- 2.0 s and 12.0 s of the slot that falls silent (1.4). -/
theorem test_freshTimerExpiry_held :
    after (.freshTimerExpiry 12) { bench with slots := bench.slots.set 12 ⟨190, .fresh, false, some 0, none⟩ }
      (fun t => t.slots[12] = ⟨190, .held, false, none, some 10000⟩) = true := by decide

theorem test_holdTimerExpiry_substituted :
    after (.holdTimerExpiry 12) { bench with slots := bench.slots.set 12 ⟨190, .held, false, none, some 0⟩ }
      (fun t => t.slots[12] = ⟨150, .substituted, false, none, none⟩ && t.flags.slotSubstituted) = true := by decide

/-! ### Zones and cooling units -/

/-- Before the first worked pass (2.3). -/
def beforePass : State :=
  { bench with
    slots := ((((bench.slots.set 10 ⟨186, .fresh, false, some 9, none⟩).set 11 ⟨174, .fresh, false, some 9, none⟩).set 12
      ⟨190, .held, false, none, some 9⟩).set 20 ⟨-80, .fresh, false, some 9, none⟩)
    zones := bench.zones.set 2 { Zone.reset with mode := .vent, integral := 240, lastR := 540, qh := 120, pass := some 0 }
    doors := bench.doors.set 3 { bench.doors[3] with burst := .burst, timer := some 9 }
    loads := bench.loads.set 1 { Load.reset with current := some 2 }
    alloc := { bench.alloc with claims := bench.alloc.claims.set 2 ⟨120, 240, 120, 0⟩ }
    overrides := { Overrides.reset with table := [⟨.setpointOffset, .all, 10, .panel, none, 8⟩] } }

/-- The first worked pass: Tz 185, I 248, R 698, HEAT, Qh 168, blower 788, fresh 250. -/
theorem test_zonePass_worked :
    after (.zonePass 2) beforePass (fun t =>
      let x := t.zones[2]
      x.tz = some 185 && x.sz = 200 && x.integral = 248 && x.lastR = 698 && x.mode = .heat && x.qh = 168 && x.qc = 0
        && x.blower = 788 && x.freshAir = 250) = true := by decide

/-- The second worked pass, starved: the integral is held at 248, R 508, Qh 122, blower 655. -/
theorem test_zonePass_starved :
    after (.zonePass 2)
      { beforePass with
        slots := (beforePass.slots.set 10 ⟨188, .fresh, false, some 9, none⟩).set 11 ⟨176, .fresh, false, some 9, none⟩
        zones := beforePass.zones.set 2 { beforePass.zones[2] with mode := .heat, integral := 248, lastR := 698, qh := 168 }
        doors := bench.doors
        alloc := { bench.alloc with claims := bench.alloc.claims.set 2 ⟨168, 240, 137, 0⟩ } }
      (fun t => t.zones[2].integral = 248 && t.zones[2].lastR = 508 && t.zones[2].qh = 122 && t.zones[2].blower = 655)
      = true := by decide

/-- 0 s and 20 s of the cooling unit under a dewirement (2.4). -/
theorem test_qcPosting_raised_to_minimum :
    after (.qcPosting 0 0 180) bench (fun t => t.coolers[0].posted = 90 && t.inFlight = [.claimPosting 16 90]) = true := by
  decide

theorem test_stageNotice_dry_floor :
    after (.stageNotice 0 true 400)
      { bench with coolers := bench.coolers.set 0 { Cooler.reset with state := .run, posted := 90, grant := 90, demand := 300 } }
      (fun t => t.coolers[0].posted = 120 && t.coolers[0].demand = 300) = true := by decide

/-- 0 s and 45 s of the same unit: a grant of 90 starts it at a demand of 300, a grant of 0 locks it out. -/
theorem test_coolingGrantDelivery_starts :
    after (.coolingGrantDelivery 0 90) { bench with coolers := bench.coolers.set 0 { Cooler.reset with posted := 90 } }
      (fun t => t.coolers[0].state = .run && t.coolers[0].demand = 300 && t.coolers[0].minOn = some 120000) = true := by
  decide

theorem test_coolingGrantDelivery_locks_out :
    after (.coolingGrantDelivery 0 0)
      { bench with
        coolers := bench.coolers.set 0
          ({ Cooler.reset with state := .run, posted := 120, grant := 120, demand := 400, minOn := some 75000 }) }
      (fun t => t.coolers[0].state = .lockout && t.coolers[0].posted = 0 && t.coolers[0].minOff = some 180000
        && t.coolers[0].minOn = none) = true := by decide

theorem test_minimumOffExpiry_posts :
    after (.minimumOffExpiry 0)
      { bench with
        coolers := bench.coolers.set 0
          ({ Cooler.reset with state := .lockout, minOff := some 0, dry := true, dryFloor := 400 }) }
      (fun t => t.coolers[0].state = .off && t.coolers[0].posted = 120) = true := by decide

theorem test_minimumOnExpiry_locks_out :
    after (.minimumOnExpiry 0) { bench with coolers := bench.coolers.set 0 { Cooler.reset with state := .run, minOn := some 0 } }
      (fun t => t.coolers[0].state = .lockout && t.coolers[0].minOff = some 180000) = true := by decide

/-! ### The power allocator -/

/-- The short budget (7.4): level 4 shares 440 among 50, 120, 168 and 200. -/
theorem test_share_short_budget : shareOut 440 [50, 120, 168, 200] = [41, 99, 137, 163] := by decide

/-- The surplus absorbed (7.4): a pool of 120 over the headrooms 70 and 190. -/
theorem test_share_absorbed : shareOut 120 [70, 190] = [33, 87] := by decide

/-- The minimum refused and carried (7.4). -/
theorem test_minimum_refused_and_carried :
    regularGrants 200 [⟨3, 0, 100, false⟩, ⟨3, 0, 80, false⟩, ⟨2, 90, 120, false⟩, ⟨2, 90, 150, false⟩] = [50, 39, 0, 111] := by decide

/-- The dewirement under maximum defrost (7.4): the screen at level 0 is refused, and the heater gets 54. -/
theorem test_dewirement :
    regularGrants 80 [⟨2, 0, 120, false⟩, ⟨2, 30, 60, false⟩, ⟨0, 100, 150, true⟩] = [54, 0, 0] := by decide

/-- R147: at effective level 0 the windscreen heater is served before another claimant of level 0. -/
theorem test_windscreen_served_first : regularGrants 100 [⟨0, 0, 90, false⟩, ⟨0, 0, 80, true⟩] = [20, 80] := by decide

/-- R151: what the windscreen heater is refused at level 0 is not shared again there and carries on to level 1. -/
theorem test_refused_not_shared_in_level :
    regularGrants 100 [⟨0, 0, 90, false⟩, ⟨0, 95, 80, true⟩, ⟨1, 0, 150, false⟩] = [20, 0, 80] := by decide

/-- The bench with the line wired at 800, zone 2 of capacity 240 and a regular grant. -/
def powered : State :=
  { bench with
    alloc := { bench.alloc with
      line := .wired, permitted := some 900, target := 800, beff := 800, claims := bench.alloc.claims.set 2 ⟨0, 240, 0, 0⟩ } }

theorem test_claimPosting_grants :
    after (.claimPosting 2 168) powered (fun t => t.alloc.claims[2] = ⟨168, 240, 168, 0⟩
      && t.inFlight = [.sourceDelivery (.zoneGrant 2) 168]) = true := by decide

theorem test_claimPosting_equal_is_no_trigger : after (.claimPosting 2 0) powered (fun t => t.inFlight = []) = true := by decide

/-- A change to DEWIRED drops Beff to 80 and lowers a grant (7.2, 7.4). -/
theorem test_lineStateNotification_falls :
    after (.lineStateNotification ⟨52, 1, .fresh⟩)
      { powered with alloc := { powered.alloc with claims := powered.alloc.claims.set 2 ⟨168, 240, 168, 0⟩ } }
      (fun t => t.alloc.beff = 80 && t.alloc.target = 80 && t.alloc.claims[2].regular = 80 && t.flags.budgetShed) = true := by
  decide

/-- The fresh expiry of the permitted slot: HELD keeps 900 (7.4, a silent traction controller). -/
theorem test_permittedPowerNotification_held_keeps :
    after (.permittedPowerNotification ⟨50, 900, .held⟩) powered (fun t => t.alloc.permitted = some 900) = true := by decide

/-- The surplus slot is FRESH with 150 under a cap of 120 (7.4). -/
theorem test_surplusNotification_pool :
    after (.surplusNotification ⟨51, 150, .fresh⟩) powered (fun t => t.alloc.pool = 120) = true := by decide

/-- Beff 60 toward 800 at 50 a second (7.2). -/
theorem test_rampExpiry_step :
    after .rampExpiry { powered with alloc := { powered.alloc with beff := 60, ramp := some 0 } }
      (fun t => t.alloc.beff = 110 && t.alloc.ramp = some 1000) = true := by decide

theorem test_maxCountNotice_level_zero :
    after (.maxCountNotice true) powered (fun t => t.alloc.maxCount = 1 && t.effectiveLevel 19 = 0) = true := by decide

/-- 2.2 s of the silent actuator (8.8): the faulted channel takes the capacity to 0. -/
theorem test_capacityEvent_faulted :
    after (.capacityEvent 0)
      { bench with
        alloc := { bench.alloc with claims := bench.alloc.claims.set 0 ⟨80, 100, 80, 0⟩ }
        channels := bench.channels.set 0 { Channel.reset with faulted := true, commanded := 800, output := 800 } }
      (fun t => t.alloc.claims[0].capacity = 0 && t.channels[0].commanded = 0) = true := by decide

theorem test_statusPublication_regrants :
    after (.statusPublication 2)
      { powered with
        alloc := { powered.alloc with pool := 120, claims := powered.alloc.claims.set 2 ⟨30, 100, 30, 0⟩ }
        zones := powered.zones.set 2 { powered.zones[2] with published := ⟨.heat, 190, false, 240⟩ } }
      (fun t => t.alloc.claims[2].absorption = 70) = true := by decide

/-! ### Doors (3.9) -/

/-- Door 1 of the winter stop with some of its record changed. -/
def door (f : Door → Door) : State := { bench with doors := bench.doors.set 1 (f bench.doors[1]) }

theorem test_doorStateNotification_debounces :
    after (.doorStateNotification 1 ⟨30, 1, .fresh⟩) bench
      (fun t => t.doors[1].candidate = some true && t.doors[1].debounce = some 300 && !t.doors[1].isOpen) = true := by decide

/-- 0.3 s: OPENED, trigger, DELAY. -/
theorem test_debounceExpiry_opened :
    after (.debounceExpiry 1) (door fun x => { x with candidate := some true, debounce := some 0 })
      (fun t => t.doors[1].isOpen && t.doors[1].burst = .delay && t.doors[1].timer = some 2000) = true := by decide

/-- 40.3 s: CLOSED during a burst sets the series-ending flag. -/
theorem test_debounceExpiry_closed :
    after (.debounceExpiry 1)
      (door fun x => { x with isOpen := true, candidate := some false, debounce := some 0, burst := .burst, timer := some 7000 })
      (fun t => !t.doors[1].isOpen && t.doors[1].burst = .burst && t.doors[1].ending) = true := by decide

/-- 2.3 s. -/
theorem test_delayExpiry_bursts :
    after (.delayExpiry 1) (door fun x => { x with isOpen := true, burst := .delay, timer := some 0 })
      (fun t => t.doors[1].burst = .burst && t.doors[1].series = 1 && t.doors[1].timer = some 20000
        && t.inFlight = [.claimPosting 9 120]) = true := by decide

/-- 22.3 s. -/
theorem test_burstExpiry_gap :
    after (.burstExpiry 1) (door fun x => { x with isOpen := true, burst := .burst, timer := some 0, series := 1 })
      (fun t => t.doors[1].burst = .gap && t.doors[1].timer = some 5000 && t.inFlight = [.claimPosting 9 0]) = true := by decide

/-- 27.3 s and 52.3 s. -/
theorem test_gapExpiry_goes_on :
    after (.gapExpiry 1) (door fun x => { x with isOpen := true, burst := .gap, timer := some 0, series := 1 })
      (fun t => t.doors[1].burst = .burst && t.doors[1].series = 2) = true := by decide

theorem test_gapExpiry_ends :
    after (.gapExpiry 1) (door fun x => { x with burst := .gap, timer := some 0, series := 2, ending := true })
      (fun t => t.doors[1].burst = .recovery && t.doors[1].timer = some 30000) = true := by decide

/-- 82.3 s: the latch is taken. -/
theorem test_recoveryExpiry_takes_the_latch :
    after (.recoveryExpiry 1)
      (door fun x => { x with isOpen := true, burst := .recovery, timer := some 0, series := 2, ending := true, latch := true })
      (fun t => t.doors[1].burst = .delay && t.doors[1].series = 0 && !t.doors[1].ending && !t.doors[1].latch) = true := by
  decide

theorem test_maskChange_sets_the_group_mask :
    after (.maskChange .all true false) bench (fun t => t.groupMask) = true := by decide

/-- The zone of door 1 lies in section B. -/
theorem test_countSlotNotification_hands_over :
    after (.countSlotNotification 1 .boarded ⟨31, 5, .fresh⟩) bench (fun t => t.inFlight = [.boarding 1 5]) = true := by decide

/-! ### Passenger load (4.8) -/

/-- Section B in band 1 with a count. -/
def crowd (n : Nat) : State := { bench with loads := bench.loads.set 1 { Load.reset with count := n, current := some 1 } }

/-- 0 s: 55 and 9 give 64, and band 2 is pending for 30 s. -/
theorem test_boarding_band_pends :
    after (.boarding 1 9) (crowd 55)
      (fun t => t.loads[1].count = 64 && t.loads[1].pendingBand = some (some 2) && t.loads[1].dwell = some 30000) = true := by
  decide

/-- 90 s: 75 and 80 are clamped to the capacity. -/
theorem test_boarding_clamps :
    after (.boarding 1 80) (crowd 75)
      (fun t => t.loads[1].count = 140 && t.loads[1].isOver && t.flags.countSaturated) = true := by decide

/-- 12 s: 64 less 6 cancels the pending band. -/
theorem test_alighting_cancels :
    after (.alighting 1 6)
      { bench with loads := bench.loads.set 1 ⟨64, false, false, false, some 1, some (some 2), some 18000⟩ }
      (fun t => t.loads[1] = ⟨58, false, false, false, some 1, none, none⟩) = true := by decide

theorem test_dwellTimerExpiry :
    after (.dwellTimerExpiry 1) { bench with loads := bench.loads.set 1 ⟨75, false, false, false, some 1, some (some 2), some 0⟩ }
      (fun t => t.loads[1].current = some 2) = true := by decide

/-- The terminus reset: an armed section is reset at the rise, a disarmed one is not. -/
theorem test_terminusMarkNotification_resets :
    after (.terminusMarkNotification ⟨24, 1, .fresh⟩)
      { bench with loads := (bench.loads.set 1 ⟨12, false, true, true, some 0, none, none⟩).set 2 { Load.reset with count := 3 } }
      (fun t => t.loads[1] = ⟨0, false, false, false, some 0, none, none⟩ && t.loads[2].count = 3 && t.markHigh) = true := by
  decide

theorem test_loadSet_out_of_range :
    after (.loadSet 1 141) bench (fun t => t.responses = [⟨0x6E1, [57, 17, 0, 0, 0, 0, 0, 0]⟩]) = true := by decide

/-! ### The windscreen (5.10) -/

/-- Glass and dewpoint as read, with the screen unit given. -/
def glassOf (g d : Int) (x : Screen) : State :=
  { bench with
    slots := (bench.slots.set 25 ⟨g, .fresh, false, some 9, none⟩).set 26 ⟨d, .fresh, false, some 9, none⟩
    screen := x }

/-- 15 s: 27 is not above 30, so DEMIST is entered; its claim of 60 is above the grant of 0, so the flap is that of MAX. -/
theorem test_screenPass_enters_demist :
    after .screenPass (glassOf 52 25 { Screen.reset with stage := .watch, pointer := some 0, stageMs := 15000, pass := some 0 })
      (fun t => t.screen.stage = .demist && t.screen.pointer = some 1 && t.screen.posted = 60 && t.screen.flap = 1000
        && t.screen.entryDwell = 60) = true := by decide

/-- 75 s: the pointer passes over the unused row 2. -/
theorem test_screenPass_skips_unused_rows :
    after .screenPass
      (glassOf 29 35 { Screen.reset with
        stage := .demist, pointer := some 1, stageMs := 60000, entryDwell := 60, posted := 60, grant := 60, pass := some 0 })
      (fun t => t.screen.stage = .clear && t.screen.pointer = some 3) = true := by decide

theorem test_screenGrantDelivery_flap :
    after (.screenGrantDelivery 60) { bench with screen := { Screen.reset with stage := .demist, posted := 60, flap := 1000 } }
      (fun t => t.screen.flap = 500 && t.inFlight = [.sourceDelivery .flap 500]) = true := by decide

theorem test_screenMaxEntryNotice :
    after .screenMaxEntryNotice
      { bench with screen := { Screen.reset with stage := .clear, pointer := some 3, posted := 120, grant := 120, flap := 800 } }
      (fun t => t.screen.stage = .max && t.screen.posted = 150 && t.screen.flap = 1000) = true := by decide

theorem test_screenMaxDepartureNotice :
    after .screenMaxDepartureNotice
      { bench with screen := { Screen.reset with
          stage := .max, pointer := some 1, posted := 150, grant := 150, flap := 1000, maxCount := 1 } }
      (fun t => t.screen.stage = .clear && t.screen.pointer = some 3 && t.screen.flap = 800) = true := by decide

/-! ### Overrides (6.9) -/

/-- The session at 8 s: an offset of -40 for 300 min is clamped twice and answered CLAMPED once. -/
theorem test_set_clamped :
    after (.set 7 1 2 (BitVec.ofInt 16 (-40)) 255) { bench with overrides := { Overrides.reset with seq := 9, present := true } }
      (fun t => t.overrides.table = [⟨.setpointOffset, .one 2, -30, .panel, some 14400000, 10⟩] && t.overrides.seq = 10
        && (t.acks.map fun f => f.data.take 2) = [[105, 7]]) = true := by decide

/-- 15 s: SCREEN_MAX for 0 min is timed 10 min, and its entry is notified. -/
theorem test_set_screen_max :
    after (.set 7 4 255 0 0) bench
      (fun t => t.overrides.table = [⟨.screenMax, .all, 0, .panel, some 600000, 1⟩]
        && t.inFlight = [.screenMaxEntryNotice, .maxCountNotice true]) = true := by decide

/-- 20 s: RELEASE of an absent key is answered ABSENT. -/
theorem test_release_absent :
    after (.release 9 2 3) { bench with overrides := { Overrides.reset with seq := 13 } }
      (fun t => t.overrides.seq = 13 && (t.acks.map fun f => f.data.take 2) = [[122, 9]]) = true := by decide

theorem test_heartbeat_makes_present :
    after (.heartbeat 3) bench (fun t => t.overrides.present && t.overrides.panelTimer = some 10000) = true := by decide

theorem test_tripEnd_arms :
    after (.tripEnd 3) bench (fun t => t.loads[0].armed && t.loads[1].armed && t.loads[2].armed) = true := by decide

theorem test_recordExpiry_removes :
    after (.recordExpiry .screenMax .all)
      { bench with overrides := { Overrides.reset with table := [⟨.screenMax, .all, 0, .panel, some 0, 12⟩], seq := 14 } }
      (fun t => t.overrides.table = [] && t.overrides.seq = 15
        && t.inFlight = [.screenMaxDepartureNotice, .maxCountNotice false]) = true := by decide

/-- 30 s: the panel is lost, and its records but SCREEN_MAX leave with one advance of the sequence. -/
theorem test_panelTimerExpiry_lost :
    after .panelTimerExpiry
      { bench with overrides :=
          ⟨[⟨.setpointOffset, .all, 15, .panel, none, 11⟩, ⟨.screenMax, .all, 0, .panel, some 585000, 12⟩,
            ⟨.curtainQuiet, .one 4, 0, .panel, none, 13⟩], 13, true, some 0, none⟩ }
      (fun t => t.overrides.table = [⟨.screenMax, .all, 0, .panel, some 585000, 12⟩] && t.overrides.seq = 14
        && t.flags.panelLost && t.inFlight = [.maskChange (.one 4) false false]) = true := by decide

theorem test_statusTimerExpiry_offers :
    after .statusTimerExpiry { bench with overrides := { Overrides.reset with statusTimer := some 0, seq := 5 } }
      (fun t => (t.panelStatus.map fun f => (f.id, f.data.length)) = some (0x303, 8) && t.overrides.statusTimer = some 1000)
      = true := by decide

theorem test_overrideSet_service :
    after (.overrideSet 3 255 0 10) bench
      (fun t => t.overrides.table = [⟨.recirculate, .all, 0, .service, some 600000, 1⟩] && !t.overrides.present) = true := by
  decide

theorem test_overrideRelease_keeps_order :
    after (.overrideRelease 3 255)
      { bench with overrides := { Overrides.reset with
          table := [⟨.recirculate, .all, 0, .panel, none, 1⟩, ⟨.recirculate, .one 0, 0, .panel, none, 2⟩], seq := 2 } }
      (fun t => t.overrides.table = [⟨.recirculate, .one 0, 0, .panel, none, 2⟩] && t.overrides.seq = 3) = true := by decide

/-! ### Output channels (8.8) -/

/-- The switched heater of zone 2 with a window running. -/
def heater (commanded onTime elapsed output : Nat) : State :=
  { bench with
    alloc := { bench.alloc with claims := bench.alloc.claims.set 2 ⟨0, 240, 137, 0⟩ }
    channels := bench.channels.set 4
      { Channel.reset with
        commanded := commanded, output := output, lastCarried := some 1, window := some 7000, elapsed := elapsed
        onTime := onTime } }

/-- 2.0 s: a grant of 96 moves the ON end to 4000 ms. -/
theorem test_sourceDelivery_lowers_on_time :
    after (.sourceDelivery (.zoneGrant 2) 96) (heater 570 5700 2000 1)
      (fun t => t.channels[4].commanded = 400 && t.channels[4].onTime = 4000 && t.channels[4].output = 1) = true := by decide

/-- 12.5 s: a grant of 60 turns the heater OFF at once, with an exempt frame. -/
theorem test_sourceDelivery_off_at_once :
    after (.sourceDelivery (.zoneGrant 2) 60) (heater 700 7000 2500 1)
      (fun t => t.channels[4].output = 0 && t.channels[4].frame = .offered) = true := by decide

theorem test_windowExpiry_starts :
    after (.windowExpiry 4) (heater 700 4000 10000 0)
      (fun t => t.channels[4].onTime = 7000 && t.channels[4].output = 1 && t.channels[4].elapsed = 0
        && t.channels[4].window = some 10000) = true := by decide

/-- 4.0 s: the ON end turns the heater OFF with an exempt frame. -/
theorem test_onEnd_off :
    after (.onEnd 4) (heater 700 4000 4000 1) (fun t => t.channels[4].output = 0 && t.channels[4].frame = .offered) = true := by
  decide

/-- 0.501 s of spacing, merging and a lowering. -/
theorem test_spacingExpiry_offers :
    after (.spacingExpiry 12)
      { bench with
        channels := bench.channels.set 12
          ({ Channel.reset with commanded := 450, output := 450, lastCarried := some 300, frame := .waiting, spacing := some 0 }) }
      (fun t => t.channels[12].frame = .offered && t.channels[12].spacing = none) = true := by decide

/-- 1.000 s: not below 200, so not exempt. -/
theorem test_periodicExpiry_waits :
    after (.periodicExpiry 12)
      { bench with
        channels := bench.channels.set 12
          ({ Channel.reset with
             commanded := 200, output := 200, lastCarried := some 200, spacing := some 101, periodic := some 0 }) }
      (fun t => t.channels[12].frame = .waiting && t.channels[12].periodic = some 1000) = true := by decide

/-- 2.2 s of the silent actuator: the third miss makes the channel FAULTED. -/
theorem test_replyWaitExpiry_third_miss :
    after (.replyWaitExpiry 0)
      { bench with channels := bench.channels.set 0 { Channel.reset with replyWait := some 0, misses := 2 } }
      (fun t => t.channels[0].faulted && t.flags.channelFaulted && t.inFlight = [.capacityEvent 0]) = true := by decide

/-- 0.001 s: the frame that completes carries 300 and starts the spacing. -/
theorem test_transmitComplete_channel :
    after (.transmitComplete .climate)
      { bench with
        climate := { Port.reset with onBus := some ⟨.channel 12, ⟨0x18C, w 300⟩, 300⟩ }
        channels := bench.channels.set 12 { Channel.reset with output := 300, lastCarried := some 250, frame := .offered } }
      (fun t => t.channels[12].lastCarried = some 300 && t.channels[12].frame = .none && t.channels[12].spacing = some 500
        && t.channels[12].replyWait = some 200) = true := by decide

/-! ### Loading (9.4, 11.1) -/

theorem test_rowOpen_assembles :
    after (.rowOpen 6 5) bench (fun t => t.engine = .assembling ⟨.door, 5, [], 5000⟩) = true := by decide

theorem test_rowData_advances :
    after (.rowData 1 2 3 4 5 6) { bench with engine := .assembling ⟨.door, 5, [], 5000⟩ }
      (fun t => t.engine = .assembling ⟨.door, 5, [1, 2, 3, 4, 5, 6], 5000⟩) = true := by decide

/-- 20 ms of the lost fragment: 18 of 24 bytes halt the engine with LENGTH. -/
theorem test_rowClose_length :
    after .rowClose { bench with engine := .assembling ⟨.door, 5, List.replicate 18 0, 4000⟩ }
      (fun t => t.engine = .halted .length && t.flags.loadHalted) = true := by decide

/-- 64 ms: the row is written to the shadow bank and the DOOR mark is set. -/
theorem test_rowClose_writes :
    after .rowClose { bench with engine := .assembling ⟨.door, 5, doorOne, 4000⟩ }
      (fun t => t.engine = .idle && t.shadow.row .door 5 = doorOne && t.marks[5]) = true := by decide

/-- A used SIGNAL row whose first field index is 128 fails the field check (R9, R193). -/
theorem test_rowClose_first_field_index :
    after .rowClose { bench with engine := .assembling ⟨.frame, 7, [0x11, 1, 1, 0x23, 1, 128], 4000⟩ }
      (fun t => t.engine = .halted .range && t.flags.loadHalted) = true := by decide

theorem test_rowClear_claim :
    after (.rowClear 10 0) { bench with shadow := bench.active } (fun t => t.shadow.row .claim 0 = [15, 0, 0, 0, 0, 0]) = true := by
  decide

/-- The morning's refused commit: Smin 220 above Smax 200 in row 3 (11.1). Byte 4, the fragment pointer, is free. -/
theorem test_commit_invalid :
    after (.commit 4)
      { bench with shadow := bench.shadow.put .zone ((bench.shadow.get .zone).set 3
          ([1, 1] ++ w 200 ++ w 220 ++ w 200 ++ zoneTwo.drop 8)) }
      (fun t => t.active = bench.active && t.responses.map (fun f => (f.id, f.data.eraseIdx 4)) = [(0x6E1, [39, 73, 0, 0, 3, 0, 0])]) = true := by decide

/-- 70 ms: an IDLE door takes its new burst fields at once. -/
theorem test_commit_door :
    after (.commit 6) { loaded with shadow := loaded.active.put .door ((loaded.active.get .door).set 5 doorOne) }
      (fun t => t.active.row .door 5 = doorOne && t.doors[5].working = some (t.doorRow 5).burst && t.doors[5].pv = 3) = true := by
  decide

theorem test_abandon_copies :
    after (.abandon 6) { bench with marks := bench.marks.set 5 true }
      (fun t => t.shadow.get .door = bench.active.get .door && !t.marks[5]) = true := by decide

theorem test_loadResume_clears_the_halt :
    after .loadResume { bench with engine := .halted .length } (fun t => t.engine = .idle) = true := by decide

theorem test_assemblyTimerExpiry_halts :
    after .assemblyTimerExpiry { bench with engine := .assembling ⟨.door, 5, [], 0⟩ }
      (fun t => t.engine = .halted .timeout && t.responses = []) = true := by decide

/-! ### Reads, and the requests to the part and its blocks -/

theorem test_identify_part_number :
    after .identify bench (fun t => (t.responses.map fun f => f.data.take 4) = [[33, 1, 0xE4, 0x02]]) = true := by decide

theorem test_status_clears_flags :
    after .status { bench with flags := { EventFlags.clear with budgetShed := true } }
      (fun t => t.flags = EventFlags.clear
        && (t.responses.map fun f => f.data.getD 2 9) = [1, 64, 0, 0, 0]) = true := by decide

theorem test_readRow_frames :
    after (.readRow 6 1 0) bench (fun t => (t.responses.flatMap fun f => f.data.drop 2) = doorOne) = true := by decide

theorem test_readSlot_held :
    after (.readSlot 12) { bench with slots := bench.slots.set 12 ⟨190, .held, false, none, some 9⟩ }
      (fun t => t.responses = [⟨0x6E1, [42, 1, 190, 0, 2, 0, 1, 0]⟩]) = true := by decide

theorem test_readZone_frames :
    after (.readZone 2) { bench with zones := bench.zones.set 2 { Zone.reset with mode := .heat, tz := some 185, sz := 200 } }
      (fun t => (t.responses.map fun f => f.data.take 8) = [[43, 3, 2, 0, 185, 0, 200, 0], [75, 3, 0, 0, 0, 0, 0, 0],
        [107, 3, 0, 0, 0, 0, 0, 0]]) = true := by decide

theorem test_readDoor_frames :
    after (.readDoor 1) (door fun x => { x with isOpen := true, burst := .burst, timer := some 19999, series := 1 })
      (fun t => t.responses.map (fun f => f.data) = [[44, 2, 1, 0, 2, 0, 19, 0], [76, 2, 1, 0, 0, 0, 0, 0]]) = true := by decide

theorem test_readSection_frames :
    after (.readSection 1) (crowd 55)
      (fun t => ((t.responses.map fun f => f.data.take 6).head? = some [45, 3, 55, 140, 0, 1])) = true := by decide

theorem test_readClaim_frames :
    after (.readClaim 16) { powered with alloc := { powered.alloc with claims := powered.alloc.claims.set 16 ⟨90, 300, 90, 0⟩ } }
      (fun t => (t.responses.map fun f => f.data).head? = some [46, 3, 90, 0x60, 44, 0x61, 90, 0]) = true := by decide

theorem test_readChannel_row_first :
    after (.readChannel 0) bench
      (fun t => ((t.responses.flatMap fun f => f.data.drop 2).take 18) = bench.active.row .output 0) = true := by decide

/-- READ_CHANNEL sends the spare bits of the row's byte 0 as 0 (R203), and READ_ROW as written (R202). -/
theorem test_readChannel_spare_bits :
    let spare := row .output 0 ((bench.active.row .output 0).set 0 0xFF) bench
    after (.readChannel 0) spare (fun t => (t.responses.flatMap fun f => f.data.drop 2).head? = some 1)
      && after (.readRow 12 0 0) spare (fun t => (t.responses.flatMap fun f => f.data.drop 2).head? = some 0xFF) = true := by
  decide

theorem test_start_runs :
    after .start { bench with part := .standby } (fun t => t.part = .running && t.zones[2].mode = .vent && t.screen.stage = .watch
      && t.screen.pointer = some 0 && t.doors[1].pv = 3 && t.responses = [⟨0x6E1, [48, 1, 0, 0, 0, 0, 0, 0]⟩]) = true := by decide

/-- R51: every cooling unit is in OFF at START, and posts 0 with no Qc of its zones since START. -/
theorem test_start_finds_the_units_off :
    after .start { bench with
        part := .standby
        coolers := bench.coolers.set 0 { Cooler.reset with
          state := .run, posted := 90, demand := 300, minOn := some 5, qcs := Vector.replicate 8 500 } }
      (fun t => t.coolers[0].state = .off && t.coolers[0].posted = 0 && t.coolers[0].demand = 0
        && t.coolers[0].minOn = none) = true := by decide

theorem test_start_incomplete :
    after .start State.reset (fun t => t.part = .standby && t.responses = [⟨0x6E1, [48, 33, 0, 0, 0, 0, 0, 0]⟩]) = true := by
  decide

theorem test_stop_rests :
    after .stop (door fun x => { x with burst := .burst, timer := some 5 })
      (fun t => t.part = .standby && t.doors[1].burst = .idle && t.zones[2].mode = .off) = true := by decide

/-- STOP clears the override masks itself, so a read that is queued behind it finds them clear (R80). -/
theorem test_stop_clears_the_masks :
    after .stop { door (fun x => { x with overrideMask := true }) with groupMask := true }
      (fun t => !t.doors[1].overrideMask && !t.groupMask && t.part = .standby) = true := by decide

theorem test_restart_keeps_the_bank :
    after .restart bench (fun t => t.part = .standby && t.active = bench.active && t.doors[1].pv = 3) = true := by decide

theorem test_powerOnReset_empties_the_bank :
    after (.powerOnReset 3 .kbit500) bench (fun t => t.node = 3 && t.active = Bank.reset && t.alloc.target = 0) = true := by decide

theorem test_clearPending_named_doors :
    after (.clearPending 2) (door fun x => { x with latch := true }) (fun t => !t.doors[1].latch) = true := by decide

theorem test_maskDoors_named_doors :
    after (.maskDoors 0x24) bench (fun t => t.doors[2].serviceMask && t.doors[5].serviceMask && !t.doors[1].serviceMask) = true := by
  decide

/-- A cleared service mask lets the latched trigger be taken (R63). -/
theorem test_unmaskDoors_takes_the_latch :
    after (.unmaskDoors 2) (door fun x => { x with serviceMask := true, latch := true })
      (fun t => t.doors[1].burst = .delay && !t.doors[1].latch) = true := by decide

theorem test_armTerminus_named_sections :
    after (.armTerminus 5) bench (fun t => t.loads[0].armed && !t.loads[1].armed && t.loads[2].armed) = true := by decide

theorem test_disarmTerminus_named_sections :
    after (.disarmTerminus 4) { bench with loads := Vector.replicate 3 { Load.reset with armed := true } }
      (fun t => t.loads[0].armed && !t.loads[2].armed) = true := by decide

theorem test_loadSet_applies_the_band :
    after (.loadSet 1 64) bench (fun t => t.loads[1].count = 64 && t.loads[1].current = some 2) = true := by decide

/-! ### Witnesses: states and operands that meet the hypotheses of each statement, clause by clause -/

/-- A frame hits row i of the frame map. -/
def hits (s : State) (p : PortName) (id : Nat) (i : Nat) : Bool :=
  (s.frameRow i).used && portOfCode (s.frameRow i).portCode == some p && (s.frameRow i).id == id

/-- Row i is the first that a frame hits. -/
def firstHit (s : State) (p : PortName) (id : Nat) (i : Nat) : Bool :=
  hits s p id i && (List.range i).all fun j => !hits s p id j

def onBus (p : PortName) (src : TxSource) (errors : Nat) : State :=
  bench.setPort p { Port.reset with errors := errors, onBus := some ⟨src, ⟨0, []⟩, 0⟩ }

/-- The bench with some frames in the response queue. -/
def queued (n : Nat) : State := { bench with responses := List.replicate n ⟨0x6E1, []⟩ }

theorem witness_StepRunsTheFrontCommand : ({ bench with pending := [.identify, .start] } : State).pending
    = .identify :: [.start] := by rfl

theorem witness_EmptyQueueRunsThePartItself : bench.pending = [] ∧ bench.inFlight = [] ∧ bench.dueNow = []
    ∧ ({ bench with inFlight := [.statusPublication 0] } : State).inFlight = .statusPublication 0 :: []
    ∧ ({ bench with zones := bench.zones.set 2 { Zone.reset with mode := .vent, pass := some 0 } } : State).dueNow
      = .zonePass 2 :: [] := by decide

theorem witness_WellFormedCommandsComplete : Instr.wellFormed (.frameArrival .vehicle ⟨1, List.replicate 8 0⟩) = true
    ∧ Instr.wellFormed (.reply 1 (List.replicate 8 0)) = true ∧ Instr.wellFormed (.claimPosting 0 2000) = true
    ∧ Instr.wellFormed (.lineStateNotification ⟨0, -32768, .fresh⟩) = true
    ∧ Instr.wellFormed (.surplusNotification ⟨0, 32767, .fresh⟩) = true ∧ Instr.wellFormed (.qcPosting 0 0 1000) = true
    ∧ Instr.wellFormed (.stageNotice 0 true 1000) = true ∧ Instr.wellFormed (.boarding 0 255) = true
    ∧ Instr.wellFormed (.coolingGrantDelivery 0 2000) = true ∧ Instr.wellFormed (.sourceDelivery .flap 1000) = true
    ∧ Instr.wellFormed .identify = true := by decide

theorem witness_PowerOnResetOfTheServiceEngine : 47 < TableId.rowCount .frame ∧ 19 < TableId.rowCount .claim
    ∧ 0 < TableId.rowCount .system := by decide

theorem witness_RestartKeepsTheTables : (bench.outputRow 4).used = true
    ∧ ((row .output 0 (outRow 1 0 1 14 10 0x180 1000 100 0x280 200 0) bench).outputRow 0).used = true
    ∧ ((row .output 0 (outRow 1 0 1 14 10 0x180 1000 100 0x280 200 0) bench).outputRow 0).level ≤ 14 := by decide

theorem witness_TransmitErrorsLeadToBusOff :
    (∃ x, ((onBus .vehicle .response 247).port .vehicle).onBus = some x ∧ x.src ≠ .orphan)
    ∧ ((onBus .vehicle .response 247).port .vehicle).errors + 8 ≤ 255
    ∧ (∃ x, ((onBus .climate (.channel 4) 248).port .climate).onBus = some x ∧ x.src ≠ .orphan)
    ∧ 255 < ((onBus .climate (.channel 4) 248).port .climate).errors + 8
    ∧ 255 < ((onBus .vehicle .ack 255).port .vehicle).errors + 8
    ∧ ({ bench with climate := { Port.reset with link := .busOff, busOff := some 1 } }.port .climate).busOff = some 1 :=
  ⟨⟨_, rfl, by decide⟩, by decide, ⟨_, rfl, by decide⟩, by decide, by decide, by decide⟩

theorem witness_ArbitersTakeByPrecedence : bench.vehicle.link = .on ∧ bench.vehicle.onBus = none
    ∧ (queued 1).responses = ⟨0x6E1, []⟩ :: [] ∧ bench.responses = [] ∧ bench.acks = [] ∧ bench.panelStatus = none
    ∧ bench.vehicle.forwards = [] ∧ ({ bench with acks := [⟨0x302, []⟩] } : State).acks = ⟨0x302, []⟩ :: []
    ∧ ({ bench with panelStatus := some ⟨0x303, []⟩ } : State).panelStatus = some ⟨0x303, []⟩
    ∧ ({ bench with vehicle := { Port.reset with forwards := [⟨0x55, []⟩] } } : State).vehicle.forwards = ⟨0x55, []⟩ :: [] := by
  decide

theorem witness_ArbitersTakeByPrecedence_climate :
    let s : State := { bench with
      climate := { Port.reset with forwards := [⟨0x55, []⟩] }
      channels := bench.channels.set 4 { Channel.reset with frame := .offered } }
    s.climate.link = .on ∧ s.climate.onBus = none ∧ s.channels[4].frame = .offered ∧ s.climate.forwards ≠ [] := by decide

theorem witness_CompletionLeavesItsSource :
    (∀ src : TxSource, (((onBus .vehicle src 0).port .vehicle).onBus.map fun x => x.src) = some src)
    ∧ (onBus .climate (.channel 4) 0).climate.link = .on
    ∧ (onBus .climate (.channel 4) 0).climate.onBus = some ⟨.channel 4, ⟨0, []⟩, 0⟩
    ∧ (onBus .climate (.channel 4) 0).channels[4].output = 0
    ∧ ((onBus .climate (.channel 4) 0).outputRow 4).level ≤ 14
    ∧ 14 < ((row .output 4 (outRow 1 2 2 15 10 0x184 5000 200 0x284 200 0) bench).outputRow 4).level
    ∧ (heater 570 5700 2000 1).channels[4].output ≠ 0 :=
  ⟨fun _ => rfl, by decide, by decide, by decide, by decide, by decide, by decide⟩

theorem witness_ArrivalsAreForwardedOrDropped :
    ({ bench with vehicle := { Port.reset with link := .busOff } }.port .vehicle).link = .busOff
    ∧ (bench.port .vehicle).link = .on ∧ (bench.port .climate).link = .on ∧ 0x7FF ≠ 0x6E0 + 2 * bench.node.val
    ∧ (List.range 48).all (fun i => !hits bench .vehicle 0x7FF i) = true
    ∧ firstHit bench .climate 0x155 2 = true ∧ (bench.frameRow 2).classCode = 4 := by decide

theorem witness_ServiceFrameActsAsItsCommand : bench.vehicle.link = .on ∧ 0x6E0 = 0x6E0 + 2 * bench.node.val
    ∧ requestCommand [4, 1, 2, 3, 4, 5, 6, 7] = some (.rowData 1 2 3 4 5 6) ∧ requestCommand [1] = some .identify
    ∧ requestCommand [] = none ∧ requestCommand [0] = none ∧ requestCommand [28] = none ∧ requestCommand [3, 1] = none
    ∧ requestCommand [8] = none ∧ requestCommand [9, 1, 1] = none ∧ requestCommand [25, 0] = none
    ∧ requestCommand [26, 1, 2, 3, 4] = none ∧ requestCommand [27, 1] = none ∧ (queued 15).responses.length < 16
    ∧ (queued 16).vehicle.link = .on ∧ (queued 16).node = bench.node ∧ 16 ≤ (queued 16).responses.length := by decide

theorem witness_PanelFrameActsAsItsCommand :
    let other := row .frame 5 [1, 1, 2, 0x99, 1, 0] bench
    let copied := row .frame 1 [3, 1, 2, 1, 3, 0] bench
    firstHit bench .vehicle 0x301 1 = true ∧ (bench.frameRow 1).classCode = 2 ∧ (bench.frameRow 1).forward = false
    ∧ firstHit copied .vehicle 0x301 1 = true ∧ (copied.frameRow 1).classCode = 2 ∧ (copied.frameRow 1).forward = true
    ∧ panelCommand [0, 7] = none ∧ panelCommand [5, 7] = none ∧ ¬ u8 [5, 7] 0 ≤ 4
    ∧ bench.vehicle.link = .on ∧ 0x301 ≠ 0x6E0 + 2 * bench.node.val ∧ bench.sys.used = true ∧ bench.sys.panelRequestId = 0x301
    ∧ (row .system 0 (List.replicate 24 0) bench).sys.used = false
    ∧ firstHit other .vehicle 0x199 5 = true ∧ (other.frameRow 5).classCode = 2 ∧ 0x199 ≠ other.sys.panelRequestId
    ∧ panelCommand [3, 7] = some (.heartbeat 7) ∧ panelCommand [4, 7] = some (.tripEnd 7)
    ∧ panelCommand [1, 7] = none ∧ panelCommand [2, 7, 0] = none ∧ bench.acks.length < 4 := by decide

theorem witness_SignalFieldsReachTheirSlots :
    let count := row .slot 10 ([1, 3] ++ w 0 ++ w 255 ++ w 2000 ++ w 10 ++ w 0) bench
    let unused := row .slot 10 (List.replicate 12 0) bench
    let empty := row .field 0 (List.replicate 12 0) bench
    let copied := row .frame 4 [0x13, 1, 1, 0x23, 1, 0] bench
    firstHit copied .vehicle 0x123 4 = true ∧ (copied.frameRow 4).classCode = 1 ∧ (copied.frameRow 4).forward = true
    ∧ firstHit bench .vehicle 0x2A4 0 = true ∧ (bench.frameRow 0).classCode = 1 ∧ (bench.frameRow 0).count = 3
    ∧ (bench.frameRow 0).first = 40 ∧ firstHit bench .vehicle 0x123 4 = true ∧ (bench.frameRow 4).classCode = 1 ∧ (bench.frameRow 4).count = 1
    ∧ (bench.frameRow 4).forward = false ∧ 0x123 ≠ 0x6E0 + 2 * bench.node.val ∧ (bench.fieldRow 0).target = 10
    ∧ (bench.fieldRow 0).width ≠ 0 ∧ (bench.fieldRow 0).isShort 0 = true ∧ (bench.fieldRow 0).isShort 1 = false
    ∧ (bench.slotRow 10).used = true ∧ (count.slotRow 10).used = true ∧ (count.slotRow 10).kindCode = 3
    ∧ (unused.slotRow 10).used = false ∧ (empty.fieldRow 0).width = 0 ∧ (empty.fieldRow 0).target = 0 := by decide

theorem witness_FieldBitsLieInTheirBytes :
    let lsb : FieldRow := FieldRow.ofBytes ([5, 7, 16, 1, 0, 0] ++ w 0 ++ w 0)
    let msb (byte : Byte) : FieldRow := FieldRow.ofBytes ([byte, 7, 16, 2, 0, 0] ++ w 0 ++ w 0)
    let signed : FieldRow := FieldRow.ofBytes ([0, 0, 1, 1, 1, 0] ++ w 0 ++ w 0)
    lsb.signedFlag = 0 ∧ signed.signedFlag = 1 ∧ signed.width = 1 ∧ signed.rawValue [1] = -1 ∧ signed.rawValue [2] = 0
    ∧ lsb.bitOff ≤ 7 ∧ 1 ≤ lsb.width ∧ lsb.width ≤ 16 ∧ lsb.orderCode = 1 ∧ lsb.byteOff + lsb.span - 1 ≤ 7
    ∧ (msb 2).orderCode = 2 ∧ (msb 2).span ≤ (msb 2).byteOff + 1 ∧ (msb 7).byteOff ≤ 7
    ∧ (msb 7).span ≤ (msb 7).byteOff + 1 := by decide

theorem witness_RepliesSetHealth : (List.replicate 7 (0 : Byte)).length ≤ 7 ∧ (bench.outputRow 0).used = true
    ∧ (bench.outputRow 0).replyId = 0x280 := by decide

/-- A frame that hits a REPLY row of the climate port, and one whose row has the forward flag. -/
theorem witness_RepliesSetHealth_frame :
    let copied := row .frame 3 [3, 2, 3, 0x80, 2, 0] bench
    bench.climate.link = .on ∧ firstHit bench .climate 0x280 3 = true ∧ (bench.frameRow 3).classCode = 3
    ∧ (bench.frameRow 3).forward = false ∧ firstHit copied .climate 0x280 3 = true ∧ (copied.frameRow 3).classCode = 3
    ∧ (copied.frameRow 3).forward = true := by decide

/-- The reply frame of the silent actuator, in a frame (R12, R175), makes its channel READY and leaves a forward copy. -/
theorem test_frameArrival_reply :
    after (.frameArrival .climate ⟨0x280, [0]⟩)
      (row .frame 3 [3, 2, 3, 0x80, 2, 0] { bench with channels := bench.channels.set 0 { Channel.reset with faulted := true } })
      (fun t => !t.channels[0].faulted && t.vehicle.forwards = [⟨0x280, [0]⟩]) = true := by decide

theorem witness_SlotTimersAgeASlot :
    let s : State := { bench with
      slots := (bench.slots.set 12 ⟨190, .fresh, false, some 0, none⟩).set 30 ⟨1, .fresh, false, some 0, some 1⟩ }
    s.slots[12].fresh ≠ none ∧ (s.slotRow 12).holdPeriod ≠ 0 ∧ s.slots[30].fresh ≠ none ∧ (s.slotRow 30).holdPeriod = 0
    ∧ s.slots[30].hold ≠ none ∧ s.slots[0].fresh = none ∧ s.slots[0].hold = none := by decide

theorem witness_ZonePassFormsItsDemand : beforePass.zones[2].pass ≠ none
    ∧ beforePass.countedSensors (beforePass.zoneRow 2) ≠ [] ∧ beforePass.zones[2].lastR ≠ 1000
    ∧ beforePass.alloc.claims[zoneClaim 2].regular = beforePass.zones[2].qh
    ∧ bench.countedSensors (bench.zoneRow 2) = [] := by decide

/-- Zone 2 blind, so that its demand is the fallback demand (R37), in VENT. -/
def blindZone (fallback : Int) : State :=
  row .zone 2 (zoneTwo.take 22 ++ w fallback)
    { bench with zones := bench.zones.set 2 { Zone.reset with mode := .vent, pass := some 0 } }

/-- The mode walk (2.3) at the hysteresis of 50 and just inside it. -/
theorem witness_ZonePassChoosesModeAndOutputs :
    (blindZone 0).zones[2].pass ≠ none ∧ (blindZone 0).zones[2].mode ≠ .off
    ∧ after (.zonePass 2) (blindZone 0) (fun t => t.zones[2].lastR = 0) = true
    ∧ after (.zonePass 2) (blindZone 50) (fun t => t.zones[2].lastR = 50 && t.zones[2].mode = .heat) = true
    ∧ after (.zonePass 2) (blindZone 49) (fun t => t.zones[2].lastR = 49 && t.zones[2].mode = .vent) = true
    ∧ after (.zonePass 2) (blindZone (-50)) (fun t => t.zones[2].lastR = -50 && t.zones[2].mode = .cool) = true
    ∧ after (.zonePass 2) (blindZone (-49)) (fun t => t.zones[2].lastR = -49 && t.zones[2].mode = .vent) = true
    ∧ (blindZone 0).overrides.find .recirculate .all = none
    ∧ ({ bench with overrides := { Overrides.reset with table := [⟨.recirculate, .all, 0, .panel, none, 1⟩] } } : State).overrides.find
        .recirculate .all ≠ none
    ∧ (bench.zoneRow 2).cab = false ∧ (bench.zoneRow 0).cab = true := by decide

/-- Section A's unit in a state. -/
def unit (u : Cooler) : State := { bench with coolers := bench.coolers.set 0 u }

def noMinOff : State := row .zone 8 ([1, 0] ++ w 300 ++ w 0 ++ w 120 ++ List.replicate 16 0) bench

theorem witness_CoolingUnitsPostTheirRequest :
    let u (st : CoolState) (minOn : Timer) : Cooler := { Cooler.reset with state := st, minOn := minOn, dry := true, dryFloor := 400 }
    (u .run none = { (unit (u .run none)).coolers[0] with dry := true, dryFloor := 400 })
    ∧ (unit (u .run none)).coolPerMille 0 ≠ 0 ∧ bench.coolPerMille 0 = 0 ∧ (bench.zoneRow 0).used = true
    ∧ (bench.zoneRow 0).sectCode = 0 ∧ bench.cabZone = some 0 ∧ (u .off none).state = .off ∧ (u .lockout none).state = .lockout
    ∧ (u .run (some 1)).minOn ≠ none ∧ (u .run none).minOn = none ∧ (bench.sectRow 0).minOff ≠ 0
    ∧ (noMinOff.sectRow 0).minOff = 0 := by decide

theorem witness_CoolingGrantsAndMinimumTimes :
    let u (st : CoolState) (posted : Nat) : State := unit { Cooler.reset with state := st, posted := posted }
    let noMinOn := row .zone 8 ([1, 0] ++ w 300 ++ w 180 ++ w 0 ++ List.replicate 16 0) (u .off 90)
    let noRated := row .zone 8 ([1, 0] ++ w 0 ++ w 180 ++ w 120 ++ List.replicate 16 0) (u .off 90)
    (u .off 0).coolers[0].state = .off ∧ (u .off 90).coolers[0].posted ≠ 0 ∧ (bench.sectRow 0).used = true
    ∧ (bench.sectRow 0).rated ≠ 0 ∧ (bench.sectRow 0).minOn ≠ 0 ∧ (bench.sectRow 0).minOff ≠ 0
    ∧ (bench.claimRow (coolClaim 0)).minimum = 90 ∧ (u .run 120).coolers[0].state = .run ∧ (u .run 120).coolers[0].posted ≠ 0
    ∧ (u .run 0).coolers[0].posted = 0 ∧ (u .lockout 0).coolers[0].state = .lockout
    ∧ (noMinOn.sectRow 0).minOn = 0 ∧ (noMinOn.sectRow 0).rated ≠ 0 ∧ noMinOn.coolPerMille 0 = 0
    ∧ noMinOn.coolers[0].posted ≠ 0 ∧ (noRated.sectRow 0).rated = 0 ∧ (noMinOff.sectRow 0).minOff = 0 := by decide

theorem witness_CoolingGrantsAndMinimumTimes_expiries :
    let s := unit { Cooler.reset with state := .run, minOn := some 0 }
    let d := unit { Cooler.reset with state := .run, minOn := some 0, dry := true, dryFloor := 400 }
    let l := unit { Cooler.reset with state := .lockout, minOff := some 0 }
    l.coolers[0].state = .lockout ∧ l.coolers[0].minOff ≠ none ∧ s.coolers[0].state = .run ∧ s.coolers[0].minOn ≠ none
    ∧ roundedNat (s.coolPerMille 0 * (s.sectRow 0).rated) 1000 = 0
    ∧ roundedNat (d.coolPerMille 0 * (d.sectRow 0).rated) 1000 ≠ 0 ∧ (s.sectRow 0).minOff ≠ 0 ∧ bench.coolers[0].minOff = none
    ∧ bench.coolers[0].minOn = none := by decide

theorem witness_ShareOfALevel : [50, 120, 168, 200].sum ≤ 538 ∧ 537 < [50, 120, 168, 200].sum
    ∧ shareOut 537 [50, 120, 168, 200] ≠ [50, 120, 168, 200] := by decide

theorem witness_RegularGrantsFitTheBudget :
    let cs : List Share := [⟨14, 90, 90, false⟩, ⟨15, 0, 80, false⟩]
    let first : List Share := [⟨0, 0, 90, false⟩, ⟨0, 0, 80, true⟩]
    first[1]? = some ⟨0, 0, 80, true⟩ ∧ (first.map fun x => x.windscreen).count true = 1
    ∧ first[0]? = some ⟨0, 0, 90, false⟩
    ∧ cs[0]? = some ⟨14, 90, 90, false⟩ ∧ cs[1]? = some ⟨15, 0, 80, false⟩
    ∧ ((cs.filter fun x => x.level < 15).map fun x => x.request).sum ≤ 90 := by decide

theorem witness_AllocatorTriggersRegrant : (7 : Fin 20).val < 8 ∧ 16 ≤ (16 : Fin 20).val ∧ (18 : Fin 20).val < 19
    ∧ (0 : Nat) = powered.alloc.claims[2].posted ∧ (1 : Nat) ≠ powered.alloc.claims[2].posted := by decide

theorem witness_CapacitiesFollowTheirOwners : 8 ≤ (8 : Fin 20).val ∧ (15 : Fin 20).val < 16 ∧ (19 : Fin 20).val = 19
    ∧ bench.usablePower 2 ≠ bench.alloc.claims[2].capacity ∧ bench.usablePower 1 = bench.alloc.claims[1].capacity
    ∧ bench.serves 4 2 = true ∧ bench.serves 0 2 = false ∧ ¬ ((16 : Fin 20).val < 16)
    ∧ (bench.outputRow 4).used = true ∧ (bench.outputRow 4).claimant = some 2 ∧ (bench.outputRow 1).used = false := by decide

theorem witness_PowerSlotsSetTheBudget : powered.designated .lineState = some 52 ∧ powered.designated .permittedPower = some 50
    ∧ powered.designated .surplus = some 51 ∧ powered.designated .lineState ≠ some 50 ∧ powered.alloc.line = .wired
    ∧ powered.designated .permittedPower ≠ some 52 ∧ powered.designated .surplus ≠ some 52 ∧ loaded.part = .standby := by decide

theorem witness_BeffRisesByTheRampAndShedsOnAFall :
    let granted : State := { powered with alloc := { powered.alloc with claims := powered.alloc.claims.set 2 ⟨168, 240, 168, 0⟩ } }
    powered.alloc.ramp = none ∧ { powered with alloc := { powered.alloc with ramp := some 0 } }.alloc.ramp ≠ none
    ∧ granted.part = .running ∧ granted.designated .permittedPower = some 50 ∧ 100 < (granted.budgetRow granted.alloc.line).base
    ∧ 100 < granted.alloc.beff
    ∧ after (.permittedPowerNotification ⟨50, 100, .fresh⟩) granted (fun t => t.flags.budgetShed) = true
    ∧ after (.permittedPowerNotification ⟨50, 168, .fresh⟩) granted (fun t => !t.flags.budgetShed) = true
    ∧ ({ granted with alloc := { granted.alloc with beff := 500 } } : State).alloc.beff ≤ 500
    ∧ 500 < (granted.budgetRow granted.alloc.line).base ∧ granted.designated .lineState = some 52
    ∧ granted.alloc.line = .wired ∧ (granted.budgetRow .dewired).base < granted.alloc.beff
    ∧ after (.lineStateNotification ⟨52, 1, .fresh⟩) granted (fun t => t.flags.budgetShed) = true
    ∧ ({ granted with alloc := { granted.alloc with beff := 400 } } : State).alloc.beff ≤ (granted.budgetRow .shore).base := by
  decide

theorem witness_DoorReportsAreDebounced : (bench.doorRow 1).used = true ∧ (bench.doorRow 1).stateSlot = 30
    ∧ bench.doors[1].isOpen = false ∧ bench.doors[1].candidate = none ∧ (bench.doorRow 1).debounce ≠ 0
    ∧ (bench.doorRow 3).used = true ∧ (bench.doorRow 3).stateSlot = 33 ∧ (bench.doorRow 3).debounce = 0
    ∧ (door fun x => { x with candidate := some true }).doors[1].candidate ≠ none := by decide

/-- Door 1 in mode m, with N 3, a delay and a PV, and the burst state b. -/
def modeDoor (m delay pv : Nat) (b : BurstState) (f : Door → Door) : State :=
  door fun x => f { x with
    working := some ⟨120, m, 3, delay, 20, 90, 5, 30, 16⟩, pv := pv, burst := b, debounce := some 0
    timer := if b = .idle then none else some 0 }

theorem witness_OpenedEventAtADoor :
    let opening (m delay pv : Nat) (b : BurstState) : State := modeDoor m delay pv b fun x => { x with candidate := some true }
    (∀ m ∈ [1, 2, 3, 4, 5], ∀ delay ∈ [0, 2], ∀ pv ∈ [1, 2], ∀ b ∈ [BurstState.idle, .delay, .burst, .gap, .recovery],
      (opening m delay pv b).doors[1].debounce ≠ none ∧ (opening m delay pv b).doors[1].candidate = some true
        ∧ (opening m delay pv b).doors[1].working = some ⟨120, m, 3, delay, 20, 90, 5, 30, 16⟩
        ∧ (opening m delay pv b).doors[1].pv = pv ∧ (opening m delay pv b).doors[1].burst = b)
    ∧ bench.part = .running ∧ (bench.doorRow 1).used = true ∧ loaded.part ≠ .running
    ∧ bench.doors[1].serviceMask = false ∧ bench.doors[1].overrideMask = false ∧ bench.groupMask = false
    ∧ (door fun x => { x with overrideMask := true }).doors[1].overrideMask = true := by decide

theorem witness_ClosedEventAtADoor :
    let closing (m pv : Nat) (b : BurstState) : State :=
      modeDoor m 2 pv b fun x => { x with isOpen := true, candidate := some false }
    (∀ m ∈ [1, 2, 3, 4, 5], ∀ pv ∈ [1, 2], ∀ b ∈ [BurstState.idle, .delay, .burst, .gap, .recovery],
      (closing m pv b).doors[1].debounce ≠ none ∧ (closing m pv b).doors[1].candidate = some false
        ∧ (closing m pv b).doors[1].working = some ⟨120, m, 3, 2, 20, 90, 5, 30, 16⟩
        ∧ (closing m pv b).doors[1].pv = pv ∧ (closing m pv b).doors[1].burst = b) := by decide

/-- A recovery of 0 in WHILE_OPEN, and a delay of 0 at the last closing of ACCUMULATE. -/
theorem witness_ClosedEventAtADoor_zero :
    let closing (w : BurstFields) (b : BurstState) : State := modeDoor w.modeCode 0 1 b fun x =>
      { x with isOpen := true, candidate := some false, working := some w }
    (closing ⟨120, 2, 3, 0, 20, 90, 5, 0, 16⟩ .burst).doors[1].working = some ⟨120, 2, 3, 0, 20, 90, 5, 0, 16⟩
    ∧ (closing ⟨120, 2, 3, 0, 20, 90, 5, 0, 16⟩ .burst).doors[1].burst = .burst
    ∧ (closing ⟨120, 4, 3, 0, 20, 90, 5, 30, 16⟩ .idle).doors[1].working = some ⟨120, 4, 3, 0, 20, 90, 5, 30, 16⟩
    ∧ (closing ⟨120, 4, 3, 0, 20, 90, 5, 30, 16⟩ .idle).doors[1].pv ≤ 1
    ∧ (closing ⟨120, 4, 3, 0, 20, 90, 5, 30, 16⟩ .idle).doors[1].candidate = some false := by decide

theorem witness_DoorTimersEndTheirStates :
    (∀ m ∈ [1, 2, 3, 4, 5], ∀ o ∈ [true, false], ∀ b ∈ [BurstState.delay, .burst],
      let s := modeDoor m 2 3 b fun x => { x with isOpen := o }
      s.doors[1].timer ≠ none ∧ s.doors[1].working = some ⟨120, m, 3, 2, 20, 90, 5, 30, 16⟩ ∧ s.doors[1].burst = b
        ∧ s.doors[1].isOpen = o)
    ∧ (modeDoor 1 0 3 .recovery fun x => { x with latch := true }).doors[1].working
      = some ⟨120, 1, 3, 0, 20, 90, 5, 30, 16⟩
    ∧ (modeDoor 1 0 3 .burst fun x => { x with working := some ⟨120, 1, 3, 0, 20, 90, 5, 0, 16⟩ }).doors[1].working
      = some ⟨120, 1, 3, 0, 20, 90, 5, 0, 16⟩
    ∧ (modeDoor 1 0 3 .recovery fun x => { x with staged := some ⟨120, 3, 2, 0, 20, 90, 5, 0, 16⟩ }).doors[1].staged
      = some ⟨120, 3, 2, 0, 20, 90, 5, 0, 16⟩ := by decide

theorem witness_DoorTimersEndTheirStates_gaps :
    let gap := modeDoor 5 2 3 .gap fun x => { x with isOpen := true, series := 2 }
    let done := modeDoor 5 2 3 .gap fun x => { x with isOpen := true, series := 3 }
    let latched (m pv : Nat) : State := modeDoor m 2 pv .recovery fun x => { x with latch := true }
    gap.doors[1].timer ≠ none ∧ gap.doors[1].isOpen = true ∧ gap.doors[1].ending = false ∧ gap.doors[1].staged = none
    ∧ gap.doors[1].series < 3 ∧ ¬ done.doors[1].series < 3 ∧ (latched 3 2).doors[1].latch = true
    ∧ (latched 3 2).doors[1].burst = .recovery ∧ (latched 3 2).doors[1].timer ≠ none ∧ 1 < (latched 3 2).doors[1].pv
    ∧ (latched 1 2).doors[1].working = some ⟨120, 1, 3, 2, 20, 90, 5, 30, 16⟩
    ∧ (modeDoor 1 2 1 .recovery id).doors[1].latch = false := by decide

theorem witness_MaskAndCountNoticesAtADoor :
    let quiet (m : Nat) : State := modeDoor m 2 2 .idle fun x => { x with overrideMask := true, latch := true }
    (quiet 1).part = .running ∧ ((quiet 1).doorRow 1).used = true ∧ (quiet 1).doors[1].overrideMask = true
    ∧ (quiet 1).doors[1].serviceMask = false ∧ (quiet 1).groupMask = false ∧ (quiet 1).doors[1].latch = true
    ∧ (quiet 1).doors[1].burst = .idle ∧ (quiet 3).doors[1].working = some ⟨120, 3, 3, 2, 20, 90, 5, 30, 16⟩
    ∧ 1 < (quiet 3).doors[1].pv ∧ (∀ c : Fin 8, bench.doors[c].latch = false)
    ∧ (bench.doorRow 1).boardedSlot = 31 ∧ (row .door 1 (doorOne.set 4 32) bench |>.doorRow 1).alightedSlot = 32
    ∧ (bench.doorRow 1).zoneCode = (2 : Fin 8).val ∧ (bench.zoneRow 2).sectCode = (1 : Fin 3).val
    ∧ (bench.zoneRow 2).used = true := by decide

/-- Delays of 0 and EVERY_NTH with its PV at 1, under the mask of the door, the group mask and the service mask. -/
theorem witness_MaskAndCountNoticesAtADoor_delays :
    (∀ m ∈ [1, 2, 3, 4, 5], ∀ delay ∈ [0, 2], ∀ pv ∈ [1, 2], ∀ service ∈ [true, false], ∀ override ∈ [true, false],
      let s := modeDoor m delay pv .idle fun x => { x with latch := true, serviceMask := service, overrideMask := override }
      s.doors[1].working = some ⟨120, m, 3, delay, 20, 90, 5, 30, 16⟩ ∧ s.doors[1].pv = pv ∧ s.doors[1].latch = true
        ∧ s.doors[1].serviceMask = service ∧ s.doors[1].overrideMask = override ∧ s.doors[1].burst = .idle) := by decide

/-- Door 1 under the group mask with a latched trigger, which the end of the group mask takes. -/
theorem witness_MaskAndCountNoticesAtADoor_group :
    let grouped (m : Nat) : State :=
      { modeDoor m 2 2 .idle (fun x => { x with latch := true }) with groupMask := true }
    (grouped 1).part = .running ∧ ((grouped 1).doorRow 1).used = true ∧ (grouped 1).groupMask = true
    ∧ (grouped 1).doors[1].serviceMask = false ∧ (grouped 1).doors[1].overrideMask = false
    ∧ (grouped 1).doors[1].latch = true ∧ (grouped 1).doors[1].burst = .idle
    ∧ (grouped 1).doors[1].working = some ⟨120, 1, 3, 2, 20, 90, 5, 30, 16⟩
    ∧ (grouped 3).doors[1].working = some ⟨120, 3, 3, 2, 20, 90, 5, 30, 16⟩ ∧ 1 < (grouped 3).doors[1].pv := by decide

theorem witness_BoardingsAndAlightingsCount : (140 : Int) = (crowd 135).loads[1].count + (5 : Nat)
    ∧ (0 : Int) = (crowd 6).loads[1].count - (6 : Nat) ∧ (crowd 135).capacityOf 1 = 140 := by decide

theorem witness_DwellAndTerminusMark :
    ({ bench with loads := bench.loads.set 1 ⟨75, false, false, false, some 1, some (some 2), some 0⟩ } : State).loads[1].dwell ≠ none
    ∧ bench.designated .terminusMark = some 24 ∧ bench.markHigh = false
    ∧ ({ bench with markHigh := true } : State).markHigh = true := by decide

theorem witness_ScreenPassWalksTheSteps :
    let at_ (st : Stage) (p : Option Nat) (ms : Nat) : State :=
      glassOf 52 22 { Screen.reset with stage := st, pointer := p, stageMs := ms, entryDwell := 60, pass := some 0 }
    (∀ st ∈ [Stage.off, .watch, .demist, .clear, .max], ∀ p ∈ [none, some 0, some 4],
      (at_ st p 0).screen.pass ≠ none ∧ (at_ st p 0).screen.stage = st ∧ (at_ st p 0).screen.pointer = p)
    ∧ (at_ .watch none 0).roleValue .glass = some 52 ∧ (at_ .watch none 0).roleValue .dewpoint = some 22
    ∧ bench.roleValue .glass = none ∧ (bench.stepRow 0).rising = false ∧ (30 : Int) ≤ (bench.stepRow 0).threshold
    ∧ (bench.stepRow 4).rising = true ∧ ¬ (bench.stepRow 4).threshold ≤ (30 : Int)
    ∧ stepStageOfCode (bench.stepRow 0).stageCode = some .demist ∧ 1000 * 60 ≤ (at_ .watch (some 0) 60000).screen.stageMs
    ∧ (at_ .watch (some 0) 59999).screen.stageMs < 1000 * 60 := by decide

theorem witness_ScreenGrantAndMaximumDefrost :
    let noRise := row .step 3 [0, 0, 0, 0, 0, 0] (row .step 4 [0, 0, 0, 0, 0, 0] bench)
    let noStep := row .step 0 [0, 0, 0, 0, 0, 0] (row .step 1 [0, 0, 0, 0, 0, 0] noRise)
    bench.part = .running ∧ bench.screen.maxCount = 0 ∧ bench.screen.stage ≠ .max ∧ loaded.part = .standby
    ∧ ({ Screen.reset with stage := .max, maxCount := 1 } : Screen).maxCount = 1
    ∧ (bench.stepRow 3).used = true ∧ (bench.stepRow 3).rising = true
    ∧ (∀ j < 3, (bench.stepRow j).used = true → (bench.stepRow j).rising = false)
    ∧ (∀ i < 12, (noRise.stepRow i).used = true → (noRise.stepRow i).rising = false) ∧ (noRise.stepRow 0).used = true
    ∧ (∀ i < 12, (noStep.stepRow i).used = false) := by decide

theorem witness_SetsEnterTheTable : bench.sys.used = true ∧ (queued 15).responses.length < 16
    ∧ bench.vehicle.link = .on := by decide

theorem witness_ReleasesHeartbeatsAndTripEnds : bench.sys.used = true ∧ loaded.sys.used = true ∧ loaded.part = .standby
    ∧ bench.part = .running ∧ (queued 15).responses.length < 16 ∧ bench.vehicle.link = .on := by decide

theorem witness_OverrideTimersExpire :
    let s : State := { bench with overrides := ⟨[⟨.recirculate, .all, 0, .panel, some 0, 1⟩], 1, true, some 0, some 0⟩ }
    s.part = .running ∧ loaded.part = .standby ∧ s.overrides.panelTimer ≠ none ∧ s.overrides.present = true
    ∧ ({ s with overrides := { s.overrides with present := false } } : State).overrides.present = false
    ∧ bench.overrides.panelTimer = none ∧ s.overrides.statusTimer ≠ none ∧ bench.overrides.statusTimer = none
    ∧ s.sys.used = true ∧ s.vehicle.link = .on ∧ s.vehicle.onBus = none
    ∧ (row .system 0 (List.replicate 24 0) s).sys.used = false := by decide

theorem witness_DeliveriesFormChannels :
    let s (out : Nat) (frame : PendingFrame) (spacing : Timer) : State :=
      { bench with
        channels := bench.channels.set 0
          ({ Channel.reset with output := out, frame := frame, spacing := spacing, lastCarried := some 500 }) }
    (bench.outputRow 0).used = true ∧ (bench.outputRow 0).fedBy (.zoneGrant 0) = true ∧ (bench.outputRow 0).encodingCode = 1
    ∧ (bench.outputRow 0).level ≤ 14 ∧ (bench.outputRow 4).fedBy (.zoneGrant 2) = true ∧ (bench.outputRow 4).encodingCode = 2
    ∧ (bench.outputRow 6).encodingCode = 13 ∧ (bench.outputRow 6).functionCode = 2 ∧ (bench.outputRow 12).functionCode = 7
    ∧ (bench.outputRow 0).fedBy .flap = false
    ∧ (bench.outputRow 1).used = false ∧ (s 400 .none none).channels[0].spacing = none
    ∧ (s 400 .waiting (some 5)).channels[0].frame ≠ .none ∧ (s 0 .offered none).channels[0].output = 0
    ∧ 14 < ((row .output 0 (outRow 1 0 1 15 10 0x180 1000 100 0x280 200 0) bench).outputRow 0).level
    ∧ (heater 570 5700 2000 1).channels[4].window ≠ none ∧ 400 < (heater 570 5700 2000 1).channels[4].commanded
    ∧ bench.channels[4].window = none := by decide

theorem witness_ChannelTimersExpire :
    let s : State := { bench with
      channels := bench.channels.set 0
        ({ Channel.reset with spacing := some 0, periodic := some 0, replyWait := some 0, misses := 2 }) }
    let h := heater 570 5700 5700 1
    h.channels[4].window ≠ none ∧ h.channels[4].output = 1 ∧ h.channels[4].onTime < 1000 * (h.outputRow 4).window
    ∧ bench.channels[4].window = none ∧ bench.channels[4].output ≠ 1 ∧ s.channels[0].spacing ≠ none
    ∧ s.channels[0].periodic ≠ none ∧ s.channels[0].replyWait ≠ none ∧ bench.channels[0].spacing = none
    ∧ bench.channels[0].periodic = none ∧ bench.channels[0].replyWait = none ∧ (heater 0 0 0 0).channels[4].output = 0
    ∧ (heater 0 0 0 0).channels[4].commanded * (1000 * ((heater 0 0 0 0).outputRow 4).window) / 1000 = 0 := by decide

/-- The bench with its load engine in a state. -/
def engine (e : Engine) : State := { bench with engine := e }

theorem witness_RowsAreOpenedAndFilled : bench.vehicle.link = .on ∧ (queued 15).responses.length < 16 ∧ bench.engine = .idle
    ∧ TableId.ofCode 1 = some .frame ∧ 47 < TableId.rowCount .frame ∧ ¬ 48 < TableId.rowCount .frame
    ∧ TableId.ofCode 13 = some .system ∧ TableId.ofCode 0 = none ∧ TableId.ofCode 14 = none
    ∧ (engine (.assembling ⟨.door, 5, [], 9⟩)).engine = .assembling ⟨.door, 5, [], 9⟩
    ∧ (engine (.halted .range)).engine = .halted .range := by decide

theorem witness_RowsAreOpenedAndFilled_data : bench.vehicle.link = .on ∧ (queued 15).responses.length < 16
    ∧ (List.replicate 18 (0 : Byte)).length + 6 ≤ TableId.rowLength .door
    ∧ TableId.rowLength .door < (List.replicate 24 (0 : Byte)).length + 6 ∧ bench.engine = .idle := by decide

/-- The field check at the boundary values of a FRAME, a DOOR and a BUDGET row, and at an unused row. -/
theorem witness_RowFieldsAreChecked : rowCloseOk .frame 0 [0x11, 1, 1, 0xFF, 7, 127] = true
    ∧ rowCloseOk .frame 0 [0x11, 1, 1, 0, 8, 127] = false ∧ rowCloseOk .frame 0 [0x10, 0, 0, 0, 8, 128] = true
    ∧ rowCloseOk .door 5 (doorOne.set 13 30) = true ∧ rowCloseOk .door 5 (doorOne.set 13 31) = false
    ∧ rowCloseOk .budget 0 (w 2000 ++ w 2000 ++ w 0) = true ∧ rowCloseOk .budget 0 (w 2001 ++ w 0 ++ w 0) = false
    ∧ (7 : Nat) < 8 ∧ 8 ≤ (8 : Nat) := by decide

/-- Two FRAME rows of one port and identifier, a used OUTPUT row whose identifier an earlier row has, and the refusal at
the lowest failing row. -/
theorem witness_CommitsValidateTheirBank :
    let frames := (loaded.active.get .frame).set 9 [1, 1, 4, 0x23, 1, 0]
    let outputs := (loaded.active.get .output).set 7 (outRow 2 2 13 8 10 0x186 1000 100 0x286 200 0)
    commitRowOk 0 .frame frames 4 = false ∧ firstBadRow 0 .frame frames = some 4
    ∧ firstBadRow 0 .output outputs = some 7 ∧ firstBadRow 0 .claim (loaded.active.get .claim) = none := by decide

theorem witness_RequestsOnTheShadowBank : bench.vehicle.link = .on ∧ (queued 15).responses.length < 16
    ∧ (List.replicate 18 (0 : Byte)).length < TableId.rowLength .door ∧ TableId.rowLength .door ≤ doorOne.length
    ∧ rowCloseOk .door 5 doorOne = true ∧ rowCloseOk .door 5 (doorOne.set 5 6) = false ∧ bench.engine = .idle
    ∧ TableId.ofCode 6 = some .door ∧ 7 < TableId.rowCount .door ∧ TableId.rowCount .door ≤ 8 ∧ TableId.ofCode 14 = none := by
  decide

theorem witness_CommitInstallsAValidBank :
    let bad : List RowBytes := (bench.active.get .zone).set 3 ([1, 1] ++ w 200 ++ w 220 ++ w 200 ++ zoneTwo.drop 8)
    bench.vehicle.link = .on ∧ (queued 15).responses.length < 16 ∧ bench.engine = .idle ∧ TableId.ofCode 0 = none
    ∧ TableId.ofCode 4 = some .zone ∧ commitRowOk 0 .zone bad 3 = false ∧ (∀ j < 3, commitRowOk 0 .zone bad j = true)
    ∧ (∀ i < 11, commitRowOk 0 .zone (bench.active.get .zone) i = true) ∧ TableId.ofCode 1 = some .frame
    ∧ (∀ i < 48, commitRowOk 0 .frame (bench.active.get .frame) i = true) := by decide

/-- The bench whose shadow bank holds its own tables, with one row of a table changed. -/
def shadowed (t : TableId) (i : Nat) (r : RowBytes) : State :=
  { bench with shadow := loaded.active.put t ((loaded.active.get t).set i r) }

/-- Whether the shadow bank's table is valid. -/
def validShadow (s : State) (t : TableId) : Bool :=
  (List.range t.rowCount).all fun i => commitRowOk s.node t (s.shadow.get t) i

theorem witness_CommitsReachTheirBlocks :
    let s := shadowed .door 5 doorOne
    s.vehicle.link = .on ∧ s.responses.length < 16 ∧ s.engine = .idle ∧ (∀ t ∈ [TableId.slot, .door, .band, .output], validShadow s t = true)
    ∧ (s.doorRow 5).used = false ∧ (s.doorRow 1).used = true
    ∧ validShadow (shadowed .door 1 (List.replicate 24 0)) .door = true
    ∧ validShadow (shadowed .slot 10 stateRow) .slot = true
    ∧ validShadow (shadowed .output 1 (outRow 1 1 2 14 10 0x187 5000 200 0x287 200 0)) .output = true
    ∧ validShadow (shadowed .output 1 (outRow 1 1 1 15 10 0x187 5000 200 0x287 200 0)) .output = true := by decide

/-- A zone that moves to section C, one made unused, one made used, and a unit whose rated power becomes 0. -/
theorem witness_ZoneCommitsReachZonesAndUnits :
    let moves := shadowed .zone 2 (zoneTwo.set 1 2)
    moves.vehicle.link = .on ∧ moves.responses.length < 16 ∧ moves.engine = .idle ∧ validShadow moves .zone = true
    ∧ (moves.zoneRow 2).used = true ∧ (moves.zoneRow 2).sectCode = 1
    ∧ validShadow (shadowed .zone 2 (List.replicate 24 0)) .zone = true
    ∧ validShadow (shadowed .zone 3 (zoneTwo.set 0 1)) .zone = true ∧ (bench.zoneRow 3).used = false
    ∧ validShadow (shadowed .zone 8 ([1, 0] ++ w 0 ++ w 180 ++ w 120 ++ List.replicate 16 0)) .zone = true
    ∧ (bench.sectRow 0).rated ≠ 0 ∧ loaded.part = .standby := by decide

/-- R146: a STAGE commit in stage OFF updates the windscreen heater's capacity too, to 0. -/
theorem test_stage_commit_in_off_updates_the_capacity :
    after (.commit 9) ((shadowed .step 0 [0, 0, 0, 0, 0, 0]).setClaim screenClaim ⟨0, 150, 0, 0⟩)
      (fun t => t.screen.stage = .off && t.alloc.claims[19].capacity = 0) = true := by decide

/-- The pointer at a used row, at a row that the commit makes unused, and at none; a stage outside OFF; a changed
designation of the line state; a count above the new capacity. -/
theorem witness_CommitsReachScreenAndAllocator :
    let s := shadowed .step 0 [0, 0, 0, 0, 0, 0]
    let at_ (p : Option Nat) : State := { s with screen := { Screen.reset with stage := .watch, pointer := p } }
    s.vehicle.link = .on ∧ s.responses.length < 16 ∧ s.engine = .idle
    ∧ (∀ t ∈ [TableId.step, .stage, .claim, .budget, .system], validShadow s t = true)
    ∧ (∀ p ∈ [none, some 0, some 1], (at_ p).screen.pointer = p) ∧ (at_ none).screen.stage ≠ .off
    ∧ bench.screen.stage = .off ∧ validShadow (shadowed .system 0 (systemRow.set 4 30)) .system = true
    ∧ validShadow (shadowed .system 0 (systemRow.set 21 20)) .system = true
    ∧ 20 < (crowd 55).loads[1].count := by decide

theorem witness_ReadsReportTheirObject : (∀ n : Fin 17, (queued n).vehicle.link = .on)
    ∧ (queued 15).responses.length + 1 ≤ 16 ∧ (queued 14).responses.length + 2 ≤ 16
    ∧ (queued 13).responses.length + 3 ≤ 16 := by decide

theorem witness_ReadsReportRowsAndChannels : (∀ n : Fin 17, (queued n).vehicle.link = .on)
    ∧ (queued 11).responses.length + 5 ≤ 16 ∧ (queued 15).responses.length + TableId.rowLength .frame / 6 ≤ 16
    ∧ (queued 12).responses.length + TableId.rowLength .output / 6 ≤ 16
    ∧ bench.active.shaped = true ∧ bench.shadow.shaped = true ∧ 47 < TableId.rowCount .frame
    ∧ (bench.outputRow 4).used = true ∧ (bench.outputRow 4).fedBy (.zoneGrant 2) = true ∧ (bench.outputRow 1).used = false
    ∧ (∀ z : Fin 8, (bench.outputRow 1).fedBy (.zoneGrant z) = false) ∧ (bench.outputRow 1).fedBy .flap = false
    ∧ ((row .output 1 ((outRow 1 0 1 4 10 0x180 1000 100 0x280 200 0).set 0 0) bench).outputRow 1).used = false
    ∧ ((row .output 1 ((outRow 1 0 1 4 10 0x180 1000 100 0x280 200 0).set 0 0) bench).outputRow 1).fedBy (.zoneGrant 0) = true := by
  decide

theorem witness_StatusAndIdentifyReport : (queued 11).vehicle.link = .on ∧ (queued 11).responses.length + 5 ≤ 16
    ∧ (queued 15).vehicle.link = .on ∧ (queued 15).responses.length + 1 ≤ 16 := by decide

theorem witness_RequestsAreRefusedForRoomOrRange : bench.vehicle.link = .on ∧ requestCommand [2] = some .status
    ∧ requestCommand [15, 23] = some (.readChannel 23) ∧ requestCommand [11, 7] = some (.readZone 7)
    ∧ requestCommand [13, 2] = some (.readSection 2) ∧ requestCommand [14, 19] = some (.readClaim 19)
    ∧ requestCommand [12, 7] = some (.readDoor 7)
    ∧ requestCommand [9, 12, 23, 1] = some (.readRow (byteOf (TableId.code .output)) 23 1)
    ∧ requestCommand [9, 3, 63, 0] = some (.readRow (byteOf (TableId.code .slot)) 63 0)
    ∧ (23 : Byte).toNat < TableId.rowCount .output ∧ (1 : Byte).toNat < 2 ∧ (63 : Byte).toNat < TableId.rowCount .slot
    ∧ requestCommand [9, 4, 7, 1] = some (.readRow (byteOf (TableId.code .zone)) 7 1)
    ∧ (7 : Byte).toNat < TableId.rowCount .zone ∧ 16 < (queued 13).responses.length + TableId.rowLength .zone / 6
    ∧ 16 < (queued 14).responses.length + TableId.rowLength .output / 6
    ∧ 16 < (queued 15).responses.length + TableId.rowLength .slot / 6 ∧ (queued 13).active.shaped = true
    ∧ (queued 13).shadow.shaped = true ∧ 16 ≤ (queued 16).responses.length ∧ 11 < (queued 12).responses.length
    ∧ 13 < (queued 14).responses.length ∧ (queued 15).responses.length = 15 ∧ bench.active.shaped = true
    ∧ Instr.identify ≠ .restart ∧ TableId.ofCode 0 = none ∧ TableId.rowCount .system ≤ 1 ∧ TableId.ofCode 13 = some .system := by
  decide

theorem witness_StartBringsThePartToRunning : bench.vehicle.link = .on ∧ (queued 15).responses.length < 16
    ∧ bench.part = .running ∧ loaded.part = .standby ∧ loaded.sys.used = true ∧ (loaded.zoneRow 2).used = true
    ∧ State.reset.part = .standby ∧ State.reset.sys.used = false ∧ (loaded.outputRow 6).used = true
    ∧ (loaded.outputRow 6).fedBy (.blower 2) = true
    ∧ (loaded.outputRow 6).encodingCode ≠ 2 ∧ (loaded.outputRow 4).fedBy (.zoneGrant 2) = true
    ∧ (loaded.outputRow 4).encodingCode = 2 ∧ loaded.screen.stage = .off ∧ loaded.screen.maxCount = 0
    ∧ (loaded.outputRow 1).used = false := by decide

theorem witness_StopBringsThePartToStandby : bench.vehicle.link = .on ∧ (queued 15).responses.length < 16
    ∧ bench.part = .running ∧ loaded.part = .standby ∧ (bench.outputRow 4).used = true := by decide

theorem witness_SetRequestsActOnEachNamed : bench.vehicle.link = .on ∧ (queued 15).responses.length < 16
    ∧ (∀ d : Fin 8, bench.doors[d].latch = false) ∧ (2 : Byte).toNat = (2 : Fin 3).val
    ∧ (110 : Byte).toNat ≤ bench.capacityOf 2 ∧ bench.capacityOf 2 < (111 : Byte).toNat ∧ 3 ≤ (3 : Byte).toNat := by decide

/-- Door 1 masked by the service with a latched trigger, which UNMASK_DOORS 2 takes. -/
theorem witness_SetRequestsActOnEachNamed_unmask :
    let quiet (m : Nat) : State := modeDoor m 2 2 .idle fun x => { x with serviceMask := true, latch := true }
    (quiet 1).vehicle.link = .on ∧ (quiet 1).responses.length < 16 ∧ (2 : Byte).toNat.testBit (1 : Fin 8) = true
    ∧ (quiet 1).part = .running ∧ ((quiet 1).doorRow 1).used = true ∧ (quiet 1).doors[1].serviceMask = true
    ∧ (quiet 1).doors[1].overrideMask = false ∧ (quiet 1).groupMask = false ∧ (quiet 1).doors[1].latch = true
    ∧ (quiet 1).doors[1].burst = .idle ∧ (quiet 1).doors[1].working = some ⟨120, 1, 3, 2, 20, 90, 5, 30, 16⟩
    ∧ (quiet 3).doors[1].working = some ⟨120, 3, 3, 2, 20, 90, 5, 30, 16⟩ ∧ 1 < (quiet 3).doors[1].pv := by decide

/-- The bench answers a next state, and meets each standing condition that the invariants start from. -/
theorem witness_StepsKeepTheBounds : (∃ t, step bench = .next t) ∧ bench.queuesKept ∧ bench.overridesKept ∧ bench.countsKept
    ∧ bench.coolersKept := by
  refine ⟨⟨_, rfl⟩, ?_, ?_, ?_, ?_⟩
  · exact ⟨by decide, by decide, fun p => by cases p <;> decide⟩
  · exact ⟨by decide, by decide, by decide⟩
  · unfold State.countsKept; decide
  · unfold State.coolersKept; decide

theorem witness_StepsKeepTheBudget : (∃ t, step powered = .next t) ∧ powered.budgetKept := by
  refine ⟨⟨_, rfl⟩, ?_⟩
  unfold State.budgetKept; decide

theorem witness_StepsKeepTheBanks : (∃ t, step loaded = .next t) ∧ loaded.banksKept := by
  refine ⟨⟨_, rfl⟩, by decide, by decide, trivial, fun t => ?_⟩
  cases t <;> decide

theorem witness_StepsKeepStandbyQuiet : (∃ t, step loaded = .next t) ∧ loaded.doorsKept ∧ loaded.standbyQuiet := by
  refine ⟨⟨_, rfl⟩, ?_, ?_⟩
  · unfold State.doorsKept; decide
  · unfold State.standbyQuiet; decide

end Sys2Proof.Tests
end

section
/-! Proofs for chapter 7: the share of one level (R150). -/

namespace Sys2Proof.Machine

/-! ### Handing out the lost units -/

/-- A place of `handOut` that still takes a unit: its floored share is below its need. -/
def belowNeed (place : Nat × Nat) : Bool := decide (place.1 < place.2)

/-- A place receives one unit more than its floored share exactly when it is below its need and the places before it that
are below theirs do not use up the units. -/
theorem handOut_getElem? (left i : Nat) (places : List (Nat × Nat)) :
    (handOut left places)[i]? = places[i]?.map fun p =>
      if p.1 < p.2 ∧ (places.take i).countP belowNeed < left then p.1 + 1 else p.1 := by
  induction places generalizing left i with
  | nil => simp [handOut]
  | cons p rest ih =>
    cases i with
    | zero => by_cases h : p.1 < p.2 ∧ 0 < left <;> simp [handOut, and_comm (a := 0 < left), h]
    | succ i =>
      by_cases hneed : p.1 < p.2
      · cases left with
        | zero => simp [handOut, ih]
        | succ left => simp [handOut, belowNeed, hneed, ih]
      · simp [handOut, belowNeed, hneed, ih]

/-- All the units are handed out when no more are left than places below their need. -/
theorem handOut_sum {left : Nat} {places : List (Nat × Nat)} (h : left ≤ places.countP belowNeed) :
    (handOut left places).sum = (places.map Prod.fst).sum + left := by
  induction places generalizing left with
  | nil => simp [handOut, Nat.le_zero.1 h]
  | cons p rest ih =>
    by_cases hneed : p.1 < p.2
    · rw [List.countP_cons_of_pos (by simpa [belowNeed] using hneed)] at h
      by_cases hleft : 0 < left
      · have hrest := ih (left := left - 1) (by omega)
        simp [handOut, hneed, hleft, hrest]; omega
      · have hrest := ih (left := left) (by omega)
        simp [handOut, hleft, hrest]; omega
    · rw [List.countP_cons_of_neg (by simpa [belowNeed] using hneed)] at h
      simp [handOut, hneed, ih h]; omega

/-! ### The floored proportions -/

/-- The floored shares of `avail` in the proportion of each need to `total` (R150). -/
def floors (avail total : Nat) (needs : List Nat) : List Nat := needs.map fun q => q * avail / total

/-- The units lost to flooring. -/
def lostUnits (avail : Nat) (needs : List Nat) : Nat := avail - (floors avail needs.sum needs).sum

/-- The places of `shareOut`: each floored share with its need. -/
def sharePlaces (avail : Nat) (needs : List Nat) : List (Nat × Nat) := (floors avail needs.sum needs).zip needs

/-- How many of the first `i` claimants have a floored share below their need. -/
def takersBefore (avail : Nat) (needs : List Nat) (i : Nat) : Nat := ((sharePlaces avail needs).take i).countP belowNeed

theorem takersBefore_mono (avail : Nat) (needs : List Nat) {i j : Nat} (h : i ≤ j) :
    takersBefore avail needs i ≤ takersBefore avail needs j :=
  (List.take_sublist_take_left h).countP_le

theorem sharePlaces_getElem? (avail : Nat) {needs : List Nat} {i : Nat} (hi : i < needs.length) :
    (sharePlaces avail needs)[i]? = some (needs.getD i 0 * avail / needs.sum, needs.getD i 0) := by
  simp [sharePlaces, floors, hi]

theorem sharePlaces_map_fst (avail : Nat) (needs : List Nat) :
    (sharePlaces avail needs).map Prod.fst = floors avail needs.sum needs :=
  List.map_fst_zip (by simp [floors])

theorem shareOut_of_short {avail : Nat} {needs : List Nat} (h : avail < needs.sum) :
    shareOut avail needs = handOut (lostUnits avail needs) (sharePlaces avail needs) := by
  simp [shareOut, lostUnits, sharePlaces, floors, Nat.not_le.2 h]

theorem floor_le_need {q avail total : Nat} (h : avail ≤ total) : q * avail / total ≤ q :=
  Nat.div_le_of_le_mul (by rw [Nat.mul_comm total]; exact Nat.mul_le_mul_left q h)

/-- Flooring adds nothing: the floored shares are within the exact ones. -/
theorem floors_sum_mul_le (avail total : Nat) (needs : List Nat) :
    total * (floors avail total needs).sum ≤ needs.sum * avail := by
  induction needs with
  | nil => simp [floors]
  | cons q rest ih =>
    have hq : total * (q * avail / total) ≤ q * avail := Nat.mul_div_le _ _
    simp only [floors, List.map_cons, List.sum_cons, Nat.mul_add, Nat.add_mul] at ih ⊢
    omega

/-- Flooring loses less than a unit at each place below its need, and nothing at the others. -/
theorem sum_mul_le_floors_sum_add_countP {avail total : Nat} (h : avail < total) (needs : List Nat) :
    needs.sum * avail
      ≤ total * ((floors avail total needs).sum + ((floors avail total needs).zip needs).countP belowNeed) := by
  induction needs with
  | nil => simp
  | cons q rest ih =>
    have hq : q * avail ≤ total * (q * avail / total + if q * avail / total < q then 1 else 0) := by
      split
      · exact (Nat.lt_mul_div_succ _ (by omega)).le
      next hfull =>
        calc q * avail ≤ q * total := Nat.mul_le_mul_left q h.le
          _ ≤ total * (q * avail / total + 0) := by
            rw [Nat.mul_comm q]; exact Nat.mul_le_mul_left total (Nat.not_lt.1 hfull)
    simp only [floors, List.map_cons, List.zip_cons_cons, List.countP_cons, belowNeed, decide_eq_true_eq, List.sum_cons,
      Nat.mul_add, Nat.add_mul] at ih hq ⊢
    omega

theorem floors_sum_le {avail : Nat} {needs : List Nat} (h : avail < needs.sum) :
    (floors avail needs.sum needs).sum ≤ avail :=
  Nat.le_of_mul_le_mul_left (floors_sum_mul_le avail needs.sum needs) (by omega)

/-- The units lost to flooring are no more than the places below their need, so that one round hands them out (R150). -/
theorem lostUnits_le {avail : Nat} {needs : List Nat} (h : avail < needs.sum) :
    lostUnits avail needs ≤ (sharePlaces avail needs).countP belowNeed :=
  Nat.sub_le_iff_le_add'.2
    (Nat.le_of_mul_le_mul_left (sum_mul_le_floors_sum_add_countP h needs) (by omega))

/-! ### The share of one level -/

/-- A budget that does not hold the needs is given out to the last unit. -/
theorem shareOut_sum_of_short {avail : Nat} {needs : List Nat} (h : avail < needs.sum) :
    (shareOut avail needs).sum = avail := by
  rw [shareOut_of_short h, handOut_sum (lostUnits_le h), sharePlaces_map_fst]
  exact Nat.add_sub_cancel' (floors_sum_le h)

/-- One claimant's share of a budget that does not hold the needs: its floored proportion, and a unit more when it is below
its need and the claimants before it that are below theirs do not use up the lost units. -/
theorem shareOut_getD_of_short {avail : Nat} {needs : List Nat} (h : avail < needs.sum) {i : Nat} (hi : i < needs.length) :
    (shareOut avail needs).getD i 0 =
      if needs.getD i 0 * avail / needs.sum < needs.getD i 0 ∧ takersBefore avail needs i < lostUnits avail needs
      then needs.getD i 0 * avail / needs.sum + 1 else needs.getD i 0 * avail / needs.sum := by
  rw [shareOut_of_short h, List.getD_eq_getElem?_getD, handOut_getElem?, sharePlaces_getElem? avail hi]
  rfl

/-- Settles O21: `shareOut_of_fits` gives the share in full; of a short one, the sum and what each place receives. A unit at
place j means that the takers before j did not use up the lost units, so neither did those before an earlier place. -/
theorem shareOfALevel : Obligations.ShareOfALevel := by
  intro remaining needs got floorOf
  refine ⟨shareOut_length remaining needs, shareOut_of_fits, fun hshort => ?_⟩
  have share (i : Nat) (hi : i < needs.length) : got.getD i 0 =
      if floorOf i < needs.getD i 0 ∧ takersBefore remaining needs i < lostUnits remaining needs
      then floorOf i + 1 else floorOf i := shareOut_getD_of_short hshort hi
  refine ⟨shareOut_sum_of_short hshort, fun i hi => ?_, fun j hj hextra i hij hbelow => ?_⟩
  · have hfloor : floorOf i ≤ needs.getD i 0 := floor_le_need hshort.le
    rw [share i hi]
    split <;> omega
  · have hunits : takersBefore remaining needs j < lostUnits remaining needs := by
      by_contra hused
      rw [share j hj, if_neg fun h => hused h.2] at hextra
      exact lt_irrefl _ hextra
    have hmono := takersBefore_mono remaining needs hij.le
    rw [share i (hij.trans hj), if_pos ⟨hbelow, hmono.trans_lt hunits⟩]

end Sys2Proof.Machine
end

section
/-! Proofs for chapter 9: power-on reset (R186, R196). -/

namespace Sys2Proof.Machine

/-! ### The rows of the reset banks -/

/-- R196: all bytes 0 but for a CLAIM row, whose level of 15 stands in its first byte. -/
theorem TableId.resetRow_eq (t : TableId) :
    t.resetRow = if t = .claim then [15, 0, 0, 0, 0, 0] else List.replicate t.rowLength 0 := by
  cases t <;> rfl

@[simp] theorem Bank.reset_get (t : TableId) : Bank.reset.get t = t.resetRows := by cases t <;> rfl

theorem Bank.reset_row {t : TableId} {i : Nat} (hi : i < t.rowCount) : Bank.reset.row t i = t.resetRow := by
  simp [Bank.row, TableId.resetRows, hi]

/-! ### Power-on reset -/

theorem exec_powerOnReset (node : Fin 4) (rate : BitRate) (s : State) :
    exec (.powerOnReset node rate) s = .next (s.powerOn node rate) := rfl

@[simp] theorem State.powerOn_active (s : State) (node : Fin 4) (rate : BitRate) :
    (s.powerOn node rate).active = Bank.reset := rfl
@[simp] theorem State.powerOn_shadow (s : State) (node : Fin 4) (rate : BitRate) :
    (s.powerOn node rate).shadow = Bank.reset := rfl
@[simp] theorem State.powerOn_marks (s : State) (node : Fin 4) (rate : BitRate) :
    (s.powerOn node rate).marks = Vector.replicate 13 false := rfl

/-- Settles O4: the service engine's fields are those of `State.powerOn` as they stand, and both banks are `Bank.reset`. -/
theorem powerOnResetOfTheServiceEngine : Obligations.PowerOnResetOfTheServiceEngine := by
  intro node rate s
  refine ⟨s.powerOn node rate, exec_powerOnReset node rate s, rfl, rfl, rfl, rfl, rfl, rfl, fun i => ?marks,
    fun table i hi => ⟨?sameRow, ?resetRow⟩⟩
  case marks => simp
  case sameRow => rw [State.powerOn_active, State.powerOn_shadow]
  case resetRow => rw [State.powerOn_active, Bank.reset_row hi, TableId.resetRow_eq]

end Sys2Proof.Machine
end

section
/-! Proofs about every command: the two frames that spell commands (R206, R208), and how a property of the state is
carried over a step. -/

namespace Sys2Proof.Machine

/-! ### Answered requests -/

/-- A request's answer, or its refusal for want of room, keeps what an answer and a flag keep. -/
theorem withRoom_keeps {P : State → Prop} {s : State} {code n : Nat} {act : State → State}
    (hact : s.responses.length + n ≤ 16 → P (act s))
    (hbusy : s.responses.length < 16 → P (s.answer code .busy [])) (hdrop : P (s.raise .serviceDropped)) :
    P (s.withRoom code n act) := by
  unfold State.withRoom
  split
  · next h => exact hact h
  · split
    · next h => exact hbusy h
    · exact hdrop

/-! ### The commands that frames spell -/

/-- A service frame that spells a command acts as that command (R206). -/
theorem exec_requestCommand {data : List Byte} {c : Instr} (s : State) (h : requestCommand data = some c) :
    exec c s = .next (s.serviceFrame data) := by
  unfold requestCommand at h
  split at h <;> cases h <;> simp [State.serviceFrame, requestLength, State.carryOut] <;> rfl

/-- A request of a known code that has its length spells a command. -/
theorem requestCommand_isSome {b : Byte} {rest : List Byte} {n : Nat} (hn : requestLength b.toNat = some n)
    (hl : n ≤ (b :: rest).length) : (requestCommand (b :: rest)).isSome = true := by
  have hb : b = BitVec.ofNat 8 b.toNat := by simp
  have hk : b.toNat < 28 := by
    by_contra hk
    rw [requestLength, List.getD_eq_default _ _ (by simpa using hk)] at hn
    cases hn
  generalize b.toNat = k at hn hb hk
  subst hb
  interval_cases k <;> cases hn <;>
    rcases rest with _ | ⟨b1, _ | ⟨b2, _ | ⟨b3, _ | ⟨b4, _ | ⟨b5, _ | ⟨b6, rest⟩⟩⟩⟩⟩⟩ <;>
    first | rfl | simp at hl

theorem State.serviceFrame_unknown (s : State) {b : Byte} (rest : List Byte) (h : requestLength b.toNat = none) :
    s.serviceFrame (b :: rest) = s.formatUnknown b := by
  simp [State.serviceFrame, h]

/-- A request of a known code that spells no command is too short, and is answered FORMAT (R180). -/
theorem State.serviceFrame_short (s : State) {b : Byte} {rest : List Byte} {n : Nat}
    (hn : requestLength b.toNat = some n) (h : requestCommand (b :: rest) = none) :
    s.serviceFrame (b :: rest) = s.serveOne b.toNat fun t => (t, .format, t.formatContent b.toNat) := by
  have hl : (b :: rest).length < n := by
    by_contra hl
    have := requestCommand_isSome hn (not_lt.mp hl)
    rw [h] at this
    cases this
  simp only [State.serviceFrame, hn, if_pos hl]

@[simp] theorem Engine.report_length (free : Byte) (e : Engine) : (e.report free).length = 3 := by cases e <;> rfl

@[simp] theorem Engine.openReport_length (free : Byte) (e : Engine) : (e.openReport free).length = 2 := by cases e <;> rfl

@[simp] theorem State.overrideContent_length (s : State) (r : Report) : (s.overrideContent r).length = 6 := by
  simp [State.overrideContent, le16]

theorem State.formatContent_length (s : State) (code : Nat) : (s.formatContent code).length ≤ 6 := by
  unfold State.formatContent
  repeat' split
  all_goals simp

/-- A service frame that spells no command is answered FORMAT in one frame. -/
theorem State.serviceFrame_format (s : State) {data : List Byte} (h : requestCommand data = none) :
    ∃ (code : Nat) (content : State → List Byte), (∀ t, (content t).length ≤ 6)
      ∧ s.serviceFrame data = s.serveOne code fun t => (t, .format, content t) := by
  match data with
  | [] => exact ⟨0, fun _ => [0], fun _ => by simp, rfl⟩
  | b :: rest =>
    cases hn : requestLength b.toNat with
    | none => exact ⟨0, fun _ => [b], fun _ => by simp, s.serviceFrame_unknown rest hn⟩
    | some n =>
      exact ⟨b.toNat, fun t => t.formatContent b.toNat, fun t => t.formatContent_length _, s.serviceFrame_short hn h⟩

/-- A panel frame that spells a command acts as that command (R120). -/
theorem exec_panelCommand {f : Frame} {c : Instr} {s : State} (hu : s.sys.used = true)
    (hid : f.id.toNat = s.sys.panelRequestId) (h : panelCommand f.data = some c) :
    exec c s = .next (s.panelFrame f) := by
  unfold State.panelFrame
  rw [if_pos ⟨hu, hid⟩]
  generalize f.data = data at h
  unfold panelCommand at h
  split at h <;> cases h <;> rfl

/-- A panel frame of two bytes and more that spells no command is answered FORMAT, under the code 0 where its code is
unknown (R121). -/
theorem State.panelFrame_format {f : Frame} {s : State} (hu : s.sys.used = true)
    (hid : f.id.toNat = s.sys.panelRequestId) (h : panelCommand f.data = none) (hl : 2 ≤ f.data.length) :
    s.panelFrame f = s.offerAck
      (s.plainAck (if u8 f.data 0 ≤ 4 then u8 f.data 0 else 0) (f.data.getD 1 0) .format) := by
  unfold State.panelFrame
  rw [if_pos ⟨hu, hid⟩]
  generalize f.data = data at h hl
  match data, hl with
  | code :: tag :: rest, _ =>
    have hu8 : u8 (code :: tag :: rest) 0 = code.toNat := rfl
    have htag : (code :: tag :: rest).getD 1 0 = tag := rfl
    rw [hu8, htag]
    dsimp only
    have spelt (n : Byte) (hn : code.toNat = n.toNat) : panelCommand (n :: tag :: rest) = none := by
      rw [← BitVec.eq_of_toNat_eq hn]; exact h
    split
    case h_1 hc _ => exact absurd (spelt 1 hc) (by simp [panelCommand])
    case h_3 hc _ => exact absurd (spelt 2 hc) (by simp [panelCommand])
    case h_5 hc _ => exact absurd (spelt 3 hc) (by simp [panelCommand])
    case h_6 hc _ => exact absurd (spelt 4 hc) (by simp [panelCommand])
    case h_2 hc _ _ => simp [hc]
    case h_4 hc _ _ => simp [hc]
    case h_7 h1 h2 h3 h4 _ _ _ =>
      have h0 : (if code.toNat ≤ 4 then code.toNat else 0) = 0 := by
        simp only [imp_false] at h1 h2 h3 h4
        split <;> omega
      rw [h0]

theorem State.panelFrame_ignored {f : Frame} {s : State}
    (h : s.sys.used = false ∨ f.id.toNat ≠ s.sys.panelRequestId ∨ f.data.length < 2) : s.panelFrame f = s := by
  unfold State.panelFrame
  split
  · next hf =>
    rcases h with h | h | h
    · simp [h] at hf
    · exact absurd hf.2 h
    · match hd : f.data, h with
      | [], _ => rfl
      | [_], _ => rfl
      | _ :: _ :: _, h => simp at h
  · rfl

/-! ### What a step keeps -/

/-- Every field but the ports with their queues and answers, the slots, the channels with their sources, the marks, the
mark level, the bit rate, the flags and the hand-overs. -/
def State.SameCore (s t : State) : Prop :=
  t.part = s.part ∧ t.node = s.node ∧ t.active = s.active ∧ t.shadow = s.shadow ∧ t.engine = s.engine
    ∧ t.zones = s.zones ∧ t.coolers = s.coolers ∧ t.doors = s.doors ∧ t.groupMask = s.groupMask ∧ t.loads = s.loads
    ∧ t.screen = s.screen ∧ t.overrides = s.overrides ∧ t.alloc = s.alloc ∧ t.pending = s.pending

/-- A property that reads nothing outside the fields of `State.SameCore`. -/
def ReadsCore (P : State → Prop) : Prop := ∀ ⦃s t : State⦄, s.SameCore t → P s → P t

/-- `P` holds of the state that an outcome answers, if it answers one. -/
def Leads (P : State → Prop) (o : Host.Outcome State Fault Refusal) : Prop := ∀ t, o = .next t → P t

@[simp] theorem leads_next {P : State → Prop} {t : State} : Leads P (.next t) ↔ P t :=
  ⟨fun h => h t rfl, fun h u e => by cases e; exact h⟩

theorem leads_reply {P : State → Prop} {s : State} {id : CanId} {data : List Byte} (h : P (s.takeReply id data)) :
    Leads P (exec (.reply id data) s) := by
  change Leads P (if data.length ≤ 8 then .next (s.takeReply id data) else .refused .notACanFrame)
  split
  · exact leads_next.mpr h
  · intro t e; cases e

/-- What is kept where a request finds no room, and by its answer. -/
theorem serveOne_keeps {P : State → Prop} (hP : ReadsCore P) {s : State} (code : Nat)
    {f : State → State × Result × List Byte} (hs : P s) (hf : P (f s).1) : P (s.serveOne code f) :=
  withRoom_keeps (fun _ => hP (by simp [State.SameCore]) hf) (fun _ => hP (by simp [State.SameCore]) hs)
    (hP (by simp [State.SameCore]) hs)

theorem serveRead_keeps {P : State → Prop} (hP : ReadsCore P) {s : State} (code : Nat) (content : Option (List Byte))
    (hs : P s) : P (s.serveRead code content) :=
  hP (by simp [State.SameCore]) hs

/-- Whether a command is the arrival of a frame. -/
def isArrival : Instr → Bool
  | .frameArrival _ _ => true
  | _ => false

theorem isArrival_requestCommand {data : List Byte} {c : Instr} (h : requestCommand data = some c) :
    isArrival c = false := by
  unfold requestCommand at h
  split at h <;> cases h <;> rfl

theorem isArrival_panelCommand {data : List Byte} {c : Instr} (h : panelCommand data = some c) :
    isArrival c = false := by
  unfold panelCommand at h
  split at h <;> cases h <;> rfl

theorem serviceFrame_keeps {P : State → Prop} (hP : ReadsCore P) {s : State} (data : List Byte) (hs : P s)
    (hc : ∀ c, isArrival c = false → Leads P (exec c s)) : P (s.serviceFrame data) := by
  cases h : requestCommand data with
  | some c => exact hc c (isArrival_requestCommand h) _ (exec_requestCommand s h)
  | none =>
    obtain ⟨code, content, _, hf⟩ := s.serviceFrame_format h
    rw [hf]
    exact serveOne_keeps hP code hs hs

theorem panelFrame_keeps {P : State → Prop} (hP : ReadsCore P) {s : State} (f : Frame) (hs : P s)
    (hc : ∀ c, isArrival c = false → Leads P (exec c s)) : P (s.panelFrame f) := by
  by_cases hi : s.sys.used = false ∨ f.id.toNat ≠ s.sys.panelRequestId ∨ f.data.length < 2
  · rw [State.panelFrame_ignored hi]
    exact hs
  · simp only [not_or, Bool.not_eq_false, not_not, not_lt] at hi
    obtain ⟨hu, hid, hl⟩ := hi
    cases h : panelCommand f.data with
    | some c => exact hc c (isArrival_panelCommand h) _ (exec_panelCommand hu hid h)
    | none =>
      rw [State.panelFrame_format hu hid h hl]
      exact hP (by simp [State.SameCore]) hs

theorem hit_keeps {P : State → Prop} (hP : ReadsCore P) {s : State} (r : FrameRow) (f : Frame) (hs : P s)
    (hc : ∀ c, isArrival c = false → Leads P (exec c s)) : P (s.hit r f) := by
  unfold State.hit
  split
  · exact foldl_invariant P _ _ s (fun t fld => hP (by simp [State.SameCore])) hs
  · exact panelFrame_keeps hP f hs hc
  · exact hP (by simp [State.SameCore]) hs
  · exact hs
  · exact hs

/-- The arrival of a frame keeps what the commands that frames spell keep. -/
theorem frameArrival_keeps {P : State → Prop} (hP : ReadsCore P) {s : State} (p : PortName) (f : Frame) (hs : P s)
    (hc : ∀ c, isArrival c = false → Leads P (exec c s)) : Leads P (exec (.frameArrival p f) s) := by
  have hcopy (t : State) (b : Bool) (ht : P t) : P (if b then t.offerForward (otherPort p) f else t) := by
    split
    · exact hP (by simp [State.SameCore]) ht
    · exact ht
  have hclassify : P (s.classify p f) := by
    unfold State.classify
    cases s.lookup p f.id with
    | none => exact hcopy _ _ hs
    | some i => exact hcopy _ _ (hit_keeps hP _ f hs hc)
  have harrive : P (s.arrive p f) := by
    unfold State.arrive
    split
    · exact hs
    · split
      · exact serviceFrame_keeps hP f.data hs hc
      · exact hclassify
  change Leads P (if f.data.length ≤ 8 then .next (s.arrive p f) else .refused .notACanFrame)
  split
  · exact leads_next.mpr harrive
  · intro t h; cases h

/-- A property of the core that every command but an arrival keeps is kept by every command. -/
theorem exec_keeps {P : State → Prop} (hP : ReadsCore P)
    (hc : ∀ c s, isArrival c = false → P s → Leads P (exec c s)) (c : Instr) (s : State) (hs : P s) :
    Leads P (exec c s) := by
  cases h : isArrival c with
  | false => exact hc c s h hs
  | true =>
    cases c <;> cases h
    exact frameArrival_keeps hP _ _ hs fun c h => hc c s h hs

/-- What every command and the passing of one ms keep, whatever waits in the queue, every step keeps. -/
theorem step_keeps {P : State → Prop} (hc : ∀ c s, P s → Leads P (exec c s))
    (hq : ∀ s rest, P s → P { s with pending := rest }) (hms : ∀ s : State, P s → P s.passMs)
    {s t : State} (h : step s = .next t) (hs : P s) : P t := by
  unfold step State.advance at h
  split at h
  · exact hc _ _ (hq s _ hs) t h
  · split at h
    · exact hc _ _ hs t h
    · split at h
      · exact hc _ _ hs t h
      · cases h; exact hms s hs

end Sys2Proof.Machine
end

section
/-! Proofs about chapter 9: what a service request keeps, given what the part's answer to it keeps. -/

namespace Sys2Proof.Machine

/-! ### Load requests -/

/-- What a request that only IDLE carries out leaves: its refusal, the halt, or its own outcome. -/
theorem whenIdle_cases {Q : LoadOutcome → Prop} {s : State} {f : State → LoadOutcome} (hs : Q (s, .halted, []))
    (hhalt : Q (s.haltWith .sequence)) (hf : s.engine = .idle → Q (f s)) : Q (s.whenIdle f) := by
  unfold State.whenIdle
  split
  · next h => exact hf h
  · exact hhalt
  · exact hs

/-- The same for a request that only ASSEMBLING carries out. -/
theorem whenAssembling_cases {Q : LoadOutcome → Prop} {s : State} {f : OpenRow → LoadOutcome} (hs : Q (s, .halted, []))
    (hhalt : Q (s.haltWith .sequence)) (hf : ∀ o, s.engine = .assembling o → Q (f o)) : Q (s.whenAssembling f) := by
  unfold State.whenAssembling
  split
  · exact hhalt
  · next o h => exact hf o h
  · exact hs

theorem withTable_cases {Q : LoadOutcome → Prop} {s : State} {table : Byte} {f : TableId → LoadOutcome}
    (hs : Q (s, .range, [])) (hf : ∀ t, Q (f t)) : Q (s.withTable table f) := by
  unfold State.withTable
  split
  · exact hf _
  · exact hs

section
variable {P : State → Prop} {s : State} (hs : P s)
include hs

theorem whenIdle_keeps {f : State → LoadOutcome} (hhalt : P (s.halt .sequence))
    (hf : s.engine = .idle → P (f s).1) : P (s.whenIdle f).1 :=
  whenIdle_cases (Q := fun r => P r.1) hs hhalt hf

theorem whenAssembling_keeps {f : OpenRow → LoadOutcome} (hhalt : P (s.halt .sequence))
    (hf : ∀ o, s.engine = .assembling o → P (f o).1) : P (s.whenAssembling f).1 :=
  whenAssembling_cases (Q := fun r => P r.1) hs hhalt hf

theorem withTable_keeps {table : Byte} {f : TableId → LoadOutcome} (hf : ∀ t, P (f t).1) :
    P (s.withTable table f).1 :=
  withTable_cases (Q := fun r => P r.1) hs hf

end

theorem serveLoad_keeps {P : State → Prop} (hP : ReadsCore P) {s : State} (code : Nat) {f : State → LoadOutcome}
    (hs : P s) (hf : P (f s).1) : P (s.serveLoad code f) :=
  serveOne_keeps hP code hs hf

theorem assemblyExpiry_keeps {P : State → Prop} {s : State} (hs : P s) (hhalt : P (s.halt .timeout)) :
    P s.assemblyExpiry := by
  unfold State.assemblyExpiry
  split
  · exact hhalt
  · exact hs

/-! ### A request to another block, and the rest of the commands -/

/-- Whether a command is neither a service request nor a panel request nor the arrival of a frame: the events of the
blocks themselves. -/
def isEvent : Instr → Bool
  | .frameArrival _ _ | .identify | .status | .rowOpen _ _ | .rowData _ _ _ _ _ _ | .rowClose | .rowClear _ _ | .commit _
  | .abandon _ | .loadResume | .readRow _ _ _ | .readSlot _ | .readZone _ | .readDoor _ | .readSection _ | .readClaim _
  | .readChannel _ | .start | .stop | .restart | .clearPending _ | .maskDoors _ | .unmaskDoors _ | .armTerminus _
  | .disarmTerminus _ | .loadSet _ _ | .overrideSet _ _ _ _ | .overrideRelease _ _ => false
  | _ => true

/-- What a property of the core must withstand for the service requests to keep it: the load engine with the shadow bank,
a valid commit, the three changes of the part state, and the requests to the blocks. -/
structure KeptByRequests (P : State → Prop) : Prop where
  core : ReadsCore P
  load : ∀ (s : State) (engine : Engine) (shadow : Bank), P s → P { s with engine := engine, shadow := shadow }
  commit : ∀ (s : State) (t : TableId), P s → P (s.commitTable t)
  start : ∀ s : State, s.part = .standby → P s → P s.startPart
  stop : ∀ s : State, P s → P s.stopPart
  restart : ∀ s : State, P s → P s.restartPart
  clear : ∀ (s : State) (d : Fin 8), P s → P (s.clearLatch d)
  mask : ∀ (s : State) (on : Bool) (d : Fin 8), P s → P (s.setServiceMask on d)
  arm : ∀ (s : State) (armed : Bool) (k : Fin 3), P s → P (s.setArm armed k)
  loadSet : ∀ (s : State) (k : Fin 3) (n : Nat), n ≤ s.capacityOf k → P s → P (s.loadSet k n)
  set : ∀ (s : State) (kind target : Byte) (v : BitVec 16) (d : Byte) (o : Origin), P s →
    P (s.setOverride kind target v d o).1
  release : ∀ (s : State) (kind target : Byte), P s → P (s.releaseOverride kind target).1

section
variable {P : State → Prop} (K : KeptByRequests P) {s : State} (hs : P s)
include K hs

theorem KeptByRequests.shadow (engine : Engine) (shadow : Bank) (marks : Vector Bool 13) :
    P { s with engine := engine, shadow := shadow, marks := marks } :=
  K.core (s := { s with engine := engine, shadow := shadow }) (by simp [State.SameCore]) (K.load s engine shadow hs)

theorem KeptByRequests.halt (h : HaltCode) : P (s.halt h) :=
  K.core (s := { s with engine := .halted h, shadow := s.shadow }) (by simp [State.SameCore, State.halt])
    (K.load s _ _ hs)

theorem KeptByRequests.openRow (table row : Byte) : P (s.openRow table row).1 :=
  whenIdle_keeps hs (K.halt hs _) fun _ => withTable_keeps hs fun t => by
    split
    · exact K.load s _ s.shadow hs
    · exact hs

theorem KeptByRequests.placeData (bytes : List Byte) : P (s.placeData bytes).1 :=
  whenAssembling_keeps hs (K.halt hs _) fun o _ => by
    split
    · exact K.load s _ s.shadow hs
    · exact K.halt hs _

theorem KeptByRequests.closeRow : P s.closeRow.1 :=
  whenAssembling_keeps hs (K.halt hs _) fun o _ => by
    split
    · exact K.halt hs _
    · split
      · exact K.shadow hs _ _ _
      · exact K.halt hs _

theorem KeptByRequests.clearRow (table row : Byte) : P (s.clearRow table row).1 :=
  whenIdle_keeps hs (K.halt hs _) fun _ => withTable_keeps hs fun t => by
    split
    · exact K.shadow hs s.engine _ _
    · split
      · exact K.shadow hs s.engine _ _
      · exact hs

theorem KeptByRequests.commitBank (table : Byte) : P (s.commitBank table).1 :=
  whenIdle_keeps hs (K.halt hs _) fun _ => withTable_keeps hs fun t => by
    split
    · exact hs
    · exact K.commit s t hs

theorem KeptByRequests.abandonBank (table : Byte) : P (s.abandonBank table).1 :=
  whenIdle_keeps hs (K.halt hs _) fun _ => withTable_keeps hs fun _ => K.shadow hs s.engine _ _

theorem KeptByRequests.resumeLoad : P s.resumeLoad.1 := by
  unfold State.resumeLoad
  split
  · exact K.load s .idle s.shadow hs
  · exact hs

theorem KeptByRequests.startRequest : P s.reqStart :=
  serveOne_keeps K.core 16 hs (by
    split
    · exact hs
    · next h =>
      split
      · exact K.start s (by cases hp : s.part <;> simp_all) hs
      · exact hs)

theorem KeptByRequests.stopRequest : P s.reqStop :=
  serveOne_keeps K.core 17 hs (by
    split
    · exact K.stop s hs
    · exact hs)

theorem KeptByRequests.loadSetRequest (sec count : Byte) : P (s.reqLoadSet sec count) :=
  serveOne_keeps K.core 25 hs (by
    split
    · split
      · next h => exact K.loadSet s _ _ h hs
      · exact hs
    · exact hs)

/-- Every service request, sent as a command, keeps the property. -/
theorem KeptByRequests.exec {c : Instr} (hc : isEvent c = false) (ha : isArrival c = false) : Leads P (exec c s) := by
  have hread (code : Nat) (content : Option (List Byte)) : Leads P (.next (s.serveRead code content)) :=
    leads_next.mpr (serveRead_keeps K.core code content hs)
  have hload (code : Nat) {f : State → LoadOutcome} (hf : P (f s).1) : Leads P (.next (s.serveLoad code f)) :=
    leads_next.mpr (serveLoad_keeps K.core code hs hf)
  have hone (code : Nat) {f : State → State × Result × List Byte} (hf : P (f s).1) :
      Leads P (.next (s.serveOne code f)) := leads_next.mpr (serveOne_keeps K.core code hs hf)
  cases c with
  | identify => exact hread _ _
  | status =>
    exact leads_next.mpr (withRoom_keeps (fun _ => K.core (by simp [State.SameCore]) hs)
      (fun _ => K.core (by simp [State.SameCore]) hs) (K.core (by simp [State.SameCore]) hs))
  | rowOpen table row => exact hload _ (K.openRow hs table row)
  | rowData b0 b1 b2 b3 b4 b5 => exact hload _ (K.placeData hs _)
  | rowClose => exact hload _ (K.closeRow hs)
  | rowClear table row => exact hload _ (K.clearRow hs table row)
  | commit table => exact hload _ (K.commitBank hs table)
  | abandon table => exact hload _ (K.abandonBank hs table)
  | loadResume => exact hload _ (K.resumeLoad hs)
  | readRow | readSlot | readZone | readDoor | readSection | readClaim | readChannel => exact hread _ _
  | start => exact leads_next.mpr (K.startRequest hs)
  | stop => exact leads_next.mpr (K.stopRequest hs)
  | restart => exact leads_next.mpr (K.core (by simp [State.SameCore, State.reqRestart]) (K.restart s hs))
  | clearPending doors => exact hone _ (foldl_invariant P _ _ s (fun t d => K.clear t d) hs)
  | maskDoors doors => exact hone _ (foldl_invariant P _ _ s (fun t d => K.mask t true d) hs)
  | unmaskDoors doors => exact hone _ (foldl_invariant P _ _ s (fun t d => K.mask t false d) hs)
  | armTerminus sections => exact hone _ (foldl_invariant P _ _ s (fun t k => K.arm t true k) hs)
  | disarmTerminus sections => exact hone _ (foldl_invariant P _ _ s (fun t k => K.arm t false k) hs)
  | loadSet sec count => exact leads_next.mpr (K.loadSetRequest hs sec count)
  | overrideSet kind target v d => exact hone _ (K.set s kind target v d .service hs)
  | overrideRelease kind target => exact hone _ (K.release s kind target hs)
  | frameArrival => cases ha
  | _ => cases hc

end

/-- What the requests and the blocks' own events keep, every command keeps. -/
theorem KeptByRequests.commands {P : State → Prop} (K : KeptByRequests P)
    (he : ∀ c s, isEvent c = true → P s → Leads P (Machine.exec c s)) (c : Instr) (s : State) (hs : P s) :
    Leads P (Machine.exec c s) := by
  refine exec_keeps K.core (fun c s ha hs => ?_) c s hs
  cases h : isEvent c with
  | false => exact K.exec hs h ha
  | true => exact he c s h hs

end Sys2Proof.Machine
end

section
/-! Proofs for chapter 6: every command keeps the override table within its bounds (R117, R118). -/

namespace Sys2Proof.Machine

/-! ### The override table -/

/-- The condition of `State.overridesKept`, on the override unit alone. -/
def Overrides.kept (o : Overrides) : Prop :=
  o.table.length ≤ 16 ∧ (o.table.map fun r => (r.kind, r.target)).Nodup ∧ o.seq < 256

theorem State.overridesKept_iff (s : State) : s.overridesKept ↔ s.overrides.kept := Iff.rfl

theorem Overrides.nextSeq_lt (o : Overrides) : o.nextSeq < 256 := Nat.mod_lt _ (by decide)

/-- The table of a kept unit with some records gone. -/
theorem Overrides.kept_filter {o : Overrides} (h : o.kept) (p : Record → Bool) {n : Nat} (hn : n < 256) :
    ({ o with table := o.table.filter p, seq := n } : Overrides).kept := by
  obtain ⟨hlen, hkeys, _⟩ := h
  exact ⟨(List.length_filter_le _ _).trans hlen, (List.filter_sublist.map _).nodup hkeys, hn⟩

/-- A table whose records keep their keys. -/
theorem Overrides.kept_map {o : Overrides} (h : o.kept) (f : Record → Record)
    (hf : ∀ r, ((f r).kind, (f r).target) = (r.kind, r.target)) {n : Nat} (hn : n < 256) :
    ({ o with table := o.table.map f, seq := n } : Overrides).kept := by
  obtain ⟨hlen, hkeys, _⟩ := h
  refine ⟨by simpa using hlen, ?_, hn⟩
  have : (o.table.map f).map (fun r => (r.kind, r.target)) = o.table.map fun r => (r.kind, r.target) := by
    rw [List.map_map]
    exact List.map_congr_left fun r _ => hf r
  simpa only [this] using hkeys

/-- A record joins a table that has room and none of its key. -/
theorem Overrides.kept_append {o : Overrides} (h : o.kept) (r : Record) (hroom : o.table.length < 16)
    (hnew : o.find r.kind r.target = none) {n : Nat} (hn : n < 256) :
    ({ o with table := o.table ++ [r], seq := n } : Overrides).kept := by
  obtain ⟨_, hkeys, _⟩ := h
  refine ⟨by simpa using hroom, ?_, hn⟩
  rw [List.map_append, List.nodup_append]
  refine ⟨hkeys, by simp, fun a ha b hb => ?_⟩
  obtain ⟨x, hx, rfl⟩ := List.mem_map.mp ha
  obtain rfl : b = (r.kind, r.target) := by simpa using hb
  intro he
  obtain ⟨hk, ht⟩ := Prod.mk.inj he
  exact List.find?_eq_none.mp hnew x hx (by simp [Record.hasKey, hk, ht])

theorem State.removeRecords_kept {s : State} (h : s.overridesKept) (gone : Record → Bool) :
    (s.removeRecords gone).overridesKept := by
  unfold State.removeRecords
  split
  · exact Overrides.kept_filter h _ s.overrides.nextSeq_lt
  · exact h

theorem State.enterRecord_kept {s : State} (h : s.overridesKept) (kind : OverrideKind) (target : Target) (v : Int)
    (d : Nat) (o : Origin) : (s.enterRecord kind target v d o).1.overridesKept := by
  unfold State.enterRecord
  dsimp only
  split
  · refine Overrides.kept_map h _ (fun r => ?_) s.overrides.nextSeq_lt
    split
    · next hr => 
      simp only [Record.hasKey, Bool.and_eq_true, beq_iff_eq] at hr
      rw [hr.1, hr.2]
    · rfl
  · next hf =>
    split
    · next hl => exact Overrides.kept_append h _ hl (Option.not_isSome_iff_eq_none.mp hf) s.overrides.nextSeq_lt
    · exact h

theorem State.setOverride_kept {s : State} (h : s.overridesKept) (kind target : Byte) (v : BitVec 16) (d : Byte)
    (o : Origin) : (s.setOverride kind target v d o).1.overridesKept := by
  unfold State.setOverride
  repeat' split
  all_goals first | exact h | exact State.enterRecord_kept h ..

theorem State.releaseOverride_kept {s : State} (h : s.overridesKept) (kind target : Byte) :
    (s.releaseOverride kind target).1.overridesKept := by
  unfold State.releaseOverride
  repeat' split
  all_goals first | exact h | exact State.removeRecords_kept h _

/-- Whatever leaves the override unit as it is keeps its bounds. -/
theorem overridesKept_of_same {s t : State} (h : s.overridesKept) (ht : t.overrides = s.overrides) :
    t.overridesKept := by
  rw [State.overridesKept_iff, ht]
  exact h

theorem Overrides.kept_reset : Overrides.reset.kept := ⟨by decide, by decide, by decide⟩

theorem State.emptyTable_kept {s : State} (h : s.overridesKept) : s.emptyTable.overridesKept := by
  refine ⟨Nat.zero_le _, List.nodup_nil, ?_⟩
  change (if s.overrides.table = [] then s.overrides.seq else s.overrides.nextSeq) < 256
  split
  · exact h.2.2
  · exact s.overrides.nextSeq_lt

theorem State.stopPart_overridesKept {s : State} (h : s.overridesKept) : s.stopPart.overridesKept :=
  overridesKept_of_same (s := State.emptyTable (State.stopScreen (State.stopDoors (State.stopCoolers (State.stopZones
      { s with part := .standby }))))) (State.emptyTable_kept (overridesKept_of_same h (by simp))) (by simp [State.stopPart])

theorem overridesKept_readsCore : ReadsCore State.overridesKept := by
  rintro s t ⟨_, _, _, _, _, _, _, _, _, _, _, ho, _, _⟩ h
  exact overridesKept_of_same h ho

theorem State.panelExpiry_kept {s : State} (h : s.overridesKept) : s.panelExpiry.overridesKept := by
  unfold State.panelExpiry
  dsimp only
  split
  · exact h
  · split
    · exact overridesKept_of_same (State.removeRecords_kept (s := { s with overrides := { s.overrides with present := false, panelTimer := none } }) h _) rfl
    · exact h

theorem State.statusExpiry_kept {s : State} (h : s.overridesKept) : s.statusExpiry.overridesKept := by
  have again : State.overridesKept { s with overrides := { s.overrides with statusTimer := some 1000 } } := h
  unfold State.statusExpiry
  dsimp only
  repeat' split
  · exact h
  · exact overridesKept_of_same again (by simp)
  · exact again

theorem State.passMs_overridesKept {s : State} (h : s.overridesKept) : s.passMs.overridesKept := by
  change (s.overrides.tick _).kept
  unfold Overrides.tick
  split
  · exact Overrides.kept_map h (fun r => { r with remaining := Timer.tick r.remaining }) (fun _ => rfl) h.2.2
  · exact h

theorem overridesKept_requests : KeptByRequests State.overridesKept where
  core := overridesKept_readsCore
  load _ _ _ h := h
  commit s t h := overridesKept_of_same h (by simp)
  start s _ h := overridesKept_of_same (s := { s with overrides := { s.overrides with statusTimer := seconds 1 } }) h
    (by simp [State.startPart, State.startOverrides])
  stop s h := State.stopPart_overridesKept h
  restart s h := overridesKept_of_same (s := State.reset) Overrides.kept_reset (by simp [State.restartPart]; rfl)
  clear s d h := overridesKept_of_same h (by simp)
  mask s on d h := overridesKept_of_same h (by simp)
  arm s armed k h := overridesKept_of_same h (by simp)
  loadSet s k n _ h := overridesKept_of_same h (by simp [State.loadSet])
  set s kind target v d o h := State.setOverride_kept h kind target v d o
  release s kind target h := State.releaseOverride_kept h kind target

theorem exec_overridesKept (c : Instr) (s : State) (h : s.overridesKept) : Leads State.overridesKept (exec c s) := by
  refine overridesKept_requests.commands (fun c s he h => ?_) c s h
  have alive : s.panelAlive.overridesKept := h
  cases c with
  | powerOnReset node rate => exact leads_next.mpr Overrides.kept_reset
  | set tag kind target v d =>
    refine leads_next.mpr ?_
    unfold State.panelSet
    split
    · exact overridesKept_of_same (State.setOverride_kept alive kind target v d .panel) (by simp)
    · exact h
  | release tag kind target =>
    refine leads_next.mpr ?_
    unfold State.panelRelease
    split
    · exact overridesKept_of_same (State.releaseOverride_kept alive kind target) (by simp)
    · exact h
  | heartbeat tag =>
    refine leads_next.mpr ?_
    unfold State.panelHeartbeat
    split
    · exact overridesKept_of_same alive (by simp)
    · exact h
  | tripEnd tag =>
    refine leads_next.mpr ?_
    unfold State.panelTripEnd
    dsimp only
    repeat' split
    · exact overridesKept_of_same alive (by simp)
    · exact overridesKept_of_same alive (by simp)
    · exact h
  | recordExpiry kind target =>
    refine leads_next.mpr ?_
    unfold State.recordExpiry
    split
    · exact State.removeRecords_kept h _
    · exact h
  | panelTimerExpiry => exact leads_next.mpr (State.panelExpiry_kept h)
  | statusTimerExpiry => exact leads_next.mpr (State.statusExpiry_kept h)
  | reply id data => exact leads_reply (overridesKept_of_same h (by simp))
  | _ => first | (cases he; done) | exact leads_next.mpr (overridesKept_of_same h (by simp [apply_ite State.overrides]))

/-- Every step keeps the override table within its bounds. -/
theorem step_overridesKept {s t : State} (h : step s = .next t) (hs : s.overridesKept) : t.overridesKept :=
  step_keeps exec_overridesKept (fun _ _ h => h) (fun _ h => State.passMs_overridesKept h) h hs

end Sys2Proof.Machine
end

section
/-! Proofs for chapter 4: every command keeps the section counts within their capacities (R83). -/

namespace Sys2Proof.Machine

/-! ### Section records -/

@[simp] theorem Load.applyBand_count (l : Load) (band : Option Nat) : (l.applyBand band).count = l.count := rfl

@[simp] theorem Load.lookup_count (l : Load) (band : Option Nat) (dwell : Nat) : (l.lookup band dwell).count = l.count := by
  unfold Load.lookup
  repeat' split
  all_goals rfl

/-- A count event's result is within the capacity (R85). -/
theorem Load.counted_count_le (l : Load) (result : Int) (capacity : Nat) :
    (l.counted result capacity).count ≤ capacity := by
  unfold Load.counted
  split
  · exact le_refl _
  · split
    · exact Nat.zero_le _
    · change result.toNat ≤ capacity
      omega

/-! ### The counts -/

theorem State.capacityOf_congr {s t : State} (h : t.active = s.active) : t.capacityOf = s.capacityOf := by
  have hsys : t.sys = s.sys := by simp only [State.sys, h]
  funext k
  unfold State.capacityOf
  rw [hsys]

theorem countsKept_of_same {s t : State} (h : s.countsKept) (hl : t.loads = s.loads) (ha : t.active = s.active) :
    t.countsKept := by
  intro k
  simp only [State.capacityOf_congr ha, hl]
  exact h k

/-- A record replaced by one within the capacity. -/
theorem State.setLoad_countsKept {s : State} (h : s.countsKept) {k : Fin 3} {x : Load} (hx : x.count ≤ s.capacityOf k) :
    (s.setLoad k x).countsKept := by
  intro j
  change (s.loads.set k x)[j].count ≤ s.capacityOf j
  by_cases hj : k = j
  · subst hj
    simpa using hx
  · have hne : k.val ≠ j.val := fun e => hj (Fin.ext e)
    simpa [Vector.getElem_set_ne _ _ hne] using h j

theorem State.countEvent_countsKept {s : State} (h : s.countsKept) (k : Fin 3) (change : Int) :
    (s.countEvent k change).countsKept :=
  countsKept_of_same
    (s := s.setLoad k ((s.loads[k].counted (s.loads[k].count + change) (s.capacityOf k)).lookup
      (s.bandOf (s.loads[k].counted (s.loads[k].count + change) (s.capacityOf k)).count) s.bandDwell))
    (State.setLoad_countsKept h (by rw [Load.lookup_count]; exact Load.counted_count_le _ _ _))
    (by simp [State.countEvent]) (by simp [State.countEvent])

theorem State.terminusReset_countsKept {s : State} (h : s.countsKept) (k : Fin 3) : (s.terminusReset k).countsKept :=
  State.setLoad_countsKept h (Nat.zero_le _)

theorem State.setArm_countsKept {s : State} (h : s.countsKept) (armed : Bool) (k : Fin 3) :
    (s.setArm armed k).countsKept :=
  State.setLoad_countsKept h (h k)

theorem State.armAll_countsKept {s : State} (h : s.countsKept) : s.armAll.countsKept :=
  forEach_invariant State.countsKept _ s (fun k _ ht => State.setArm_countsKept ht true k) h

theorem State.terminusMark_countsKept {s : State} (h : s.countsKept) (n : SlotNote) : (s.terminusMark n).countsKept :=
  forEach_invariant State.countsKept _ _ (fun k t ht => by
    split
    · exact State.terminusReset_countsKept ht k
    · exact ht) (countsKept_of_same h rfl rfl)

theorem State.dwellExpiry_countsKept {s : State} (h : s.countsKept) (k : Fin 3) : (s.dwellExpiry k).countsKept := by
  unfold State.dwellExpiry
  split
  · exact State.setLoad_countsKept h (h k)
  · exact h

theorem State.commitBand_countsKept {s : State} (h : s.countsKept) : s.commitBand.countsKept :=
  forEach_invariant State.countsKept _ s (fun k _ ht => State.setLoad_countsKept ht (ht k)) h

/-! ### A SYSTEM commit clamps the counts (R96) -/

/-- The clamp of one section. -/
def State.clampLoad (s : State) (k : Fin 3) : State :=
  if s.capacityOf k < s.loads[k].count then s.countEvent k 0 else s

theorem State.clampLoads_eq (s : State) : s.clampLoads = ((s.clampLoad 0).clampLoad 1).clampLoad 2 := rfl

@[simp] theorem State.clampLoad_active (s : State) (k : Fin 3) : (s.clampLoad k).active = s.active := by
  unfold State.clampLoad
  split <;> simp

theorem State.clampLoad_self (s : State) (k : Fin 3) : (s.clampLoad k).loads[k].count ≤ s.capacityOf k := by
  unfold State.clampLoad
  split
  · simp only [State.countEvent, State.raiseIf_frame, State.setLoad_loads, Fin.getElem_fin, Vector.getElem_set_self,
      Load.lookup_count]
    exact Load.counted_count_le _ _ _
  · omega

theorem State.clampLoad_ne (s : State) {k j : Fin 3} (h : k ≠ j) : (s.clampLoad k).loads[j] = s.loads[j] := by
  have hne : k.val ≠ j.val := fun e => h (Fin.ext e)
  unfold State.clampLoad
  split
  · simp [State.countEvent, Vector.getElem_set_ne _ _ hne]
  · rfl

/-- Whatever the counts before, they are within the capacities after the clamp. -/
theorem State.clampLoads_countsKept (s : State) : s.clampLoads.countsKept := by
  have hcap (t : State) (k : Fin 3) : (t.clampLoad k).capacityOf = t.capacityOf := State.capacityOf_congr (by simp)
  intro k
  simp only [State.clampLoads_eq, hcap]
  match k with
  | 0 =>
    rw [State.clampLoad_ne _ (by decide), State.clampLoad_ne _ (by decide)]
    exact s.clampLoad_self 0
  | 1 =>
    rw [State.clampLoad_ne _ (by decide)]
    exact (hcap s 0 ▸ (s.clampLoad 0).clampLoad_self 1)
  | 2 => exact (hcap s 0 ▸ hcap (s.clampLoad 0) 1 ▸ ((s.clampLoad 0).clampLoad 1).clampLoad_self 2)

theorem State.systemLoad_loads (old s : State) : (old.systemLoad s).loads = s.clampLoads.loads := by
  unfold State.systemLoad
  dsimp only
  split <;> rfl

theorem State.commitSystem_countsKept (old s : State) : (old.commitSystem s).countsKept :=
  countsKept_of_same (State.clampLoads_countsKept s) (by simp [State.commitSystem, State.systemLoad_loads])
    (by simp [State.commitSystem])

theorem State.installBank_capacityOf (s : State) {t : TableId} (h : t ≠ .system) :
    (s.installBank t).capacityOf = s.capacityOf := by
  have hrow : (s.installBank t).sys = s.sys := by
    cases t <;> first | rfl | exact absurd rfl h
  funext k
  unfold State.capacityOf
  rw [hrow]

theorem State.commitTable_countsKept {s : State} (h : s.countsKept) (t : TableId) : (s.commitTable t).countsKept := by
  have hn : t ≠ .system → (s.installBank t).countsKept := fun ht k => by
    rw [s.installBank_capacityOf ht]
    exact h k
  cases t with
  | system => exact State.commitSystem_countsKept s _
  | band => exact State.commitBand_countsKept (hn (by decide))
  | _ => exact countsKept_of_same (hn (by decide)) (by simp [State.commitTable]) (by simp [State.commitTable])

/-! ### The commands -/

theorem countsKept_readsCore : ReadsCore State.countsKept := by
  rintro s t ⟨_, _, ha, _, _, _, _, _, _, hl, _, _, _, _⟩ h
  exact countsKept_of_same h hl ha

/-- With every count 0, all are within the capacities. -/
theorem countsKept_of_zero {s : State} (h : ∀ k : Fin 3, s.loads[k].count = 0) : s.countsKept := fun k => by
  rw [h k]
  exact Nat.zero_le _

theorem State.restartLoads_count (s : State) (h : ∀ k : Fin 3, s.loads[k].count = 0) (k : Fin 3) :
    s.restartLoads.loads[k].count = 0 :=
  forEach_invariant (fun t => ∀ k : Fin 3, t.loads[k].count = 0) _ s (fun i t ht k => by
    by_cases hi : i = k
    · subst hi
      simp [State.restartLoad, Load.reset]
    · have hne : i.val ≠ k.val := fun e => hi (Fin.ext e)
      simpa [State.restartLoad, Vector.getElem_set_ne _ _ hne] using ht k) h k

theorem reset_loads_count (k : Fin 3) : State.reset.loads[k].count = 0 := by
  simp [State.reset, Load.reset]

theorem State.restartPart_countsKept (s : State) : s.restartPart.countsKept :=
  countsKept_of_zero fun k => by
    have h : s.restartPart.loads = s.restartKept.restartLoads.loads := by simp [State.restartPart]
    rw [h]
    exact State.restartLoads_count s.restartKept reset_loads_count k

theorem countsKept_requests : KeptByRequests State.countsKept where
  core := countsKept_readsCore
  load _ _ _ h := countsKept_of_same h rfl rfl
  commit _ t h := State.commitTable_countsKept h t
  start s _ h := countsKept_of_same h (by simp) (by simp)
  stop s h := countsKept_of_same h (by simp) (by simp)
  restart s _ := s.restartPart_countsKept
  clear s d h := countsKept_of_same h (by simp) (by simp)
  mask s on d h := countsKept_of_same h (by simp) (by simp)
  arm _ armed k h := State.setArm_countsKept h armed k
  loadSet _ _ _ hn h := State.setLoad_countsKept h hn
  set s kind target v d o h := countsKept_of_same h (by simp) (by simp)
  release s kind target h := countsKept_of_same h (by simp) (by simp)

theorem exec_countsKept (c : Instr) (s : State) (h : s.countsKept) : Leads State.countsKept (exec c s) := by
  refine countsKept_requests.commands (fun c s he h => ?_) c s h
  have taken (e : Instr) : (s.take e).countsKept := countsKept_of_same h rfl rfl
  cases c with
  | powerOnReset node rate => exact leads_next.mpr (countsKept_of_zero reset_loads_count)
  | boarding k v => exact leads_next.mpr (State.countEvent_countsKept (taken _) k _)
  | alighting k v => exact leads_next.mpr (State.countEvent_countsKept (taken _) k _)
  | dwellTimerExpiry k => exact leads_next.mpr (State.dwellExpiry_countsKept h k)
  | terminusMarkNotification n =>
    refine leads_next.mpr ?_
    split
    · exact State.terminusMark_countsKept (taken _) n
    · exact taken _
  | tripEnd tag =>
    refine leads_next.mpr ?_
    have alive : s.panelAlive.countsKept := countsKept_of_same h rfl rfl
    unfold State.panelTripEnd
    dsimp only
    repeat' split
    · exact countsKept_of_same (State.armAll_countsKept alive) (by simp) (by simp)
    · exact countsKept_of_same alive (by simp) (by simp)
    · exact h
  | reply id data => exact leads_reply (countsKept_of_same h (by simp) (by simp))
  | _ =>
    first
    | (cases he; done)
    | exact leads_next.mpr (countsKept_of_same h (by simp [apply_ite State.loads]) (by simp [apply_ite State.active]))

theorem State.passMs_countsKept {s : State} (h : s.countsKept) : s.passMs.countsKept := fun k => by
  have hcount : s.passMs.loads[k].count = s.loads[k].count := by simp [State.passMs]
  rw [hcount, State.capacityOf_congr (s := s) (t := s.passMs) rfl]
  exact h k

/-- Every step keeps the section counts within their capacities. -/
theorem step_countsKept {s t : State} (h : step s = .next t) (hs : s.countsKept) : t.countsKept :=
  step_keeps exec_countsKept (fun _ _ h => countsKept_of_same h rfl rfl) (fun _ h => State.passMs_countsKept h) h hs

end Sys2Proof.Machine
end

section
/-! Proofs for section 2.4: every command keeps the compressors of units outside RUN at rest, and the units in LOCKOUT
posting 0 (R43, R47). -/

namespace Sys2Proof.Machine

/-! ### A unit -/

/-- The condition of `State.coolersKept` on one unit. -/
def Cooler.kept (u : Cooler) : Prop := (u.state ≠ .run → u.demand = 0) ∧ (u.state = .lockout → u.posted = 0)

theorem State.coolersKept_iff (s : State) : s.coolersKept ↔ ∀ k : Fin 3, s.coolers[k].kept := Iff.rfl

@[simp] theorem CoolRun.setDemand_demand (v : CoolView) (d : Nat) (r : CoolRun) : (r.setDemand v d).unit.demand = d := by
  unfold CoolRun.setDemand
  split
  · next h => exact h.symm
  · rfl

@[simp] theorem CoolRun.setDemand_state (v : CoolView) (d : Nat) (r : CoolRun) :
    (r.setDemand v d).unit.state = r.unit.state := by
  unfold CoolRun.setDemand
  split <;> rfl

@[simp] theorem CoolRun.setDemand_posted (v : CoolView) (d : Nat) (r : CoolRun) :
    (r.setDemand v d).unit.posted = r.unit.posted := by
  unfold CoolRun.setDemand
  split <;> rfl

/-- A unit in RUN meets the condition whatever it demands and posts. -/
theorem Cooler.kept_of_run {u : Cooler} (h : u.state = .run) : u.kept := by simp [Cooler.kept, h]

/-- So does a unit outside LOCKOUT that demands nothing. -/
theorem Cooler.kept_of_rest {u : Cooler} (hs : u.state ≠ .lockout) (hd : u.demand = 0) : u.kept :=
  ⟨fun _ => hd, fun h => absurd h hs⟩

theorem CoolRun.enterLockout_kept (v : CoolView) (r : CoolRun) : (r.enterLockout v).unit.kept := by
  unfold CoolRun.enterLockout
  dsimp only
  split
  · exact Cooler.kept_of_rest (by simp [CoolRun.post]) (by simp [CoolRun.post])
  · exact ⟨fun _ => by simp [CoolRun.post], fun _ => rfl⟩

theorem CoolRun.compute_kept (v : CoolView) {r : CoolRun} (h : r.unit.kept) : (r.compute v).unit.kept := by
  unfold CoolRun.compute
  split
  · next hs => exact ⟨h.1, fun _ => rfl⟩
  · next hs => exact Cooler.kept_of_rest (by simp [CoolRun.post, hs]) (h.1 (by simp [hs]))
  · next hs =>
    split
    · exact r.enterLockout_kept v
    · exact Cooler.kept_of_run hs

theorem CoolRun.takeGrant_kept (v : CoolView) (g : Nat) {r : CoolRun} (h : r.unit.kept) :
    (r.takeGrant v g).unit.kept := by
  unfold CoolRun.takeGrant
  dsimp only
  split
  · split
    · exact CoolRun.compute_kept v (Cooler.kept_of_run (by simp))
    · exact h
  · next hs =>
    split
    · exact CoolRun.enterLockout_kept v _
    · exact Cooler.kept_of_run (by simpa using hs)
  · exact h

theorem CoolRun.minOnExpiry_kept (v : CoolView) {r : CoolRun} (h : r.unit.kept) : (r.minOnExpiry v).unit.kept := by
  unfold CoolRun.minOnExpiry
  split
  · exact h
  · exact CoolRun.compute_kept v (r := ⟨{ r.unit with minOn := none }, r.out⟩) h

theorem CoolRun.minOffExpiry_kept (v : CoolView) {r : CoolRun} (h : r.unit.kept) : (r.minOffExpiry v).unit.kept := by
  unfold CoolRun.minOffExpiry
  split
  · exact h
  · next hn =>
    simp only [not_or, ne_eq, not_not] at hn
    exact CoolRun.compute_kept v (Cooler.kept_of_rest (by simp) (h.1 (by simp [hn.2])))

theorem CoolRun.switchOff_kept (v : CoolView) (r : CoolRun) : (r.switchOff v).unit.kept :=
  Cooler.kept_of_rest (by simp [CoolRun.switchOff, CoolRun.enterOff, CoolRun.post])
    (by simp [CoolRun.switchOff, CoolRun.enterOff, CoolRun.post])

theorem CoolRun.rest_kept (v : CoolView) (r : CoolRun) : (r.rest v).unit.kept :=
  Cooler.kept_of_rest (by simp [CoolRun.rest, CoolRun.enterOff]) (by simp [CoolRun.rest, CoolRun.enterOff])

theorem CoolRun.stop_kept (v : CoolView) (r : CoolRun) : (r.stop v).unit.kept := CoolRun.switchOff_kept v r

theorem Cooler.kept_reset : Cooler.reset.kept := Cooler.kept_of_rest (by decide) rfl

/-! ### The units of the part -/

theorem coolersKept_of_same {s t : State} (h : s.coolersKept) (ht : t.coolers = s.coolers) : t.coolersKept := by
  rw [State.coolersKept_iff, ht]
  exact h

theorem State.setCooler_coolersKept {s : State} (h : s.coolersKept) (k : Fin 3) {x : Cooler} (hx : x.kept) :
    (s.setCooler k x).coolersKept := by
  intro j
  change ((s.coolers.set k x)[j]).kept
  by_cases hj : k = j
  · subst hj
    simpa using hx
  · have hne : k.val ≠ j.val := fun e => hj (Fin.ext e)
    rw [show (s.coolers.set k x)[j] = s.coolers[j] from Vector.getElem_set_ne _ _ hne]
    exact h j

theorem State.runCooler_coolersKept {s : State} (h : s.coolersKept) (k : Fin 3) {f : CoolView → CoolRun → CoolRun}
    (hf : ∀ (v : CoolView) (r : CoolRun), r.unit.kept → (f v r).unit.kept) : (s.runCooler k f).coolersKept :=
  coolersKept_of_same (State.setCooler_coolersKept h k (hf (s.coolView k) ⟨s.coolers[k], []⟩ (h k))) rfl

theorem State.recordQc_coolersKept {s : State} (h : s.coolersKept) (k : Fin 3) (z : Fin 8) (qc : Nat) :
    (s.recordQc k z qc).coolersKept :=
  State.setCooler_coolersKept h k (h k)

theorem State.coolersCompute_coolersKept {s : State} (h : s.coolersKept) : s.coolersCompute.coolersKept :=
  forEach_invariant State.coolersKept _ s
    (fun k _ ht => State.runCooler_coolersKept ht k fun v _ => CoolRun.compute_kept v) h

/-! ### Commits, START and STOP -/

theorem State.moveQc_coolersKept {s : State} (h : s.coolersKept) (z : Fin 8) (old new : ZoneRow) :
    (s.moveQc z old new).coolersKept := by
  unfold State.moveQc
  dsimp only
  have hleft : State.coolersKept (match old.sect with
      | some k => s.recordQc k z 0
      | none => s) := by
    split
    · exact State.recordQc_coolersKept h _ z 0
    · exact h
  split
  · exact h
  · split
    · exact State.recordQc_coolersKept hleft _ z _
    · exact hleft

theorem State.commitZone_coolersKept {s : State} (h : s.coolersKept) (z : Fin 8) (old new : ZoneRow) :
    (s.commitZone z old new).coolersKept := by
  unfold State.commitZone
  split
  · exact h
  · split
    · exact coolersKept_of_same (State.moveQc_coolersKept (coolersKept_of_same h
        (t := s.setZone z (s.zones[z].changed (s.part == .running) old new)) rfl) z old new) rfl
    · exact h
    · exact h
    · exact h

theorem State.commitSect_coolersKept {s : State} (h : s.coolersKept) (old : State) (k : Fin 3) :
    (old.commitSect s k).coolersKept := by
  unfold State.commitSect
  split
  · exact State.runCooler_coolersKept h k fun v r _ => r.switchOff_kept v
  · exact h

theorem State.commitZones_coolersKept {s : State} (h : s.coolersKept) (old : State) :
    (old.commitZones s).coolersKept := by
  have hrows : (old.commitZoneRows s).coolersKept :=
    forEach_invariant State.coolersKept _ s (fun z _ ht => State.commitZone_coolersKept ht z _ _) h
  have hsects : (old.commitSectRows (old.commitZoneRows s)).coolersKept :=
    forEach_invariant State.coolersKept _ _ (fun k _ ht => State.commitSect_coolersKept ht old k) hrows
  exact coolersKept_of_same (State.coolersCompute_coolersKept hsects) (by simp [State.commitZones])

theorem State.commitTable_coolersKept {s : State} (h : s.coolersKept) (t : TableId) :
    (s.commitTable t).coolersKept := by
  have hn : (s.installBank t).coolersKept := h
  cases t with
  | zone => exact State.commitZones_coolersKept hn s
  | claim => exact coolersKept_of_same (State.coolersCompute_coolersKept hn) (by simp [State.commitTable, State.commitClaim])
  | system =>
    have hscreen : (s.systemScreen (s.systemLoad (s.installBank .system))).coolersKept :=
      coolersKept_of_same hn (by simp)
    exact coolersKept_of_same (State.coolersCompute_coolersKept hscreen)
      (by simp [State.commitTable, State.commitSystem])
  | _ => exact coolersKept_of_same h (by simp [State.commitTable])

theorem State.startPart_coolersKept {s : State} (h : s.coolersKept) : s.startPart.coolersKept := by
  have hzones : (State.startZones { s with part := .running }).coolersKept := coolersKept_of_same h (by simp)
  have hrest : (forEach 3 (fun k t => t.runCooler k CoolRun.rest) (State.startZones { s with part := .running })).coolersKept :=
    forEach_invariant State.coolersKept _ _
      (fun k _ ht => State.runCooler_coolersKept ht k fun v r _ => r.rest_kept v) hzones
  exact coolersKept_of_same (State.coolersCompute_coolersKept hrest) (by simp [State.startPart, State.startCoolers])

theorem State.stopPart_coolersKept {s : State} (h : s.coolersKept) : s.stopPart.coolersKept := by
  have hzones : (State.stopZones { s with part := .standby }).coolersKept := coolersKept_of_same h (by simp)
  have hstop : (State.stopZones { s with part := .standby }).stopCoolers.coolersKept :=
    forEach_invariant State.coolersKept _ _
      (fun k _ ht => State.runCooler_coolersKept ht k fun v r _ => r.stop_kept v) hzones
  exact coolersKept_of_same hstop (by simp [State.stopPart])

theorem coolersKept_of_reset {s : State} (h : s.coolers = State.reset.coolers) : s.coolersKept := fun k => by
  have hk : s.coolers[k] = Cooler.reset := by simp [h, State.reset]
  rw [hk]
  exact Cooler.kept_reset

/-! ### The commands -/

theorem coolersKept_requests : KeptByRequests State.coolersKept where
  core := by
    rintro s t ⟨_, _, _, _, _, _, hc, _, _, _, _, _, _, _⟩ h
    exact coolersKept_of_same h hc
  load _ _ _ h := h
  commit _ t h := State.commitTable_coolersKept h t
  start _ _ h := State.startPart_coolersKept h
  stop _ h := State.stopPart_coolersKept h
  restart s _ := coolersKept_of_reset (by simp [State.restartPart]; rfl)
  clear s d h := coolersKept_of_same h (by simp)
  mask s on d h := coolersKept_of_same h (by simp)
  arm s armed k h := coolersKept_of_same h (by simp)
  loadSet s k n _ h := coolersKept_of_same h (by simp [State.loadSet])
  set s kind target v d o h := coolersKept_of_same h (by simp)
  release s kind target h := coolersKept_of_same h (by simp)

theorem exec_coolersKept (c : Instr) (s : State) (h : s.coolersKept) : Leads State.coolersKept (exec c s) := by
  refine coolersKept_requests.commands (fun c s he h => ?_) c s h
  have taken (e : Instr) : (s.take e).coolersKept := h
  cases c with
  | powerOnReset node rate => exact leads_next.mpr (coolersKept_of_reset rfl)
  | qcPosting k z qc =>
    exact leads_next.mpr (State.runCooler_coolersKept (State.recordQc_coolersKept (taken _) k z qc) k
      fun v _ => CoolRun.compute_kept v)
  | stageNotice k dry fl =>
    exact leads_next.mpr (State.runCooler_coolersKept (State.setCooler_coolersKept (taken _) k
      (x := { (s.take (.stageNotice k dry fl)).coolers[k] with dry := dry, dryFloor := fl }) (h k)) k
      fun v _ => CoolRun.compute_kept v)
  | coolingGrantDelivery k g =>
    exact leads_next.mpr (State.runCooler_coolersKept (taken _) k fun v _ => CoolRun.takeGrant_kept v g)
  | minimumOnExpiry k => exact leads_next.mpr (State.runCooler_coolersKept h k fun v _ => CoolRun.minOnExpiry_kept v)
  | minimumOffExpiry k => exact leads_next.mpr (State.runCooler_coolersKept h k fun v _ => CoolRun.minOffExpiry_kept v)
  | reply id data => exact leads_reply (coolersKept_of_same h (by simp))
  | _ =>
    first
    | (cases he; done)
    | exact leads_next.mpr (coolersKept_of_same h (by simp [apply_ite State.coolers]))

theorem State.passMs_coolersKept {s : State} (h : s.coolersKept) : s.passMs.coolersKept := fun k => by
  have hk : s.passMs.coolers[k] = s.coolers[k].tick := by simp [State.passMs]
  rw [hk]
  exact h k

/-- Every step keeps the condition of the cooling units. -/
theorem step_coolersKept {s t : State} (h : step s = .next t) (hs : s.coolersKept) : t.coolersKept :=
  step_keeps exec_coolersKept (fun _ _ h => h) (fun _ h => State.passMs_coolersKept h) h hs

end Sys2Proof.Machine
end

section
/-! Proofs for section 1.1: every command keeps the queues and counts of the ports within their sizes (R2, R4, R5,
R182). -/

namespace Sys2Proof.Machine

/-! ### Ports and queues -/

/-- The condition of `State.queuesKept` on one port. -/
def Port.kept (x : Port) : Prop := x.forwards.length ≤ 8 ∧ x.drops ≤ 65535 ∧ x.errors ≤ 255

theorem State.queuesKept_iff (s : State) :
    s.queuesKept ↔ s.responses.length ≤ 16 ∧ s.acks.length ≤ 4 ∧ s.vehicle.kept ∧ s.climate.kept := by
  refine ⟨fun ⟨hr, ha, hp⟩ => ⟨hr, ha, hp .vehicle, hp .climate⟩, fun ⟨hr, ha, hv, hc⟩ => ⟨hr, ha, fun p => ?_⟩⟩
  cases p
  · exact hv
  · exact hc

section
variable {s t : State} (h : s.queuesKept)
include h

theorem State.queuesKept.port (p : PortName) : (s.port p).kept := h.2.2 p

theorem queuesKept_of_same (hr : t.responses = s.responses) (ha : t.acks = s.acks) (hv : t.vehicle = s.vehicle)
    (hc : t.climate = s.climate) : t.queuesKept := by
  rw [State.queuesKept_iff, hr, ha, hv, hc, ← State.queuesKept_iff]
  exact h

theorem State.setPort_queuesKept (p : PortName) {x : Port} (hx : x.kept) : (s.setPort p x).queuesKept := by
  obtain ⟨hr, ha, hv, hc⟩ := s.queuesKept_iff.mp h
  rw [State.queuesKept_iff]
  cases p
  · exact ⟨hr, ha, hx, hc⟩
  · exact ⟨hr, ha, hv, hx⟩

theorem State.raise_queuesKept (f : Flag) : (s.raise f).queuesKept := h

theorem State.offerForward_queuesKept (p : PortName) (f : Frame) : (s.offerForward p f).queuesKept := by
  obtain ⟨hf, hd, he⟩ := h.port p
  unfold State.offerForward
  dsimp only
  split
  · next hroom => exact State.setPort_queuesKept h p ⟨by simpa using hroom.2, hd, he⟩
  · refine State.raise_queuesKept ?_ _
    exact State.setPort_queuesKept h p ⟨hf, Nat.min_le_left _ _, he⟩

theorem State.offerAck_queuesKept (f : Frame) : (s.offerAck f).queuesKept := by
  obtain ⟨hr, _, hp⟩ := id h
  unfold State.offerAck
  split
  · next hroom => exact ⟨hr, by simpa using hroom.2, hp⟩
  · exact h

/-! ### Transmissions -/

theorem State.transmitStart_queuesKept (p : PortName) : (s.transmitStart p).queuesKept := by
  unfold State.transmitStart
  split
  · exact State.setPort_queuesKept h p (h.port p)
  · exact h

theorem State.leaveSource_queuesKept (p : PortName) (x : Tx) : (s.leaveSource p x).queuesKept := by
  obtain ⟨hr, ha, hp⟩ := id h
  unfold State.leaveSource
  split
  · exact ⟨(s.responses.length_tail ▸ Nat.sub_le _ _).trans hr, ha, hp⟩
  · exact ⟨hr, (s.acks.length_tail ▸ Nat.sub_le _ _).trans ha, hp⟩
  · exact h
  · obtain ⟨hf, hd, he⟩ := h.port p
    exact State.setPort_queuesKept h p ⟨((s.port p).forwards.length_tail ▸ Nat.sub_le _ _).trans hf, hd, he⟩
  · exact h
  · exact h
  · exact h

theorem State.transmitComplete_queuesKept (p : PortName) : (s.transmitComplete p).queuesKept := by
  obtain ⟨hf, hd, he⟩ := h.port p
  unfold State.transmitComplete
  split
  · exact h
  · dsimp only
    refine State.leaveSource_queuesKept ?_ p _
    refine State.setPort_queuesKept h p ⟨hf, hd, ?_⟩
    dsimp only
    split
    · exact he
    · exact (Nat.sub_le _ _).trans he

theorem State.enterBusOff_queuesKept (p : PortName) : (s.enterBusOff p).queuesKept := by
  obtain ⟨_, hd, he⟩ := h.port p
  have hport : (s.setPort p { s.port p with
      link := .busOff, forwards := [], busOff := some 500, onBus := none }).queuesKept :=
    State.setPort_queuesKept h p ⟨Nat.zero_le _, hd, he⟩
  unfold State.enterBusOff
  cases p
  · exact ⟨Nat.zero_le _, Nat.zero_le _, hport.2.2⟩
  · exact forEach_invariant State.queuesKept _ _ (fun _ _ ht => ht) hport

theorem State.transmitError_queuesKept (p : PortName) : (s.transmitError p).queuesKept := by
  obtain ⟨hf, hd, he⟩ := h.port p
  unfold State.transmitError
  dsimp only
  repeat' split
  · exact h
  · exact State.setPort_queuesKept h p ⟨hf, hd, he⟩
  · exact State.enterBusOff_queuesKept h p
  · exact State.setPort_queuesKept h p ⟨hf, hd, by dsimp only; omega⟩

theorem State.busOffExpiry_queuesKept (p : PortName) : (s.busOffExpiry p).queuesKept := by
  obtain ⟨hf, hd, _⟩ := h.port p
  unfold State.busOffExpiry
  split
  · exact h
  · exact State.setPort_queuesKept h p ⟨hf, hd, Nat.zero_le _⟩

theorem State.statusExpiry_queuesKept : s.statusExpiry.queuesKept := by
  obtain ⟨hr, ha, hv, hc⟩ := s.queuesKept_iff.mp h
  unfold State.statusExpiry State.offerStatus
  dsimp only
  repeat' split
  · exact h
  · exact (State.queuesKept_iff _).mpr ⟨hr, ha, hv, hc⟩
  · exact h
  · exact h

/-! ### Answers -/

/-- A response that finds room. -/
theorem State.answer_queuesKept (code : Nat) (r : Result) {content : List Byte}
    (hroom : s.responses.length + framesOf content ≤ 16) : (s.answer code r content).queuesKept := by
  obtain ⟨_, ha, hp⟩ := id h
  unfold State.answer
  split
  · exact ⟨by simpa using hroom, ha, hp⟩
  · exact h

/-- The room check of a request whose response takes n frames. -/
theorem State.withRoom_queuesKept (code : Nat) {n : Nat} {act : State → State}
    (hact : s.responses.length + n ≤ 16 → (act s).queuesKept) : (s.withRoom code n act).queuesKept :=
  withRoom_keeps hact (fun hl => State.answer_queuesKept h code .busy (content := []) hl)
    (queuesKept_of_same h rfl rfl rfl rfl)

theorem State.serveOne_queuesKept (code : Nat) {f : State → State × Result × List Byte} (hf : (f s).1.queuesKept)
    (hr : (f s).1.responses = s.responses) (hl : (f s).2.2.length ≤ 6) : (s.serveOne code f).queuesKept :=
  State.withRoom_queuesKept h code fun hroom =>
    State.answer_queuesKept hf code _ (by
      rw [hr]
      have : framesOf (f s).2.2 ≤ 1 := by unfold framesOf; omega
      omega)

theorem State.serveRead_queuesKept (code : Nat) (content : Option (List Byte)) :
    (s.serveRead code content).queuesKept := by
  unfold State.serveRead
  split
  · exact State.withRoom_queuesKept h code fun hroom => State.answer_queuesKept h code .ok hroom
  · exact State.withRoom_queuesKept h code fun hroom => State.answer_queuesKept h code .range (content := []) hroom

end

/-! ### Commits and resets -/

theorem State.detachChannel_queuesKept {s : State} (h : s.queuesKept) (c : Fin 24) : (s.detachChannel c).queuesKept := by
  obtain ⟨hr, ha, hv, hc⟩ := s.queuesKept_iff.mp h
  exact (State.queuesKept_iff _).mpr ⟨hr, ha, hv, hc⟩

theorem State.commitOutput_queuesKept {s : State} (h : s.queuesKept) (old : State) :
    (old.commitOutput s).queuesKept := by
  have hclear (cs : List (Fin 24)) : (s.clearChannels cs).queuesKept :=
    foldl_invariant State.queuesKept _ _ s (fun _ c ht => State.detachChannel_queuesKept ht c) h
  exact queuesKept_of_same (hclear (old.changedChannels s)) (by simp) (by simp) (by simp)
    (by simp [State.commitOutput, apply_ite State.climate])

theorem State.commitTable_queuesKept {s : State} (h : s.queuesKept) (t : TableId) : (s.commitTable t).queuesKept := by
  have hn : (s.installBank t).queuesKept := h
  cases t with
  | output => exact State.commitOutput_queuesKept hn s
  | _ => exact queuesKept_of_same hn (by simp) (by simp) (by simp) (by simp [State.commitTable])

theorem Port.restart_kept (x : Port) : x.restart.kept := ⟨Nat.zero_le _, Nat.zero_le _, Nat.zero_le _⟩

theorem State.restartPart_queues (s : State) :
    s.restartPart.responses = [] ∧ s.restartPart.acks = [] ∧ s.restartPart.vehicle = s.vehicle.restart
      ∧ s.restartPart.climate = s.climate.restart := by
  and_intros <;> simp [State.restartPart] <;> rfl

theorem State.restartPart_queuesKept (s : State) : s.restartPart.queuesKept := by
  obtain ⟨hr, ha, hv, hc⟩ := s.restartPart_queues
  rw [State.queuesKept_iff, hr, ha, hv, hc]
  exact ⟨Nat.zero_le _, Nat.zero_le _, s.vehicle.restart_kept, s.climate.restart_kept⟩

theorem State.reqRestart_queuesKept (s : State) : s.reqRestart.queuesKept := by
  have hr := s.restartPart_queues.1
  exact State.answer_queuesKept s.restartPart_queuesKept 18 .ok (content := []) (by rw [hr]; decide)

/-! ### Load requests -/

/-- What each load request does with the queues: it keeps them within their sizes, leaves the responses to its one answer,
and names at most one row. -/
def KeepsQueues (s : State) (r : LoadOutcome) : Prop :=
  r.1.queuesKept ∧ r.1.responses = s.responses ∧ r.2.2.length ≤ 1

section
variable {s : State} (h : s.queuesKept)
include h

theorem keepsQueues_refused (r : Result) : KeepsQueues s (s, r, []) := ⟨h, rfl, Nat.zero_le _⟩

theorem keepsQueues_halt (c : HaltCode) : KeepsQueues s (s.haltWith c) := ⟨h, rfl, Nat.zero_le _⟩

/-- An outcome that leaves the ports and their queues. -/
theorem keepsQueues_of_same {t : State} (hr : t.responses = s.responses) (ha : t.acks = s.acks)
    (hv : t.vehicle = s.vehicle) (hc : t.climate = s.climate) (r : Result) : KeepsQueues s (t, r, []) :=
  ⟨queuesKept_of_same h hr ha hv hc, hr, Nat.zero_le _⟩

theorem openRow_keepsQueues (table row : Byte) : KeepsQueues s (s.openRow table row) :=
  whenIdle_cases (keepsQueues_refused h _) (keepsQueues_halt h _) fun _ =>
    withTable_cases (keepsQueues_refused h _) fun t => by
      split
      · exact keepsQueues_of_same h rfl rfl rfl rfl _
      · exact keepsQueues_refused h _

theorem placeData_keepsQueues (bytes : List Byte) : KeepsQueues s (s.placeData bytes) :=
  whenAssembling_cases (keepsQueues_refused h _) (keepsQueues_halt h _) fun o _ => by
    split
    · exact keepsQueues_of_same h rfl rfl rfl rfl _
    · exact keepsQueues_halt h _

theorem closeRow_keepsQueues : KeepsQueues s s.closeRow :=
  whenAssembling_cases (keepsQueues_refused h _) (keepsQueues_halt h _) fun o _ => by
    split
    · exact keepsQueues_halt h _
    · split
      · exact keepsQueues_of_same h rfl rfl rfl rfl _
      · exact keepsQueues_halt h _

theorem clearRow_keepsQueues (table row : Byte) : KeepsQueues s (s.clearRow table row) :=
  whenIdle_cases (keepsQueues_refused h _) (keepsQueues_halt h _) fun _ =>
    withTable_cases (keepsQueues_refused h _) fun t => by
      split
      · exact keepsQueues_of_same h rfl rfl rfl rfl _
      · split
        · exact keepsQueues_of_same h rfl rfl rfl rfl _
        · exact keepsQueues_refused h _

theorem commitBank_keepsQueues (table : Byte) : KeepsQueues s (s.commitBank table) :=
  whenIdle_cases (keepsQueues_refused h _) (keepsQueues_halt h _) fun _ =>
    withTable_cases (keepsQueues_refused h _) fun t => by
      split
      · exact ⟨h, rfl, le_refl _⟩
      · exact ⟨State.commitTable_queuesKept h t, by simp, Nat.zero_le _⟩

theorem abandonBank_keepsQueues (table : Byte) : KeepsQueues s (s.abandonBank table) :=
  whenIdle_cases (keepsQueues_refused h _) (keepsQueues_halt h _) fun _ =>
    withTable_cases (keepsQueues_refused h _) fun _ => keepsQueues_of_same h rfl rfl rfl rfl _

theorem resumeLoad_keepsQueues : KeepsQueues s s.resumeLoad := by
  unfold State.resumeLoad
  split
  · exact keepsQueues_of_same h rfl rfl rfl rfl _
  · exact keepsQueues_refused h _

theorem State.serveLoad_queuesKept (code : Nat) {f : State → LoadOutcome} (hf : KeepsQueues s (f s)) :
    (s.serveLoad code f).queuesKept := by
  obtain ⟨hq, hr, hl⟩ := hf
  exact State.serveOne_queuesKept h code hq hr (by simp; omega)

theorem State.reqStatus_queuesKept : s.reqStatus.queuesKept :=
  State.withRoom_queuesKept h 2 fun hroom => by
    have hlen : s.statusContent.length = 30 := by
      simp [State.statusContent, two, le16, le24]
    have hframes : framesOf s.statusContent = 5 := by simp [framesOf, hlen]
    exact queuesKept_of_same (State.answer_queuesKept h 2 .ok (hframes ▸ hroom)) rfl rfl rfl rfl

end

/-! ### The commands -/

section
variable {s : State} (h : s.queuesKept)
include h

/-- A request that leaves the ports and their queues, answered with one frame. -/
theorem serveOne_queuesKept_of_same (code : Nat) {f : State → State × Result × List Byte}
    (hr : (f s).1.responses = s.responses) (ha : (f s).1.acks = s.acks) (hv : (f s).1.vehicle = s.vehicle)
    (hc : (f s).1.climate = s.climate) (hl : (f s).2.2.length ≤ 6) : (s.serveOne code f).queuesKept :=
  State.serveOne_queuesKept h code (queuesKept_of_same h hr ha hv hc) hr hl

theorem State.reqStart_queuesKept : s.reqStart.queuesKept := by
  refine serveOne_queuesKept_of_same h 16 ?_ ?_ ?_ ?_ ?_ <;> (repeat' split) <;> simp

theorem State.reqStop_queuesKept : s.reqStop.queuesKept := by
  refine serveOne_queuesKept_of_same h 17 ?_ ?_ ?_ ?_ ?_ <;> (repeat' split) <;> simp

theorem State.reqLoadSet_queuesKept (sec count : Byte) : (s.reqLoadSet sec count).queuesKept := by
  refine serveOne_queuesKept_of_same h 25 ?_ ?_ ?_ ?_ ?_ <;> (repeat' split) <;> simp [State.loadSet]

theorem serviceRequest_queuesKept {c : Instr} (hc : isEvent c = false) (ha : isArrival c = false) :
    Leads State.queuesKept (exec c s) := by
  cases c with
  | identify | readRow | readSlot | readZone | readDoor | readSection | readClaim | readChannel =>
    exact leads_next.mpr (State.serveRead_queuesKept h _ _)
  | status => exact leads_next.mpr (State.reqStatus_queuesKept h)
  | rowOpen table row => exact leads_next.mpr (State.serveLoad_queuesKept h _ (openRow_keepsQueues h table row))
  | rowData b0 b1 b2 b3 b4 b5 => exact leads_next.mpr (State.serveLoad_queuesKept h _ (placeData_keepsQueues h _))
  | rowClose => exact leads_next.mpr (State.serveLoad_queuesKept h _ (closeRow_keepsQueues h))
  | rowClear table row => exact leads_next.mpr (State.serveLoad_queuesKept h _ (clearRow_keepsQueues h table row))
  | commit table => exact leads_next.mpr (State.serveLoad_queuesKept h _ (commitBank_keepsQueues h table))
  | abandon table => exact leads_next.mpr (State.serveLoad_queuesKept h _ (abandonBank_keepsQueues h table))
  | loadResume => exact leads_next.mpr (State.serveLoad_queuesKept h _ (resumeLoad_keepsQueues h))
  | start => exact leads_next.mpr (State.reqStart_queuesKept h)
  | stop => exact leads_next.mpr (State.reqStop_queuesKept h)
  | restart => exact leads_next.mpr (s.reqRestart_queuesKept)
  | loadSet sec count => exact leads_next.mpr (State.reqLoadSet_queuesKept h sec count)
  | clearPending | maskDoors | unmaskDoors | armTerminus | disarmTerminus | overrideSet | overrideRelease =>
    exact leads_next.mpr (serveOne_queuesKept_of_same h _ (by simp) (by simp) (by simp) (by simp) (by simp))
  | frameArrival => cases ha
  | _ => cases hc

/-- The events of the blocks, and the panel requests. -/
theorem event_queuesKept {c : Instr} (hc : isEvent c = true) : Leads State.queuesKept (exec c s) := by
  cases c with
  | powerOnReset node rate =>
    exact leads_next.mpr ((State.queuesKept_iff _).mpr
      ⟨Nat.zero_le _, Nat.zero_le _, Port.restart_kept Port.reset, Port.restart_kept Port.reset⟩)
  | transmitStart p => exact leads_next.mpr (State.transmitStart_queuesKept h p)
  | transmitComplete p => exact leads_next.mpr (State.transmitComplete_queuesKept h p)
  | arbitrationLost p => exact leads_next.mpr (State.setPort_queuesKept h p (h.port p))
  | transmitError p => exact leads_next.mpr (State.transmitError_queuesKept h p)
  | busOffExpiry p => exact leads_next.mpr (State.busOffExpiry_queuesKept h p)
  | statusTimerExpiry => exact leads_next.mpr (State.statusExpiry_queuesKept h)
  | set tag kind target v d =>
    refine leads_next.mpr ?_
    unfold State.panelSet
    split
    · exact State.offerAck_queuesKept (queuesKept_of_same h (by simp) (by simp) (by simp) (by simp)) _
    · exact h
  | release tag kind target =>
    refine leads_next.mpr ?_
    unfold State.panelRelease
    split
    · exact State.offerAck_queuesKept (queuesKept_of_same h (by simp) (by simp) (by simp) (by simp)) _
    · exact h
  | heartbeat tag =>
    refine leads_next.mpr ?_
    unfold State.panelHeartbeat
    split
    · exact State.offerAck_queuesKept (queuesKept_of_same h (by simp) (by simp) (by simp) (by simp)) _
    · exact h
  | tripEnd tag =>
    refine leads_next.mpr ?_
    unfold State.panelTripEnd
    dsimp only
    repeat' split
    · exact State.offerAck_queuesKept (queuesKept_of_same h (by simp) (by simp) (by simp) (by simp)) _
    · exact State.offerAck_queuesKept (queuesKept_of_same h (by simp) (by simp) (by simp) (by simp)) _
    · exact h
  | reply id data => exact leads_reply (queuesKept_of_same h (by simp) (by simp) (by simp) (by simp))
  | _ =>
    first
    | (cases hc; done)
    | exact leads_next.mpr (queuesKept_of_same h (by simp [apply_ite State.responses]) (by simp [apply_ite State.acks])
        (by simp [apply_ite State.vehicle]) (by simp [apply_ite State.climate]))

theorem command_queuesKept {c : Instr} (ha : isArrival c = false) : Leads State.queuesKept (exec c s) := by
  cases hc : isEvent c with
  | false => exact serviceRequest_queuesKept h hc ha
  | true => exact event_queuesKept h hc

theorem State.serviceFrame_queuesKept (data : List Byte) : (s.serviceFrame data).queuesKept := by
  cases hc : requestCommand data with
  | some c => exact command_queuesKept h (isArrival_requestCommand hc) _ (exec_requestCommand s hc)
  | none =>
    obtain ⟨code, content, hl, hf⟩ := s.serviceFrame_format hc
    rw [hf]
    exact serveOne_queuesKept_of_same h code rfl rfl rfl rfl (hl s)

theorem State.hit_queuesKept (r : FrameRow) (f : Frame) : (s.hit r f).queuesKept := by
  unfold State.hit
  split
  · exact foldl_invariant State.queuesKept _ _ s
      (fun t fld ht => queuesKept_of_same ht (by simp) (by simp) (by simp) (by simp)) h
  · by_cases hi : s.sys.used = false ∨ f.id.toNat ≠ s.sys.panelRequestId ∨ f.data.length < 2
    · rw [State.panelFrame_ignored hi]
      exact h
    · simp only [not_or, Bool.not_eq_false, not_not, not_lt] at hi
      obtain ⟨hu, hid, hl⟩ := hi
      cases hc : panelCommand f.data with
      | some c => exact command_queuesKept h (isArrival_panelCommand hc) _ (exec_panelCommand hu hid hc)
      | none =>
        rw [State.panelFrame_format hu hid hc hl]
        exact State.offerAck_queuesKept h _
  · exact queuesKept_of_same h (by simp) (by simp) (by simp) (by simp)
  · exact h
  · exact h

theorem State.arrive_queuesKept (p : PortName) (f : Frame) : (s.arrive p f).queuesKept := by
  have hcopy (t : State) (b : Bool) (ht : t.queuesKept) :
      (if b then t.offerForward (otherPort p) f else t).queuesKept := by
    split
    · exact State.offerForward_queuesKept ht _ f
    · exact ht
  unfold State.arrive
  split
  · exact h
  · split
    · exact State.serviceFrame_queuesKept h f.data
    · unfold State.classify
      cases s.lookup p f.id with
      | none => exact hcopy _ _ h
      | some i => exact hcopy _ _ (State.hit_queuesKept h _ f)

theorem exec_queuesKept (c : Instr) : Leads State.queuesKept (exec c s) := by
  cases ha : isArrival c with
  | false => exact command_queuesKept h ha
  | true =>
    cases c with
    | frameArrival p f =>
      change Leads _ (if f.data.length ≤ 8 then .next (s.arrive p f) else .refused .notACanFrame)
      split
      · exact leads_next.mpr (State.arrive_queuesKept h p f)
      · intro t e; cases e
    | _ => cases ha

theorem State.passMs_queuesKept : s.passMs.queuesKept :=
  (State.queuesKept_iff _).mpr (s.queuesKept_iff.mp h)

end

/-- Every step keeps the queues and counts of the ports within their sizes. -/
theorem step_queuesKept {s t : State} (h : step s = .next t) (hs : s.queuesKept) : t.queuesKept :=
  step_keeps (fun c _ hs => exec_queuesKept hs c) (fun _ _ h => h) (fun _ h => State.passMs_queuesKept h) h hs

/-- Settles O56: each of the four conditions is kept by every command and by the passing of one ms. -/
theorem stepsKeepTheBounds : Obligations.StepsKeepTheBounds := fun _ _ h =>
  ⟨step_queuesKept h, step_overridesKept h, step_countsKept h, step_coolersKept h⟩

end Sys2Proof.Machine
end

section
/-! Proofs for section 3.5: every command keeps the door timers in step with the burst states (R57, R75, R78). -/

namespace Sys2Proof.Machine

/-! ### A door -/

/-- The condition of `State.doorsKept` on one door. -/
def Door.kept (d : Door) : Prop := (d.timer = none ↔ d.burst = .idle) ∧ (d.burst = .idle → d.staged = none)

/-- A door outside IDLE with its timer running. -/
theorem Door.kept_of_busy {d : Door} (hb : d.burst ≠ .idle) (ht : d.timer ≠ none) : d.kept :=
  ⟨⟨fun h => absurd h ht, fun h => absurd h hb⟩, fun h => absurd h hb⟩

/-- A door in IDLE with its timer stopped and no staged record. -/
theorem Door.kept_of_idle {d : Door} (hb : d.burst = .idle) (ht : d.timer = none) (hs : d.staged = none) : d.kept :=
  ⟨⟨fun _ => hb, fun _ => ht⟩, fun _ => hs⟩

theorem Door.kept_reset : Door.reset.kept := Door.kept_of_idle rfl rfl rfl

@[simp] theorem DoorRun.leaveBurst_door (r : DoorRun) : r.leaveBurst.door = r.door := by
  unfold DoorRun.leaveBurst
  split <;> rfl

theorem DoorRun.settle_kept (r : DoorRun) : r.settle.door.kept := by
  unfold DoorRun.settle DoorRun.modify Door.install
  dsimp only
  split
  · exact Door.kept_of_idle rfl rfl rfl
  · next h => exact Door.kept_of_idle rfl rfl h

theorem DoorRun.enterBurst_kept (r : DoorRun) : r.enterBurst.door.kept := by
  unfold DoorRun.enterBurst DoorRun.modify DoorRun.post
  dsimp only
  split <;> exact Door.kept_of_busy (by simp) (by simp)

section
variable {toIdle : DoorRun → DoorRun} (hi : ∀ r, (toIdle r).door.kept)
include hi

theorem DoorRun.enterRecovery_kept (r : DoorRun) : (r.enterRecovery toIdle).door.kept := by
  unfold DoorRun.enterRecovery
  dsimp only
  split
  · exact hi _
  · exact Door.kept_of_busy (by simp [DoorRun.modify]) (by simp [DoorRun.modify])

theorem DoorRun.endDelay_kept (r : DoorRun) : (r.endDelay toIdle).door.kept := by
  unfold DoorRun.endDelay
  split
  · exact DoorRun.enterRecovery_kept hi r
  · exact r.enterBurst_kept

theorem DoorRun.startActivity_kept (r : DoorRun) : (r.startActivity toIdle).door.kept := by
  unfold DoorRun.startActivity
  dsimp only
  split
  · exact DoorRun.endDelay_kept hi _
  · exact Door.kept_of_busy (by simp [DoorRun.modify]) (by simp [DoorRun.modify])

theorem DoorRun.idleTrigger_kept {r : DoorRun} (h : r.door.kept) (group : Bool) :
    (r.idleTrigger group toIdle).door.kept := by
  unfold DoorRun.idleTrigger
  repeat' split
  · exact h
  · exact h
  · exact DoorRun.startActivity_kept hi _
  · exact DoorRun.startActivity_kept hi _

theorem DoorRun.idleWith_kept (group : Bool) (r : DoorRun) : (r.idleWith group toIdle).door.kept := by
  unfold DoorRun.idleWith
  dsimp only
  split
  · exact DoorRun.idleTrigger_kept hi (r := r.settle.modify fun d => { d with latch := false }) r.settle_kept group
  · exact r.settle_kept

end

theorem DoorRun.enterIdle_kept (group : Bool) (r : DoorRun) : (r.enterIdle group).door.kept :=
  DoorRun.idleWith_kept DoorRun.settle_kept group r

section
variable {r : DoorRun} (h : r.door.kept)
include h

theorem DoorRun.trigger_kept (group : Bool) : (r.trigger group).door.kept := by
  unfold DoorRun.trigger
  split
  · exact DoorRun.idleTrigger_kept (DoorRun.enterIdle_kept group) h group
  · exact h
  · exact h

theorem DoorRun.opened_kept (v : DoorView) : (r.opened v).door.kept := by
  have hopen : (r.modify fun d => { d with openMs := 0 }).door.kept := h
  unfold DoorRun.opened
  dsimp only
  repeat' split
  · exact hopen
  · exact DoorRun.trigger_kept hopen v.group
  · exact h

theorem DoorRun.closed_kept (v : DoorView) : (r.closed v).door.kept := by
  have hclosed : (r.modify fun d =>
      { d with accum := min 65535 (d.accum + d.openMs / 1000), openMs := 0 }).door.kept := h
  unfold DoorRun.closed
  dsimp only
  split
  · split
    · split
      · exact h
      · have hpv := hclosed
        exact DoorRun.trigger_kept (r := DoorRun.modify
          (fun d => { d with pv := d.param (·.n) }) (r.modify fun d =>
            { d with accum := min 65535 (d.accum + d.openMs / 1000), openMs := 0 })) hpv v.group
    · split
      · exact DoorRun.enterRecovery_kept (DoorRun.enterIdle_kept v.group) _
      · exact h
    · split <;> exact h
    · exact h
  · exact h

theorem DoorRun.accept_kept (v : DoorView) (isOpen : Bool) : (r.accept v isOpen).door.kept := by
  have hq : (r.modify fun d => { d with isOpen := isOpen, candidate := none, debounce := none }).door.kept := h
  unfold DoorRun.accept
  dsimp only
  split
  · exact DoorRun.opened_kept hq v
  · exact DoorRun.closed_kept hq v

theorem DoorRun.report_kept (v : DoorView) (period : Nat) (isOpen : Bool) : (r.report v period isOpen).door.kept := by
  unfold DoorRun.report
  repeat' split
  · exact h
  · exact h
  · exact DoorRun.accept_kept h v isOpen
  · exact h

theorem DoorRun.debounceExpiry_kept (v : DoorView) : (r.debounceExpiry v).door.kept := by
  unfold DoorRun.debounceExpiry
  split
  · exact DoorRun.accept_kept h v _
  · exact h

theorem DoorRun.timerExpiry_kept (expected : BurstState) {f : DoorRun → DoorRun} (hf : (f r).door.kept) :
    (r.timerExpiry expected f).door.kept := by
  unfold DoorRun.timerExpiry
  split
  · exact hf
  · exact h

theorem DoorRun.maskChanged_kept (v : DoorView) (was byStop : Bool) : (r.maskChanged v was byStop).door.kept := by
  unfold DoorRun.maskChanged
  split
  · exact DoorRun.idleTrigger_kept (DoorRun.enterIdle_kept v.group)
      (r := r.modify fun d => { d with latch := false }) h v.group
  · exact h

end

theorem DoorRun.endBurst_kept (v : DoorView) (r : DoorRun) : (r.endBurst v).door.kept := by
  unfold DoorRun.endBurst
  split
  · exact Door.kept_of_busy (by simp [DoorRun.modify]) (by simp [DoorRun.modify])
  · exact DoorRun.enterRecovery_kept (DoorRun.enterIdle_kept v.group) r

theorem DoorRun.endGap_kept (v : DoorView) (r : DoorRun) : (r.endGap v).door.kept := by
  unfold DoorRun.endGap
  split
  · exact r.enterBurst_kept
  · exact DoorRun.enterRecovery_kept (DoorRun.enterIdle_kept v.group) r

theorem DoorRun.retire_kept (r : DoorRun) : r.retire.door.kept := Door.kept_of_idle rfl rfl rfl

theorem DoorRun.stop_kept (r : DoorRun) : r.stop.door.kept := Door.kept_of_idle rfl rfl rfl

theorem Door.enlist_kept (b : BurstFields) (d : Door) : (d.enlist b).kept := Door.kept_of_idle rfl rfl rfl

theorem Door.newFields_kept {d : Door} (h : d.kept) (b : BurstFields) : (d.newFields b).kept := by
  unfold Door.newFields
  split
  · next hb => exact Door.kept_of_idle hb (h.1.mpr hb) rfl
  · next hb => exact ⟨h.1, fun hb' => absurd hb' hb⟩

theorem Door.relink_kept {d : Door} (h : d.kept) (old new : DoorRow) : (d.relink old new).kept := by
  have hlink : (if old.stateSlot = new.stateSlot then d else d.cancelDebounce).kept := by
    split <;> exact h
  unfold Door.relink
  dsimp only
  generalize (if old.stateSlot = new.stateSlot then d else d.cancelDebounce) = linked at hlink ⊢
  split
  · exact hlink
  · exact Door.newFields_kept hlink new.burst

/-! ### The doors of the part -/

theorem State.doorsKept_iff (s : State) : s.doorsKept ↔ ∀ d : Fin 8, s.doors[d].kept := Iff.rfl

/-- A property of each door that the replacement of one keeps. -/
theorem State.setDoor_all {p : Door → Prop} {s : State} (h : ∀ d : Fin 8, p s.doors[d]) (d : Fin 8) {x : Door}
    (hx : p x) (j : Fin 8) : p (s.setDoor d x).doors[j] := by
  change p (s.doors.set d x)[j]
  by_cases hj : d = j
  · subst hj
    simpa using hx
  · have hne : d.val ≠ j.val := fun e => hj (Fin.ext e)
    rw [show (s.doors.set d x)[j] = s.doors[j] from Vector.getElem_set_ne _ _ hne]
    exact h j

theorem doorsKept_of_same {s t : State} (h : s.doorsKept) (ht : t.doors = s.doors) : t.doorsKept := by
  rw [State.doorsKept_iff, ht]
  exact h

@[simp] theorem State.finishDoor_doors (s : State) (d : Fin 8) (r : DoorRun) :
    (s.finishDoor d r).doors = s.doors.set d r.door := by simp [State.finishDoor]

section
variable {s : State} (h : s.doorsKept)
include h

theorem State.setDoor_doorsKept (d : Fin 8) {x : Door} (hx : x.kept) : (s.setDoor d x).doorsKept :=
  State.setDoor_all (p := Door.kept) h d hx

theorem State.runDoor_doorsKept (d : Fin 8) {f : DoorView → DoorRun → DoorRun}
    (hf : ∀ (v : DoorView) (r : DoorRun), r.door.kept → (f v r).door.kept) : (s.runDoor d f).doorsKept :=
  doorsKept_of_same (State.setDoor_doorsKept h d (hf (s.doorView d) ⟨s.doors[d], [], false⟩ (h d)))
    (s.finishDoor_doors d _)

theorem State.doorMask_doorsKept (d : Fin 8) (was byStop : Bool) : (s.doorMask d was byStop).doorsKept :=
  State.runDoor_doorsKept h d fun v _ hr => DoorRun.maskChanged_kept hr v was byStop

theorem State.setServiceMask_doorsKept (on : Bool) (d : Fin 8) : (s.setServiceMask on d).doorsKept :=
  State.doorMask_doorsKept (State.setDoor_doorsKept h d (x := { s.doors[d] with serviceMask := on }) (h d)) d _ _

theorem State.maskNotice_doorsKept (target : Target) (on byStop : Bool) : (s.maskNotice target on byStop).doorsKept := by
  cases target with
  | one d =>
    exact State.doorMask_doorsKept
      (State.setDoor_doorsKept h d (x := { s.doors[d] with overrideMask := on }) (h d)) d _ byStop
  | all =>
    have hg : State.doorsKept { s with groupMask := on } := h
    exact forEach_invariant State.doorsKept _ _ (fun d _ ht => State.doorMask_doorsKept ht d _ byStop) hg

theorem State.doorNote_doorsKept (d : Fin 8) (n : SlotNote) : (s.doorNote d n).doorsKept := by
  unfold State.doorNote
  split
  · exact State.setDoor_doorsKept h d (x := s.doors[d].cancelDebounce) (h d)
  · exact h
  · exact State.runDoor_doorsKept h d fun v _ hr => DoorRun.report_kept hr v _ _

theorem State.commitDoor_doorsKept (d : Fin 8) (old new : DoorRow) : (s.commitDoor d old new).doorsKept := by
  unfold State.commitDoor
  split
  · exact State.setDoor_doorsKept h d (Door.relink_kept (h d) old new)
  · exact State.runDoor_doorsKept h d fun _ r _ => r.retire_kept
  · exact State.setDoor_doorsKept h d (s.doors[d].enlist_kept new.burst)
  · exact h

theorem State.commitTable_doorsKept (t : TableId) : (s.commitTable t).doorsKept := by
  have hn : (s.installBank t).doorsKept := h
  cases t with
  | door => exact forEach_invariant State.doorsKept _ _ (fun d _ ht => State.commitDoor_doorsKept ht d _ _) hn
  | _ => exact doorsKept_of_same hn (by simp [State.commitTable])

theorem State.startPart_doorsKept : s.startPart.doorsKept := by
  have hcool : (State.startCoolers (State.startZones { s with part := .running })).doorsKept :=
    doorsKept_of_same h (by simp)
  have hdoors : (State.startDoors (State.startCoolers (State.startZones { s with part := .running }))).doorsKept :=
    forEach_invariant State.doorsKept _ _ (fun d t ht => by
      unfold State.startDoor
      split
      · exact State.setDoor_doorsKept ht d (x := t.doors[d].start) (ht d)
      · exact ht) hcool
  exact doorsKept_of_same hdoors (by simp [State.startPart])

theorem State.emptyTable_doorsKept : s.emptyTable.doorsKept := fun d => by
  have hd : s.emptyTable.doors[d] = { s.doors[d] with overrideMask := false } := by simp [State.emptyTable]
  rw [hd]
  exact h d

theorem State.stopPart_doorsKept : s.stopPart.doorsKept := by
  have hcool : (State.stopCoolers (State.stopZones { s with part := .standby })).doorsKept :=
    doorsKept_of_same h (by simp)
  have hdoors : (State.stopDoors (State.stopCoolers (State.stopZones { s with part := .standby }))).doorsKept :=
    forEach_invariant State.doorsKept _ _
      (fun d _ ht => State.runDoor_doorsKept ht d fun _ r _ => r.stop_kept) hcool
  have hscreen : (State.stopScreen (State.stopDoors (State.stopCoolers
      (State.stopZones { s with part := .standby })))).doorsKept := doorsKept_of_same hdoors (by simp)
  exact doorsKept_of_same (State.emptyTable_doorsKept hscreen) (by simp [State.stopPart])

end

/-! ### The commands -/

theorem doorsKept_of_reset {s : State} (h : ∀ d : Fin 8, s.doors[d].burst = .idle ∧ s.doors[d].timer = none
    ∧ s.doors[d].staged = none) : s.doorsKept := fun d => by
  obtain ⟨hb, ht, hs⟩ := h d
  exact Door.kept_of_idle hb ht hs

theorem State.restartPart_doors (s : State) (d : Fin 8) : s.restartPart.doors[d] = Door.restart (s.doorRow d) := by
  have h : s.restartPart.doors = s.restartKept.doors := by simp [State.restartPart]
  rw [h]
  simp [State.restartKept]

theorem doorsKept_requests : KeptByRequests State.doorsKept where
  core := by
    rintro s t ⟨_, _, _, _, _, _, _, hd, _, _, _, _, _, _⟩ h
    exact doorsKept_of_same h hd
  load _ _ _ h := h
  commit _ t h := State.commitTable_doorsKept h t
  start _ _ h := State.startPart_doorsKept h
  stop _ h := State.stopPart_doorsKept h
  restart s _ := doorsKept_of_reset fun d => by
    rw [s.restartPart_doors d]
    exact ⟨rfl, rfl, rfl⟩
  clear s d h := State.setDoor_doorsKept h d (x := { s.doors[d] with latch := false }) (h d)
  mask _ on d h := State.setServiceMask_doorsKept h on d
  arm s armed k h := doorsKept_of_same h (by simp)
  loadSet s k n _ h := doorsKept_of_same h (by simp [State.loadSet])
  set s kind target v d o h := doorsKept_of_same h (by simp)
  release s kind target h := doorsKept_of_same h (by simp)

theorem exec_doorsKept (c : Instr) (s : State) (h : s.doorsKept) : Leads State.doorsKept (exec c s) := by
  refine doorsKept_requests.commands (fun c s he h => ?_) c s h
  have taken (e : Instr) : (s.take e).doorsKept := h
  cases c with
  | powerOnReset node rate => exact leads_next.mpr (doorsKept_of_reset fun d => by simp [State.powerOn, State.reset, Door.reset])
  | doorStateNotification d n =>
    refine leads_next.mpr ?_
    split
    · exact State.doorNote_doorsKept (taken _) d n
    · exact taken _
  | debounceExpiry d => exact leads_next.mpr (State.runDoor_doorsKept h d fun v r hr => r.debounceExpiry_kept hr v)
  | delayExpiry d =>
    exact leads_next.mpr (State.runDoor_doorsKept h d fun v _ hr =>
      DoorRun.timerExpiry_kept hr _ (DoorRun.endDelay_kept (DoorRun.enterIdle_kept v.group) _))
  | burstExpiry d =>
    exact leads_next.mpr (State.runDoor_doorsKept h d fun v r hr => DoorRun.timerExpiry_kept hr _ (r.endBurst_kept v))
  | gapExpiry d =>
    exact leads_next.mpr (State.runDoor_doorsKept h d fun v r hr => DoorRun.timerExpiry_kept hr _ (r.endGap_kept v))
  | recoveryExpiry d =>
    exact leads_next.mpr (State.runDoor_doorsKept h d fun v r hr =>
      DoorRun.timerExpiry_kept hr _ (DoorRun.enterIdle_kept v.group r))
  | maskChange target on byStop => exact leads_next.mpr (State.maskNotice_doorsKept (taken _) target on byStop)
  | reply id data => exact leads_reply (doorsKept_of_same h (by simp))
  | _ =>
    first
    | (cases he; done)
    | exact leads_next.mpr (doorsKept_of_same h (by simp [apply_ite State.doors]))

theorem Timer.tick_eq_none (t : Timer) : t.tick = none ↔ t = none := by simp [Timer.tick]

theorem State.passMs_doorsKept {s : State} (h : s.doorsKept) : s.passMs.doorsKept := fun d => by
  have hd : s.passMs.doors[d] = s.doors[d].tick (s.part == .running && (s.doorRow d).used) := by simp [State.passMs]
  rw [hd]
  exact ⟨(Timer.tick_eq_none _).trans (h d).1, (h d).2⟩

/-- Every step keeps the door timers in step with the burst states. -/
theorem step_doorsKept {s t : State} (h : step s = .next t) (hs : s.doorsKept) : t.doorsKept :=
  step_keeps exec_doorsKept (fun _ _ h => h) (fun _ h => State.passMs_doorsKept h) h hs

end Sys2Proof.Machine
end

section
/-! Support: walks over the indices of a block, turn by turn. -/

namespace Sys2Proof.Machine

/-- A condition that says how far a walk has come holds at its end for all turns. -/
theorem forEach_progress {n : Nat} (P : Nat → State → Prop) (f : Fin n → State → State) (s : State)
    (h : ∀ (i : Fin n) (t : State), P i t → P (i + 1) (f i t)) (h0 : P 0 s) : P n (forEach n f s) := by
  have key : ∀ (l : List (Fin n)) (k : Nat) (t : State), l.map Fin.val = List.range' k l.length → P k t →
      P (k + l.length) (l.foldl (fun t i => f i t) t) := by
    intro l
    induction l with
    | nil => intro k t _ ht; exact ht
    | cons i l ih =>
      intro k t hl ht
      rw [List.map_cons, List.length_cons, List.range'_succ] at hl
      obtain ⟨hi, hl⟩ := List.cons.inj hl
      rw [List.foldl_cons, List.length_cons, show k + (l.length + 1) = k + 1 + l.length by omega]
      exact ih (k + 1) _ hl (hi ▸ h i t (hi ▸ ht))
  have hr : (List.finRange n).map Fin.val = List.range' 0 (List.finRange n).length := by
    simp [List.range_eq_range']
  have hn := key (List.finRange n) 0 s hr h0
  rwa [List.length_finRange, Nat.zero_add] at hn

/-- A walk whose states after each number of turns are known. -/
theorem forEach_eq {n : Nat} (S : Nat → State) (f : Fin n → State → State) {s : State}
    (h : ∀ i : Fin n, f i (S i) = S (i + 1)) (h0 : s = S 0) : forEach n f s = S n :=
  forEach_progress (fun k t => t = S k) f s (fun i _ ht => ht ▸ h i) h0

/-- A vector in which the entries below k are replaced. -/
def upTo {α : Type} {n : Nat} (k : Nat) (new : Fin n → α) (old : Vector α n) : Vector α n :=
  Vector.ofFn fun j : Fin n => if j.val < k then new j else old[j]

section
variable {α : Type} {n : Nat} (new : Fin n → α) (old : Vector α n)

@[simp] theorem upTo_zero : upTo 0 new old = old := by
  refine Vector.ext fun j hj => ?_
  simp [upTo]

@[simp] theorem upTo_all : upTo n new old = Vector.ofFn new := by
  refine Vector.ext fun j hj => ?_
  simp [upTo]

@[simp] theorem upTo_get (i : Fin n) : (upTo i.val new old)[i] = old[i] := by
  simp [upTo]

theorem upTo_get_of_le (i : Fin n) {k : Nat} (h : k ≤ i.val) : (upTo k new old)[i] = old[i] := by
  simp [upTo, Nat.not_lt.mpr h]

theorem upTo_succ (i : Fin n) : (upTo i.val new old).set i (new i) = upTo (i.val + 1) new old := by
  refine Vector.ext fun j hj => ?_
  simp only [upTo, Vector.getElem_ofFn, Vector.getElem_set, Fin.getElem_fin]
  by_cases hji : i.val = j
  · subst hji; simp
  · have : (j < i.val + 1) ↔ j < i.val := by omega
    simp [hji, this]

end

/-- The first i + 1 indices are the first i and i itself. -/
theorem finRange_take_succ {n : Nat} (i : Fin n) :
    (List.finRange n).take (i.val + 1) = (List.finRange n).take i.val ++ [i] := by
  rw [List.take_add_one]
  simp

/-- What a walk has emitted after i + 1 turns. -/
theorem flatMap_take_succ {n : Nat} (es : Fin n → List Instr) (i : Fin n) :
    ((List.finRange n).take (i.val + 1)).flatMap es = ((List.finRange n).take i.val).flatMap es ++ es i := by
  rw [finRange_take_succ, List.flatMap_append, List.flatMap_singleton]

@[simp] theorem finRange_take_all (n : Nat) : (List.finRange n).take n = List.finRange n := by
  rw [List.take_of_length_le (by simp)]

end Sys2Proof.Machine
end

section
/-! Proofs for sections 2.5, 3.8, 5.9 and 6.8: every command keeps STANDBY quiet (R30, R52, R80, R115, R136). -/

namespace Sys2Proof.Machine

/-! ### Doors in STANDBY -/

section
variable {v : DoorView} (ha : v.active = false) {r : DoorRun}
include ha

theorem DoorRun.accept_idle (isOpen : Bool) : (r.accept v isOpen).door.burst = r.door.burst := by
  cases isOpen <;> simp [DoorRun.accept, DoorRun.opened, DoorRun.closed, ha, DoorRun.modify]

theorem DoorRun.report_idle (period : Nat) (isOpen : Bool) : (r.report v period isOpen).door.burst = r.door.burst := by
  unfold DoorRun.report
  repeat' split
  · rfl
  · rfl
  · exact DoorRun.accept_idle ha isOpen
  · rfl

theorem DoorRun.debounceExpiry_idle : (r.debounceExpiry v).door.burst = r.door.burst := by
  unfold DoorRun.debounceExpiry
  split
  · exact DoorRun.accept_idle ha _
  · rfl

theorem DoorRun.maskChanged_idle (was byStop : Bool) : (r.maskChanged v was byStop).door.burst = r.door.burst := by
  simp [DoorRun.maskChanged, ha]

end

/-- A door in IDLE has no door timer to expire. -/
theorem DoorRun.timerExpiry_of_idle {r : DoorRun} (h : r.door.burst = .idle) {expected : BurstState}
    (he : expected ≠ .idle) (f : DoorRun → DoorRun) : r.timerExpiry expected f = r := by
  have hne : ¬ (r.door.timer ≠ none ∧ r.door.burst = expected) := fun hb => he (hb.2 ▸ h)
  simp [DoorRun.timerExpiry, hne]

theorem Door.relink_burst (d : Door) (old new : DoorRow) : (d.relink old new).burst = d.burst := by
  unfold Door.relink Door.newFields Door.cancelDebounce
  dsimp only
  repeat' split
  all_goals rfl

/-- No door is at work. -/
def State.burstsIdle (s : State) : Prop := ∀ d : Fin 8, s.doors[d].burst = .idle

theorem burstsIdle_of_same {s t : State} (h : s.burstsIdle) (ht : t.doors = s.doors) : t.burstsIdle := by
  unfold State.burstsIdle
  rw [ht]
  exact h

section
variable {s : State} (h : s.burstsIdle)
include h

theorem State.setDoor_burstsIdle (d : Fin 8) {x : Door} (hx : x.burst = .idle) : (s.setDoor d x).burstsIdle :=
  State.setDoor_all (p := fun x => x.burst = .idle) h d hx

theorem State.runDoor_burstsIdle (d : Fin 8) {f : DoorView → DoorRun → DoorRun}
    (hf : ∀ r : DoorRun, r.door.burst = .idle → (f (s.doorView d) r).door.burst = .idle) :
    (s.runDoor d f).burstsIdle :=
  burstsIdle_of_same (State.setDoor_burstsIdle h d (hf ⟨s.doors[d], [], false⟩ (h d))) (s.finishDoor_doors d _)

theorem State.runDoor_burstsIdle_of_timer (d : Fin 8) {expected : BurstState} (he : expected ≠ .idle)
    (f : DoorView → DoorRun → DoorRun) : (s.runDoor d fun v r => r.timerExpiry expected (f v)).burstsIdle :=
  State.runDoor_burstsIdle h d fun r hr => by rwa [DoorRun.timerExpiry_of_idle hr he]

theorem State.commitDoors_burstsIdle (old : State) : (old.commitDoors s).burstsIdle :=
  forEach_invariant State.burstsIdle _ s (fun d t ht => by
    unfold State.commitDoor
    split
    · exact State.setDoor_burstsIdle ht d (by rw [Door.relink_burst]; exact ht d)
    · exact State.runDoor_burstsIdle ht d fun _ _ => rfl
    · exact State.setDoor_burstsIdle ht d rfl
    · exact ht) h

variable (hp : s.part = .standby)
include hp

theorem State.doorMask_burstsIdle (d : Fin 8) (was byStop : Bool) : (s.doorMask d was byStop).burstsIdle :=
  State.runDoor_burstsIdle h d fun r hr => (r.maskChanged_idle (by simp [State.doorView, hp]) was byStop).trans hr

end

theorem State.setServiceMask_burstsIdle {s : State} (h : s.burstsIdle) (hp : s.part = .standby) (on : Bool)
    (d : Fin 8) : (s.setServiceMask on d).burstsIdle :=
  State.doorMask_burstsIdle (s := s.setDoor d { s.doors[d] with serviceMask := on })
    (State.setDoor_burstsIdle h d (h d)) hp d _ _

theorem State.maskNotice_burstsIdle {s : State} (h : s.burstsIdle) (hp : s.part = .standby) (target : Target)
    (on byStop : Bool) : (s.maskNotice target on byStop).burstsIdle := by
  cases target with
  | one d =>
    exact State.doorMask_burstsIdle (s := s.setDoor d { s.doors[d] with overrideMask := on })
      (State.setDoor_burstsIdle h d (h d)) hp d _ byStop
  | all =>
    have hg : State.burstsIdle { s with groupMask := on } ∧ s.part = .standby := ⟨h, hp⟩
    exact (forEach_invariant (fun t => t.burstsIdle ∧ t.part = .standby)
      (fun d t => t.doorMask d (t.doors[d].masked s.groupMask) byStop) { s with groupMask := on }
      (fun d t ht => ⟨State.doorMask_burstsIdle ht.1 ht.2 d _ byStop, by simpa using ht.2⟩) hg).1

theorem State.doorNote_burstsIdle {s : State} (h : s.burstsIdle) (hp : s.part = .standby) (d : Fin 8) (n : SlotNote) :
    (s.doorNote d n).burstsIdle := by
  unfold State.doorNote
  split
  · exact State.setDoor_burstsIdle h d (h d)
  · exact h
  · exact State.runDoor_burstsIdle h d fun r hr => (r.report_idle (by simp [State.doorView, hp]) _ _).trans hr

/-! ### Zones in STANDBY -/

/-- A zone that takes no pass. -/
def Zone.rests (z : Zone) : Prop := z.mode = .off ∧ z.pass = none

/-- No zone takes a pass. -/
def State.zonesRest (s : State) : Prop := ∀ z : Fin 8, s.zones[z].rests

theorem zonesRest_of_same {s t : State} (h : s.zonesRest) (ht : t.zones = s.zones) : t.zonesRest := by
  unfold State.zonesRest
  rw [ht]
  exact h

theorem State.setZone_zonesRest {s : State} (h : s.zonesRest) (z : Fin 8) {x : Zone} (hx : x.rests) :
    (s.setZone z x).zonesRest := fun j => by
  change ((s.zones.set z x)[j]).rests
  by_cases hj : z = j
  · subst hj
    simpa using hx
  · have hne : z.val ≠ j.val := fun e => hj (Fin.ext e)
    rw [show (s.zones.set z x)[j] = s.zones[j] from Vector.getElem_set_ne _ _ hne]
    exact h j

theorem State.commitZone_zonesRest {s : State} (h : s.zonesRest) (hp : s.part = .standby) (z : Fin 8)
    (old new : ZoneRow) : (s.commitZone z old new).zonesRest := by
  have hr : (s.part == .running) = false := by simp [hp]
  unfold State.commitZone
  split
  · exact h
  · split
    · exact zonesRest_of_same (State.setZone_zonesRest h z (x := s.zones[z].changed (s.part == .running) old new)
        (by rw [hr]; exact h z)) (by simp)
    · exact zonesRest_of_same (State.setZone_zonesRest h z (x := s.zones[z].unused old) ⟨rfl, rfl⟩) (by simp)
    · exact State.setZone_zonesRest h z (by rw [hr]; exact ⟨rfl, (h z).2⟩)
    · exact h

theorem State.stopZones_zonesRest (s : State) : s.stopZones.zonesRest := by
  have hall := forEach_progress (fun k t => ∀ z : Fin 8, z.val < k → t.zones[z].rests)
    (fun z t => t.stopZone z) s (fun i t ht z hz => by
      have hset : (t.stopZone i).zones = t.zones.set i (t.zones[i].stop (t.zoneRow i)) := by simp [State.stopZone]
      rw [hset]
      by_cases hi : i = z
      · subst hi
        simp [Zone.rests, Zone.stop]
      · have hne : i.val ≠ z.val := fun e => hi (Fin.ext e)
        rw [show (t.zones.set i (t.zones[i].stop (t.zoneRow i)))[z] = t.zones[z] from Vector.getElem_set_ne _ _ hne]
        exact ht z (by omega)) (fun z hz => absurd hz (Nat.not_lt_zero _))
  exact fun z => hall z z.isLt

theorem State.stopDoors_burstsIdle (s : State) : s.stopDoors.burstsIdle := by
  have hall := forEach_progress (fun k t => ∀ d : Fin 8, d.val < k → t.doors[d].burst = .idle)
    (fun d t => t.runDoor d fun _ r => r.stop) s (fun i t ht d hd => by
      have hset : (t.runDoor i fun _ r => r.stop).doors
          = t.doors.set i (DoorRun.stop ⟨t.doors[i], [], false⟩).door := t.finishDoor_doors i _
      rw [hset]
      by_cases hi : i = d
      · subst hi
        simp [DoorRun.stop, DoorRun.modify]
      · have hne : i.val ≠ d.val := fun e => hi (Fin.ext e)
        rw [show (t.doors.set i (DoorRun.stop ⟨t.doors[i], [], false⟩).door)[d] = t.doors[d] from
          Vector.getElem_set_ne _ _ hne]
        exact ht d (by omega)) (fun d hd => absurd hd (Nat.not_lt_zero _))
  exact fun d => hall d d.isLt

/-! ### What leaves the screen's stage and timer, and the status timer -/

/-- What decides whether the screen unit and the status frame are at work. -/
def State.quietParts (s : State) : Stage × Timer × Timer := (s.screen.stage, s.screen.pass, s.overrides.statusTimer)

@[simp] theorem State.formFlap_quietParts (s : State) : s.formFlap.quietParts = s.quietParts := by
  unfold State.formFlap
  split <;> rfl

@[simp] theorem State.handStage_quietParts (s : State) : s.handStage.quietParts = s.quietParts :=
  State.formFlap_quietParts _

theorem State.enterStage_quietParts (s : State) (stage : Stage) (dwell : Nat) :
    (s.enterStage stage dwell).quietParts = (stage, s.screen.pass, s.overrides.statusTimer) := by
  unfold State.enterStage
  dsimp only
  split
  · rfl
  · exact State.handStage_quietParts _

@[simp] theorem State.removeRecords_quietParts (s : State) (gone : Record → Bool) :
    (s.removeRecords gone).quietParts = s.quietParts := by
  unfold State.removeRecords
  split <;> rfl

@[simp] theorem State.setOverride_quietParts (s : State) (kind target : Byte) (v : BitVec 16) (d : Byte) (o : Origin) :
    (s.setOverride kind target v d o).1.quietParts = s.quietParts := by
  unfold State.setOverride State.enterRecord
  dsimp only
  repeat' split
  all_goals rfl

@[simp] theorem State.releaseOverride_quietParts (s : State) (kind target : Byte) :
    (s.releaseOverride kind target).1.quietParts = s.quietParts := by
  unfold State.releaseOverride
  repeat' split
  all_goals first | rfl | exact State.removeRecords_quietParts s _

@[simp] theorem State.offerAck_quietParts (s : State) (f : Frame) : (s.offerAck f).quietParts = s.quietParts := by
  simp [State.quietParts]

theorem State.recordExpiry_quietParts (s : State) (kind : OverrideKind) (target : Target) :
    (s.recordExpiry kind target).quietParts = s.quietParts := by
  unfold State.recordExpiry
  split
  · exact State.removeRecords_quietParts s _
  · rfl

theorem State.panelExpiry_quietParts (s : State) : s.panelExpiry.quietParts = s.quietParts := by
  unfold State.panelExpiry
  dsimp only
  split
  · rfl
  · split
    · exact State.removeRecords_quietParts _ _
    · rfl

@[simp] theorem State.panelSet_quietParts (s : State) (tag kind target : Byte) (v : BitVec 16) (d : Byte) :
    (s.panelSet tag kind target v d).quietParts = s.quietParts := by
  unfold State.panelSet
  split
  · exact (State.offerAck_quietParts _ _).trans (State.setOverride_quietParts s.panelAlive kind target v d .panel)
  · rfl

@[simp] theorem State.panelRelease_quietParts (s : State) (tag kind target : Byte) :
    (s.panelRelease tag kind target).quietParts = s.quietParts := by
  unfold State.panelRelease
  split
  · exact (State.offerAck_quietParts _ _).trans (State.releaseOverride_quietParts s.panelAlive kind target)
  · rfl

@[simp] theorem State.panelHeartbeat_quietParts (s : State) (tag : Byte) :
    (s.panelHeartbeat tag).quietParts = s.quietParts := by
  unfold State.panelHeartbeat
  split
  · exact State.offerAck_quietParts s.panelAlive _
  · rfl

@[simp] theorem State.panelTripEnd_quietParts (s : State) (tag : Byte) :
    (s.panelTripEnd tag).quietParts = s.quietParts := by
  unfold State.panelTripEnd
  dsimp only
  repeat' split
  all_goals simp [State.quietParts, State.panelAlive]

theorem State.commitStage_quietParts (s : State) : s.commitStage.quietParts = s.quietParts := by
  have hrefresh (t : State) : (t.refreshCapacities [screenClaim] false).quietParts = t.quietParts := by
    simp [State.quietParts]
  unfold State.commitStage
  split
  · exact hrefresh s
  · exact (hrefresh _).trans s.handStage_quietParts

/-! ### The part at rest -/

/-- Nothing of the part is at work: what `State.standbyQuiet` says of STANDBY. -/
def State.rests (s : State) : Prop :=
  s.zonesRest ∧ s.burstsIdle ∧ s.screen.stage = .off ∧ s.screen.pass = none ∧ s.overrides.statusTimer = none

theorem State.standbyQuiet_iff (s : State) : s.standbyQuiet ↔ (s.part = .standby → s.rests) := Iff.rfl

/-- An event that leaves the part state alone keeps STANDBY quiet if it leaves the part at rest there. -/
theorem standbyQuiet_of_rests {s t : State} (h : s.standbyQuiet) (hp : t.part = s.part)
    (hr : s.part = .standby → s.rests → t.rests) : t.standbyQuiet :=
  fun ht => hr (hp ▸ ht) (h (hp ▸ ht))

theorem rests_of_same {s t : State} (h : s.rests) (hz : t.zones = s.zones) (hd : t.doors = s.doors)
    (hq : t.quietParts = s.quietParts) : t.rests := by
  obtain ⟨hzones, hdoors, hstage, hpass, hstatus⟩ := h
  obtain ⟨h1, h2⟩ := Prod.mk.inj hq
  obtain ⟨h2, h3⟩ := Prod.mk.inj h2
  exact ⟨zonesRest_of_same hzones hz, burstsIdle_of_same hdoors hd, h1.trans hstage, h2.trans hpass, h3.trans hstatus⟩

theorem standbyQuiet_of_same {s t : State} (h : s.standbyQuiet) (hp : t.part = s.part) (hz : t.zones = s.zones)
    (hd : t.doors = s.doors) (hq : t.quietParts = s.quietParts) : t.standbyQuiet :=
  standbyQuiet_of_rests h hp fun _ hr => rests_of_same hr hz hd hq

theorem standbyQuiet_of_doors {s t : State} (h : s.standbyQuiet) (hp : t.part = s.part) (hz : t.zones = s.zones)
    (hd : s.part = .standby → s.burstsIdle → t.burstsIdle) (hq : t.quietParts = s.quietParts) : t.standbyQuiet :=
  standbyQuiet_of_rests h hp fun hs hr => by
    obtain ⟨hzones, _, hrest⟩ := rests_of_same (t := { t with doors := s.doors }) hr hz rfl hq
    exact ⟨hzones, hd hs hr.2.1, hrest⟩

/-! ### Commits, START, STOP and the resets -/

theorem standbyQuiet_of_running {s : State} (h : s.part = .running) : s.standbyQuiet := fun hs => by
  rw [h] at hs
  cases hs

theorem State.commitTable_standbyQuiet {s : State} (h : s.standbyQuiet) (t : TableId) :
    (s.commitTable t).standbyQuiet := by
  have hn : (s.installBank t).standbyQuiet := h
  cases t with
  | zone =>
    refine standbyQuiet_of_rests hn (by simp [State.commitTable]) fun hp hr => ?_
    obtain ⟨hzones, hdoors, hscreen⟩ := hr
    have hrows : (s.commitZoneRows (s.installBank .zone)).zonesRest ∧
        (s.commitZoneRows (s.installBank .zone)).part = .standby :=
      forEach_invariant (fun t => t.zonesRest ∧ t.part = .standby)
        (fun z t => t.commitZone z (s.zoneRow z) ((s.installBank .zone).zoneRow z)) (s.installBank .zone)
        (fun z t ht => ⟨State.commitZone_zonesRest ht.1 ht.2 z _ _, by simpa using ht.2⟩) ⟨hzones, hp⟩
    exact ⟨zonesRest_of_same hrows.1 (by simp [State.commitTable, State.commitZones]),
      burstsIdle_of_same hdoors (by simp [State.commitTable]), by simpa [State.commitTable] using hscreen⟩
  | door =>
    exact standbyQuiet_of_doors hn (by simp [State.commitTable]) (by simp [State.commitTable])
      (fun _ hd => State.commitDoors_burstsIdle hd s) (by simp [State.commitTable, State.quietParts])
  | stage =>
    exact standbyQuiet_of_same hn (by simp [State.commitTable]) (by simp [State.commitTable])
      (by simp [State.commitTable]) (State.commitStage_quietParts _)
  | step =>
    have hmove : (State.movePointer (s.installBank .step)).quietParts = (s.installBank .step).quietParts := by
      unfold State.movePointer
      repeat' split
      all_goals rfl
    exact standbyQuiet_of_same hn (by simp [State.commitTable]) (by simp [State.commitTable])
      (by simp [State.commitTable]) hmove
  | system =>
    refine standbyQuiet_of_rests hn (by simp [State.commitTable]) fun _ hr => ?_
    obtain ⟨hzones, hdoors, hstage, hpass, hstatus⟩ := hr
    have hscreen : (State.commitTable s .system).screen
        = (s.systemScreen (s.systemLoad (s.installBank .system))).screen := by
      simp [State.commitTable, State.commitSystem]
    have hload : (s.systemLoad (s.installBank .system)).screen = s.screen := by simp
    have hquiet : (s.systemScreen (s.systemLoad (s.installBank .system))).screen.stage = .off
        ∧ (s.systemScreen (s.systemLoad (s.installBank .system))).screen.pass = none := by
      unfold State.systemScreen
      split <;> simpa [hload] using ⟨hstage, hpass⟩
    exact ⟨zonesRest_of_same hzones (by simp [State.commitTable]),
      burstsIdle_of_same hdoors (by simp [State.commitTable]), hscreen ▸ hquiet.1, hscreen ▸ hquiet.2,
      by simpa [State.commitTable] using hstatus⟩
  | _ =>
    exact standbyQuiet_of_same hn (by simp [State.commitTable]) (by simp [State.commitTable])
      (by simp [State.commitTable]) (by simp [State.commitTable, State.quietParts])

/-- STOP up to the emptied override table. -/
def State.stoppedBlocks (s : State) : State := s.stopZones.stopCoolers.stopDoors.stopScreen.emptyTable

theorem State.stoppedBlocks_rests (s : State) : s.stoppedBlocks.rests := by
  have hdoors : s.stopZones.stopCoolers.stopDoors.stopScreen.burstsIdle :=
    burstsIdle_of_same (State.stopDoors_burstsIdle s.stopZones.stopCoolers) (by simp)
  have hstage (t : State) : t.stopScreen.screen.stage = .off :=
    congrArg Prod.fst (t.enterStage_quietParts .off 0)
  have hempty (t : State) (hz : t.zonesRest) (hd : t.burstsIdle) (hst : t.screen.stage = .off)
      (hp : t.screen.pass = none) : t.emptyTable.rests :=
    ⟨hz, fun d => by simpa [State.emptyTable] using hd d, hst, hp, rfl⟩
  exact hempty _ (zonesRest_of_same s.stopZones_zonesRest (by simp)) hdoors (hstage _) rfl

theorem State.stopPart_standbyQuiet (s : State) : s.stopPart.standbyQuiet := fun _ =>
  rests_of_same (State.stoppedBlocks_rests { s with part := .standby }) (by simp [State.stopPart, State.stoppedBlocks])
    (by simp [State.stopPart, State.stoppedBlocks]) (by simp [State.stopPart, State.stoppedBlocks, State.quietParts])

theorem State.restartPart_standbyQuiet (s : State) : s.restartPart.standbyQuiet := fun _ => by
  have hz : s.restartPart.zones = s.restartKept.zones := by simp [State.restartPart]
  refine ⟨fun z => ?_, fun d => ?_, by simp [State.restartPart]; rfl, by simp [State.restartPart]; rfl,
    by simp [State.restartPart]; rfl⟩
  · rw [hz]
    simp [State.restartKept, Zone.restart, Zone.reset]
  · rw [s.restartPart_doors d]
    rfl

theorem State.powerOn_standbyQuiet (s : State) (node : Fin 4) (rate : BitRate) : (s.powerOn node rate).standbyQuiet :=
  fun _ => ⟨fun z => by simp [State.powerOn, State.reset, Zone.reset],
    fun d => by simp [State.powerOn, State.reset, Door.reset], rfl, rfl, rfl⟩

/-! ### The commands -/

theorem standbyQuiet_requests : KeptByRequests State.standbyQuiet where
  core := by
    rintro s t ⟨hp, _, _, _, _, hz, _, hd, _, _, hs, ho, _, _⟩ h
    exact standbyQuiet_of_same h hp hz hd (by simp [State.quietParts, hs, ho])
  load _ _ _ h := h
  commit _ t h := State.commitTable_standbyQuiet h t
  start s _ _ := standbyQuiet_of_running (by simp [State.startPart])
  stop s _ := s.stopPart_standbyQuiet
  restart s _ := s.restartPart_standbyQuiet
  clear s d h := standbyQuiet_of_doors h rfl rfl (fun _ hd => State.setDoor_burstsIdle hd d (hd d)) rfl
  mask s on d h := standbyQuiet_of_doors h (by simp) (by simp)
    (fun hp hd => State.setServiceMask_burstsIdle hd hp on d) (by simp [State.quietParts])
  arm s armed k h := h
  loadSet s k n _ h := standbyQuiet_of_same h (by simp [State.loadSet]) (by simp [State.loadSet])
    (by simp [State.loadSet]) (by simp [State.loadSet, State.quietParts])
  set s kind target v d o h := standbyQuiet_of_same h (by simp) (by simp) (by simp) (by simp)
  release s kind target h := standbyQuiet_of_same h (by simp) (by simp) (by simp) (by simp)

theorem exec_standbyQuiet (c : Instr) (s : State) (h : s.standbyQuiet) : Leads State.standbyQuiet (exec c s) := by
  refine standbyQuiet_requests.commands (fun c s he h => ?_) c s h
  have taken (e : Instr) : (s.take e).standbyQuiet := h
  cases c with
  | powerOnReset node rate => exact leads_next.mpr (s.powerOn_standbyQuiet node rate)
  | zonePass z =>
    refine leads_next.mpr (standbyQuiet_of_rests h (by simp) fun _ hr => ?_)
    have : s.zonePass z = s := if_pos (hr.1 z).2
    rwa [this]
  | doorStateNotification d n =>
    refine leads_next.mpr (standbyQuiet_of_doors (taken (.doorStateNotification d n)) (by split <;> simp)
      (by split <;> simp) (fun hp hd => ?_) (by split <;> simp [State.quietParts]))
    split
    · exact State.doorNote_burstsIdle hd hp d n
    · exact hd
  | debounceExpiry d =>
    exact leads_next.mpr (standbyQuiet_of_doors h (by simp) (by simp) (fun hp hd => State.runDoor_burstsIdle hd d
      fun r hr => (r.debounceExpiry_idle (by simp [State.doorView, hp])).trans hr) (by simp [State.quietParts]))
  | delayExpiry d =>
    exact leads_next.mpr (standbyQuiet_of_doors h (by simp) (by simp)
      (fun _ hd => State.runDoor_burstsIdle_of_timer hd d (by decide) _) (by simp [State.quietParts]))
  | burstExpiry d =>
    exact leads_next.mpr (standbyQuiet_of_doors h (by simp) (by simp)
      (fun _ hd => State.runDoor_burstsIdle_of_timer hd d (by decide) _) (by simp [State.quietParts]))
  | gapExpiry d =>
    exact leads_next.mpr (standbyQuiet_of_doors h (by simp) (by simp)
      (fun _ hd => State.runDoor_burstsIdle_of_timer hd d (by decide) _) (by simp [State.quietParts]))
  | recoveryExpiry d =>
    exact leads_next.mpr (standbyQuiet_of_doors h (by simp) (by simp)
      (fun _ hd => State.runDoor_burstsIdle_of_timer hd d (by decide) _) (by simp [State.quietParts]))
  | maskChange target on byStop =>
    exact leads_next.mpr (standbyQuiet_of_doors (taken _) (by simp) (by simp)
      (fun hp hd => State.maskNotice_burstsIdle hd hp target on byStop) (by simp [State.quietParts]))
  | screenPass =>
    refine leads_next.mpr (standbyQuiet_of_rests h (by simp) fun _ hr => ?_)
    obtain ⟨_, _, _, hpass, _⟩ := id hr
    have : s.takeScreenPass = s := by simp [State.takeScreenPass, hpass]
    rwa [this]
  | screenGrantDelivery g =>
    exact leads_next.mpr (standbyQuiet_of_same h (by simp) (by simp) (by simp) (State.formFlap_quietParts _))
  | screenMaxEntryNotice =>
    refine leads_next.mpr (standbyQuiet_of_rests h (by simp) fun hp hr => ?_)
    have hn : ¬ ((s.take .screenMaxEntryNotice).part = .running
        ∧ (s.take .screenMaxEntryNotice).screen.maxCount = 0) := fun hrun => by simp [hp] at hrun
    unfold State.maxEntry
    rw [if_neg hn]
    exact rests_of_same hr rfl rfl rfl
  | screenMaxDepartureNotice =>
    refine leads_next.mpr (standbyQuiet_of_rests h (by simp) fun hp hr => ?_)
    have hn : ¬ ((s.take .screenMaxDepartureNotice).part = .running
        ∧ (s.take .screenMaxDepartureNotice).screen.maxCount = 1) := fun hrun => by simp [hp] at hrun
    unfold State.maxDeparture
    rw [if_neg hn]
    exact rests_of_same hr rfl rfl rfl
  | panelTimerExpiry =>
    exact leads_next.mpr (standbyQuiet_of_same h (by simp) (by simp) (by simp) s.panelExpiry_quietParts)
  | statusTimerExpiry =>
    refine leads_next.mpr (standbyQuiet_of_rests h (by simp) fun _ hr => ?_)
    obtain ⟨_, _, _, _, hstatus⟩ := id hr
    have : s.statusExpiry = s := by simp [State.statusExpiry, hstatus]
    rwa [this]
  | recordExpiry kind target =>
    exact leads_next.mpr (standbyQuiet_of_same h (by simp) (by simp) (by simp) (s.recordExpiry_quietParts kind target))
  | set tag kind target v d => exact leads_next.mpr (standbyQuiet_of_same h (by simp) (by simp) (by simp) (by simp))
  | release tag kind target => exact leads_next.mpr (standbyQuiet_of_same h (by simp) (by simp) (by simp) (by simp))
  | heartbeat tag => exact leads_next.mpr (standbyQuiet_of_same h (by simp) (by simp) (by simp) (by simp))
  | tripEnd tag => exact leads_next.mpr (standbyQuiet_of_same h (by simp) (by simp) (by simp) (by simp))
  | reply id data =>
    exact leads_reply (standbyQuiet_of_same h (by simp) (by simp) (by simp) (by simp [State.quietParts]))
  | _ =>
    first
    | (cases he; done)
    | exact leads_next.mpr (standbyQuiet_of_same h (by simp [apply_ite State.part]) (by simp [apply_ite State.zones])
        (by simp [apply_ite State.doors])
        (by simp [State.quietParts, apply_ite State.screen, apply_ite State.overrides]))

theorem State.passMs_standbyQuiet {s : State} (h : s.standbyQuiet) : s.passMs.standbyQuiet := by
  refine standbyQuiet_of_rests h rfl fun hp hr => ?_
  obtain ⟨hzones, hdoors, hstage, hpass, hstatus⟩ := hr
  refine ⟨fun z => ?_, fun d => ?_, hstage, (Timer.tick_eq_none _).mpr hpass, (Timer.tick_eq_none _).mpr hstatus⟩
  · have hz : s.passMs.zones[z] = { s.zones[z] with pass := Timer.tick s.zones[z].pass } := by simp [State.passMs]
    rw [hz]
    exact ⟨(hzones z).1, (Timer.tick_eq_none _).mpr (hzones z).2⟩
  · have hd : s.passMs.doors[d] = s.doors[d].tick (s.part == .running && (s.doorRow d).used) := by simp [State.passMs]
    rw [hd]
    exact hdoors d

/-- Every step keeps STANDBY quiet. -/
theorem step_standbyQuiet {s t : State} (h : step s = .next t) (hs : s.standbyQuiet) : t.standbyQuiet :=
  step_keeps exec_standbyQuiet (fun _ _ h => h) (fun _ h => State.passMs_standbyQuiet h) h hs

/-- Settles O59: the door timers by `Door.kept`, a quiet STANDBY by `State.rests`, each kept by every command. -/
theorem stepsKeepStandbyQuiet : Obligations.StepsKeepStandbyQuiet := fun _ _ hd hq h =>
  ⟨step_doorsKept h hd, step_standbyQuiet h hq⟩

end Sys2Proof.Machine
end

section
/-! Proofs for sections 9.3 and 9.4: every command keeps both banks in shape and the active bank valid (R187, R189,
R195). -/

namespace Sys2Proof.Machine

/-! ### Banks -/

@[simp] theorem Bank.get_put_same (b : Bank) (t : TableId) (rows : List RowBytes) : (b.put t rows).get t = rows := by
  cases t <;> rfl

theorem Bank.get_put_ne (b : Bank) {t u : TableId} (rows : List RowBytes) (h : u ≠ t) :
    (b.put t rows).get u = b.get u := by
  cases t <;> cases u <;> first | exact absurd rfl h | rfl

theorem mem_allTables (t : TableId) : t ∈ allTables := by cases t <;> decide

/-- The rows of one table have its row count and its row length (R189). -/
def TableId.fits (t : TableId) (rows : List RowBytes) : Prop :=
  rows.length = t.rowCount ∧ ∀ r ∈ rows, r.length = t.rowLength

theorem Bank.shaped_iff (b : Bank) : b.shaped = true ↔ ∀ t : TableId, t.fits (b.get t) := by
  simp only [Bank.shaped, List.all_eq_true, Bool.and_eq_true, beq_iff_eq, TableId.fits]
  exact ⟨fun h t => h t (mem_allTables t), fun h t _ => h t⟩

theorem Bank.put_shaped {b : Bank} (h : b.shaped = true) {t : TableId} {rows : List RowBytes} (hr : t.fits rows) :
    (b.put t rows).shaped = true := by
  rw [Bank.shaped_iff] at h ⊢
  intro u
  by_cases hu : u = t
  · subst hu
    rwa [Bank.get_put_same]
  · rw [Bank.get_put_ne b rows hu]
    exact h u

theorem TableId.resetRow_length (t : TableId) : t.resetRow.length = t.rowLength := by cases t <;> rfl

theorem TableId.fits_resetRows (t : TableId) : t.fits t.resetRows :=
  ⟨List.length_replicate .., fun r hr => by rw [List.eq_of_mem_replicate hr, t.resetRow_length]⟩

theorem TableId.fits_set {t : TableId} {rows : List RowBytes} (h : t.fits rows) (i : Nat) {r : RowBytes}
    (hr : r.length = t.rowLength) : t.fits (rows.set i r) := by
  obtain ⟨hlen, hrows⟩ := h
  refine ⟨by simpa using hlen, fun x hx => ?_⟩
  obtain hx | rfl := List.mem_or_eq_of_mem_set hx
  · exact hrows x hx
  · exact hr

/-- The rows after a power-on reset meet every condition of their table's commit. -/
theorem resetRows_valid (node : Fin 4) (t : TableId) : firstBadRow node t t.resetRows = none := by
  unfold firstBadRow
  rw [List.find?_eq_none]
  intro i hi
  have hrow : t.resetRows.getD i [] = t.resetRow := by
    rw [List.mem_range] at hi
    simp [TableId.resetRows, List.getD_eq_getElem?_getD, hi]
  have hok : (!rowValidated t t.resetRow || (fieldsOk t i t.resetRow && relationsOk node t t.resetRows i t.resetRow)) = true := by
    cases t <;> rfl
  simp only [commitRowOk, hrow, hok]
  decide

/-! ### The banks of the part -/

theorem State.banksKept_iff (s : State) : s.banksKept ↔ s.active.shaped = true ∧ s.shadow.shaped = true ∧ s.engine.kept
    ∧ ∀ t : TableId, firstBadRow s.node t (s.active.get t) = none := Iff.rfl

theorem banksKept_of_same {s t : State} (h : s.banksKept) (hn : t.node = s.node) (ha : t.active = s.active)
    (hs : t.shadow = s.shadow) (he : t.engine = s.engine) : t.banksKept := by
  rw [State.banksKept_iff, hn, ha, hs, he]
  exact h

/-- A property of the core (R190). -/
theorem banksKept_core : ReadsCore State.banksKept := by
  rintro s t ⟨_, hn, ha, hs, he, _⟩ h
  exact banksKept_of_same h hn ha hs he

section
variable {s : State} (h : s.banksKept)
include h

theorem banksKept_engine {e : Engine} (he : e.kept) : State.banksKept { s with engine := e } := by
  obtain ⟨ha, hs, _, hv⟩ := h
  exact ⟨ha, hs, he, hv⟩

theorem State.halt_banksKept (c : HaltCode) : (s.halt c).banksKept := by
  obtain ⟨ha, hs, _, hv⟩ := h
  exact ⟨ha, hs, trivial, hv⟩

theorem banksKept_shadow {t : TableId} {rows : List RowBytes} (hr : t.fits rows) (marks : Vector Bool 13) :
    State.banksKept { s with shadow := s.shadow.put t rows, marks := marks } := by
  obtain ⟨ha, hs, he, hv⟩ := h
  exact ⟨ha, Bank.put_shaped hs hr, he, hv⟩

theorem banksKept_shadowRows (t : TableId) : t.fits (s.shadow.get t) := (Bank.shaped_iff _).mp h.2.1 t

theorem banksKept_activeRows (t : TableId) : t.fits (s.active.get t) := (Bank.shaped_iff _).mp h.1 t

theorem State.openRow_banksKept (table row : Byte) : (s.openRow table row).1.banksKept :=
  whenIdle_keeps h (State.halt_banksKept h _) fun _ => withTable_keeps h fun t => by
    split
    · next hrow => exact banksKept_engine h ⟨hrow, Nat.zero_le _⟩
    · exact h

theorem State.placeData_banksKept {bytes : List Byte} (hb : bytes.length = 6) : (s.placeData bytes).1.banksKept :=
  whenAssembling_keeps h (State.halt_banksKept h _) fun o ho => by
    have hkept := h.2.2.1
    rw [ho] at hkept
    split
    · next hroom => exact banksKept_engine h ⟨hkept.1, by simpa [hb] using hroom⟩
    · exact State.halt_banksKept h _

theorem State.closeRow_banksKept : s.closeRow.1.banksKept :=
  whenAssembling_keeps h (State.halt_banksKept h _) fun o ho => by
    have hkept := h.2.2.1
    rw [ho] at hkept
    split
    · exact State.halt_banksKept h _
    · next hfull =>
      split
      · exact banksKept_engine (banksKept_shadow h (TableId.fits_set (banksKept_shadowRows h o.table) o.row
          (Nat.le_antisymm hkept.2 (Nat.le_of_not_lt hfull))) _) trivial
      · exact State.halt_banksKept h _

theorem State.clearRow_banksKept (table row : Byte) : (s.clearRow table row).1.banksKept :=
  whenIdle_keeps h (State.halt_banksKept h _) fun _ => withTable_keeps h fun t => by
    split
    · exact banksKept_shadow h t.fits_resetRows _
    · split
      · exact banksKept_shadow h (TableId.fits_set (banksKept_shadowRows h t) _ t.resetRow_length) _
      · exact h

theorem State.abandonBank_banksKept (table : Byte) : (s.abandonBank table).1.banksKept :=
  whenIdle_keeps h (State.halt_banksKept h _) fun _ => withTable_keeps h fun t =>
    banksKept_shadow h (banksKept_activeRows h t) _

theorem State.resumeLoad_banksKept : s.resumeLoad.1.banksKept := by
  unfold State.resumeLoad
  split
  · exact banksKept_engine h trivial
  · exact h

/-- A valid shadow bank becomes the active one. -/
theorem State.installBank_banksKept {t : TableId} (hvalid : firstBadRow s.node t (s.shadow.get t) = none) :
    (s.installBank t).banksKept := by
  have hrows := banksKept_shadowRows h t
  obtain ⟨ha, hs, he, hv⟩ := h
  refine ⟨Bank.put_shaped ha hrows, hs, he, fun u => ?_⟩
  change firstBadRow s.node u ((s.active.put t (s.shadow.get t)).get u) = none
  by_cases hu : u = t
  · subst hu
    rwa [Bank.get_put_same]
  · rw [Bank.get_put_ne _ _ hu]
    exact hv u

end

/-- What a commit does at the blocks leaves the bank that it installs. -/
theorem State.commitTable_active (s : State) (t : TableId) : (s.commitTable t).active = (s.installBank t).active := by
  cases t <;> simp [State.commitTable]

theorem State.commitBank_banksKept {s : State} (h : s.banksKept) (table : Byte) : (s.commitBank table).1.banksKept :=
  whenIdle_keeps h (State.halt_banksKept h _) fun _ => withTable_keeps h fun t => by
    split
    · exact h
    · next hvalid =>
      exact banksKept_of_same (State.installBank_banksKept h hvalid) (by simp) (s.commitTable_active t) (by simp)
        (by simp)

theorem banksKept_reset {s : State} (ha : s.active = Bank.reset) (hs : s.shadow = Bank.reset) (he : s.engine = .idle) :
    s.banksKept := by
  have hshaped : Bank.reset.shaped = true := (Bank.shaped_iff _).mpr fun t => by
    rw [Bank.reset_get]
    exact t.fits_resetRows
  rw [State.banksKept_iff, ha, hs, he]
  exact ⟨hshaped, hshaped, trivial, fun t => by rw [Bank.reset_get]; exact resetRows_valid s.node t⟩

theorem State.restartPart_banksKept {s : State} (h : s.banksKept) : s.restartPart.banksKept := by
  obtain ⟨ha, hs, _, hv⟩ := h
  have hkept : State.banksKept s.restartKept := ⟨ha, hs, trivial, hv⟩
  exact banksKept_of_same hkept (by simp [State.restartPart]) (by simp [State.restartPart]) (by simp [State.restartPart])
    (by simp [State.restartPart])

/-! ### The commands -/

theorem exec_banksKept (c : Instr) (s : State) (h : s.banksKept) : Leads State.banksKept (exec c s) := by
  refine exec_keeps banksKept_core (fun c s ha h => ?_) c s h
  have hload (code : Nat) {f : State → LoadOutcome} (hf : (f s).1.banksKept) :
      Leads State.banksKept (.next (s.serveLoad code f)) := leads_next.mpr (serveLoad_keeps banksKept_core code h hf)
  have hone (code : Nat) {f : State → State × Result × List Byte} (hf : (f s).1.banksKept) :
      Leads State.banksKept (.next (s.serveOne code f)) := leads_next.mpr (serveOne_keeps banksKept_core code h hf)
  cases c with
  | powerOnReset node rate => exact leads_next.mpr (banksKept_reset rfl rfl rfl)
  | assemblyTimerExpiry => exact leads_next.mpr (assemblyExpiry_keeps h (State.halt_banksKept h _))
  | rowOpen table row => exact hload _ (State.openRow_banksKept h table row)
  | rowData b0 b1 b2 b3 b4 b5 => exact hload _ (State.placeData_banksKept h rfl)
  | rowClose => exact hload _ (State.closeRow_banksKept h)
  | rowClear table row => exact hload _ (State.clearRow_banksKept h table row)
  | commit table => exact hload _ (State.commitBank_banksKept h table)
  | abandon table => exact hload _ (State.abandonBank_banksKept h table)
  | loadResume => exact hload _ (State.resumeLoad_banksKept h)
  | identify => exact leads_next.mpr (serveRead_keeps banksKept_core _ _ h)
  | status =>
    exact leads_next.mpr (withRoom_keeps (fun _ => banksKept_core (by simp [State.SameCore]) h)
      (fun _ => banksKept_core (by simp [State.SameCore]) h) (banksKept_core (by simp [State.SameCore]) h))
  | readRow | readSlot | readZone | readDoor | readSection | readClaim | readChannel =>
    exact leads_next.mpr (serveRead_keeps banksKept_core _ _ h)
  | start =>
    refine hone 16 ?_
    repeat' split
    all_goals exact banksKept_of_same h (by simp) (by simp) (by simp) (by simp)
  | stop =>
    refine hone 17 ?_
    split
    all_goals exact banksKept_of_same h (by simp) (by simp) (by simp) (by simp)
  | restart =>
    exact leads_next.mpr (banksKept_core (s := s.restartPart) (by simp [State.SameCore, State.reqRestart])
      (State.restartPart_banksKept h))
  | clearPending doors => exact hone _ (foldl_invariant _ _ _ s (fun t d ht => ht) h)
  | maskDoors doors =>
    exact hone _ (foldl_invariant _ _ _ s
      (fun t d ht => banksKept_of_same ht (by simp) (by simp) (by simp) (by simp)) h)
  | unmaskDoors doors =>
    exact hone _ (foldl_invariant _ _ _ s
      (fun t d ht => banksKept_of_same ht (by simp) (by simp) (by simp) (by simp)) h)
  | armTerminus sections => exact hone _ (foldl_invariant _ _ _ s (fun t d ht => ht) h)
  | disarmTerminus sections => exact hone _ (foldl_invariant _ _ _ s (fun t d ht => ht) h)
  | loadSet sec count =>
    refine hone 25 ?_
    split
    · split
      · exact banksKept_of_same h (by simp [State.loadSet]) (by simp [State.loadSet]) (by simp [State.loadSet])
          (by simp [State.loadSet])
      · exact h
    · exact h
  | overrideSet kind target v d => exact hone 26 (banksKept_of_same h (by simp) (by simp) (by simp) (by simp))
  | overrideRelease kind target => exact hone 27 (banksKept_of_same h (by simp) (by simp) (by simp) (by simp))
  | frameArrival => cases ha
  | reply id data => exact leads_reply (banksKept_of_same h (by simp) (by simp) (by simp) (by simp))
  | _ =>
    exact leads_next.mpr (banksKept_of_same h (by simp [apply_ite State.node]) (by simp [apply_ite State.active])
        (by simp [apply_ite State.shadow]) (by simp [apply_ite State.engine]))

theorem Engine.kept_tick {e : Engine} (h : e.kept) : e.tick.kept := by
  cases e with
  | assembling o => exact h
  | _ => exact trivial

theorem State.passMs_banksKept {s : State} (h : s.banksKept) : s.passMs.banksKept := by
  obtain ⟨ha, hs, he, hv⟩ := h
  exact ⟨ha, hs, Engine.kept_tick he, hv⟩

/-- Settles O58: the active bank changes by valid commits alone, the shadow bank by rows of their table's length. -/
theorem stepsKeepTheBanks : Obligations.StepsKeepTheBanks := fun _ _ hs h =>
  step_keeps exec_banksKept (fun _ _ h => h) (fun _ h => State.passMs_banksKept h) h hs

end Sys2Proof.Machine
end

section
/-! Proofs for sections 7.3 and 7.4: the levels share the budget in order (R147, R149 to R151). -/

namespace Sys2Proof.Machine

/-! ### Lists place by place -/

theorem getD_zipWith_add {l m : List Nat} (h : l.length = m.length) (i : Nat) :
    (List.zipWith (· + ·) l m).getD i 0 = l.getD i 0 + m.getD i 0 := by
  simp only [List.getD_eq_getElem?_getD, List.getElem?_zipWith]
  by_cases hi : i < l.length
  · have hm : i < m.length := h ▸ hi
    simp [hi, hm]
  · have hm : m.length ≤ i := by omega
    simp [Nat.le_of_not_lt hi, hm]

theorem sum_zipWith_add {l m : List Nat} (h : l.length = m.length) :
    (List.zipWith (· + ·) l m).sum = l.sum + m.sum := by
  induction l generalizing m with
  | nil => simp [List.length_eq_zero_iff.mp h.symm]
  | cons a l ih =>
    cases m with
    | nil => simp at h
    | cons b m =>
      simp only [List.zipWith_cons_cons, List.sum_cons, ih (by simpa using h)]
      omega

theorem sum_le_sum_of_getD {l m : List Nat} (hlen : l.length = m.length)
    (h : ∀ i < l.length, l.getD i 0 ≤ m.getD i 0) : l.sum ≤ m.sum := by
  induction l generalizing m with
  | nil => simp
  | cons a l ih =>
    cases m with
    | nil => simp at hlen
    | cons b m =>
      have h0 := h 0 (by simp)
      have hrest := ih (m := m) (by simpa using hlen) fun i hi => by simpa using h (i + 1) (by simpa using hi)
      simp only [List.getD_cons_zero] at h0
      simp only [List.sum_cons]
      omega

theorem ext_getD {l m : List Nat} (hlen : l.length = m.length) (h : ∀ i < l.length, l.getD i 0 = m.getD i 0) :
    l = m := by
  refine List.ext_getElem hlen fun i hl hm => ?_
  simpa [List.getD_eq_getElem?_getD, hl, hm] using h i hl

theorem getD_le_sum (l : List Nat) (i : Nat) : l.getD i 0 ≤ l.sum := by
  induction l generalizing i with
  | nil => simp
  | cons a l ih =>
    cases i with
    | zero => simp
    | succ i => simpa using (ih i).trans (Nat.le_add_left _ _)

theorem sum_eq_getD {l : List Nat} {i : Nat} (hi : i < l.length) (h : ∀ j < l.length, j ≠ i → l.getD j 0 = 0) :
    l.sum = l.getD i 0 := by
  induction l generalizing i with
  | nil => simp at hi
  | cons a l ih =>
    cases i with
    | zero =>
      have hz : l.sum ≤ (List.replicate l.length 0).sum := sum_le_sum_of_getD (by simp) fun j hj => by
        simpa [hj] using h (j + 1) (by simpa using hj) (by simp)
      simp at hz
      simp [hz]
    | succ i =>
      have ha : a = 0 := by simpa using h 0 (by simp) (by simp)
      have hrest := ih (by simpa using hi) fun j hj hne => by
        simpa using h (j + 1) (by simpa using hj) (by simpa using hne)
      simp [ha, hrest]

theorem needsOf_getD {p : Share → Bool} {cs : List Share} {i : Nat} {c : Share} (hc : cs[i]? = some c) :
    (needsOf p cs).getD i 0 = if p c then c.request else 0 := by
  simp [needsOf, List.getD_eq_getElem?_getD, hc]

/-! ### A share stays within the budget and the need -/

theorem shareOut_sum_le (avail : Nat) (needs : List Nat) : (shareOut avail needs).sum ≤ avail := by
  by_cases h : needs.sum ≤ avail
  · rwa [shareOut_of_fits h]
  · exact (shareOut_sum_of_short (Nat.lt_of_not_le h)).le

theorem shareOut_le_need (avail : Nat) (needs : List Nat) (i : Nat) :
    (shareOut avail needs).getD i 0 ≤ needs.getD i 0 := by
  by_cases h : needs.sum ≤ avail
  · rw [shareOut_of_fits h]
  · by_cases hi : i < needs.length
    · have hf := floor_le_need (q := needs.getD i 0) (Nat.le_of_lt (Nat.lt_of_not_le h))
      rw [shareOut_getD_of_short (Nat.lt_of_not_le h) hi]
      split <;> omega
    · rw [List.getD_eq_getElem?_getD, List.getElem?_eq_none (by simpa using Nat.le_of_not_lt hi)]
      exact Nat.zero_le _

/-- A single need receives as much of the budget as it needs. -/
theorem shareOut_single (avail : Nat) {needs : List Nat} {i : Nat} (hi : i < needs.length)
    (h : ∀ j < needs.length, j ≠ i → needs.getD j 0 = 0) :
    (shareOut avail needs).getD i 0 = min (needs.getD i 0) avail
      ∧ (shareOut avail needs).sum = min (needs.getD i 0) avail := by
  have hsum : (shareOut avail needs).sum = (shareOut avail needs).getD i 0 :=
    sum_eq_getD (by simpa using hi) fun j hj hne =>
      Nat.le_zero.mp ((shareOut_le_need avail needs j).trans (h j (by simpa using hj) hne).le)
  have hneeds : needs.sum = needs.getD i 0 := sum_eq_getD hi h
  rw [← hsum]
  by_cases hfit : needs.sum ≤ avail
  · rw [shareOut_of_fits hfit]
    omega
  · rw [shareOut_sum_of_short (Nat.lt_of_not_le hfit)]
    omega

/-! ### One level -/

section
variable (level remaining : Nat) (cs : List Share)

/-- The share of the windscreen heater at level 0, formed before the others' (R147). -/
def firstShares : List Nat := shareOut remaining (needsOf (fun c => c.level == level && c.first) cs)

/-- The shares of the other claimants of the level (R150). -/
def otherShares : List Nat :=
  shareOut (remaining - (firstShares level remaining cs).sum) (needsOf (fun c => c.level == level && !c.first) cs)

@[simp] theorem firstShares_length : (firstShares level remaining cs).length = cs.length := by simp [firstShares]

@[simp] theorem otherShares_length : (otherShares level remaining cs).length = cs.length := by simp [otherShares]

theorem levelShares_getD (i : Nat) : (levelShares level remaining cs).getD i 0
    = (firstShares level remaining cs).getD i 0 + (otherShares level remaining cs).getD i 0 :=
  getD_zipWith_add (by simp) i

theorem levelShares_sum_le : (levelShares level remaining cs).sum ≤ remaining := by
  have hsum : (levelShares level remaining cs).sum
      = (firstShares level remaining cs).sum + (otherShares level remaining cs).sum := sum_zipWith_add (by simp)
  have hfirst : (firstShares level remaining cs).sum ≤ remaining := shareOut_sum_le _ _
  have hother : (otherShares level remaining cs).sum ≤ remaining - (firstShares level remaining cs).sum :=
    shareOut_sum_le _ _
  omega

theorem receive_sum_le (shares : List Nat) (h : shares.length = cs.length) :
    (receive level cs shares).sum ≤ shares.sum :=
  sum_le_sum_of_getD (by simp [receive, h]) fun i hi => by
    have hc : i < cs.length := by simp [receive] at hi; omega
    have hq : i < shares.length := by omega
    have hown := receive_own (level := level) (cs := cs) (shares := shares) (List.getElem?_eq_getElem hc)
      (List.getElem?_eq_getElem hq)
    simp only [List.getD_eq_getElem?_getD, hown, List.getElem?_eq_getElem hq, Option.getD_some]
    split <;> omega

@[simp] theorem receive_length (shares : List Nat) (h : shares.length = cs.length) :
    (receive level cs shares).length = cs.length := by simp [receive, h]

end

section
variable {level remaining : Nat} {cs : List Share} {i : Nat} {c : Share} (hc : cs[i]? = some c)
include hc

theorem receive_getD {shares : List Nat} (h : shares.length = cs.length) : (receive level cs shares).getD i 0
    = if c.level = level ∧ c.minimum ≤ shares.getD i 0 then shares.getD i 0 else 0 := by
  obtain ⟨hi, _⟩ := List.getElem?_eq_some_iff.mp hc
  have hq : shares[i]? = some shares[i] := List.getElem?_eq_getElem (h ▸ hi)
  simp only [List.getD_eq_getElem?_getD, receive_own hc hq, hq, Option.getD_some]

/-- A claimant of another level has no share of the level. -/
theorem firstShares_of_not (h : (c.level == level && c.first) = false) :
    (firstShares level remaining cs).getD i 0 = 0 := by
  have := shareOut_le_need remaining (needsOf (fun c => c.level == level && c.first) cs) i
  rw [needsOf_getD hc, h] at this
  exact Nat.le_zero.mp this

theorem otherShares_of_not (h : (c.level == level && !c.first) = false) :
    (otherShares level remaining cs).getD i 0 = 0 := by
  have := shareOut_le_need (remaining - (firstShares level remaining cs).sum)
    (needsOf (fun c => c.level == level && !c.first) cs) i
  rw [needsOf_getD hc, h] at this
  exact Nat.le_zero.mp this

/-- A claimant's share of its own level: the first share of the windscreen heater at level 0, the others' of the rest. -/
theorem levelShares_own : (levelShares c.level remaining cs).getD i 0
    = if c.first then (firstShares c.level remaining cs).getD i 0 else (otherShares c.level remaining cs).getD i 0 := by
  rw [levelShares_getD]
  cases hf : c.first with
  | true => rw [otherShares_of_not hc (by simp [hf])]; rfl
  | false => rw [firstShares_of_not hc (by simp [hf])]; simp

theorem levelShares_le_request : (levelShares c.level remaining cs).getD i 0 ≤ c.request := by
  rw [levelShares_own hc]
  split
  · have := shareOut_le_need remaining (needsOf (fun x => x.level == c.level && x.first) cs) i
    rw [needsOf_getD hc] at this
    exact this.trans (by split <;> simp)
  · have := shareOut_le_need (remaining - (firstShares c.level remaining cs).sum)
      (needsOf (fun x => x.level == c.level && !x.first) cs) i
    rw [needsOf_getD hc] at this
    exact this.trans (by split <;> simp)

end

/-! ### The levels in order -/

section
variable (cs : List Share)

@[simp] theorem serveLevels_length (levels : List Nat) (remaining : Nat) :
    (serveLevels cs levels remaining).length = cs.length := by
  induction levels generalizing remaining with
  | nil => simp [serveLevels]
  | cons level rest ih => simp [serveLevels, ih]

theorem serveLevels_sum_le (levels : List Nat) (remaining : Nat) :
    (serveLevels cs levels remaining).sum ≤ remaining := by
  induction levels generalizing remaining with
  | nil => simp [serveLevels]
  | cons level rest ih =>
    have hgot : (receive level cs (levelShares level remaining cs)).sum ≤ remaining :=
      (receive_sum_le level cs _ (by simp)).trans (levelShares_sum_le level remaining cs)
    have hrest := ih (remaining - (receive level cs (levelShares level remaining cs)).sum)
    rw [serveLevels, sum_zipWith_add (by simp)]
    omega

end

section
variable {cs : List Share} {i : Nat} {c : Share} (hc : cs[i]? = some c)
include hc

/-- The levels below and above a claimant's own give it nothing. -/
theorem serveLevels_of_not_mem {levels : List Nat} (h : c.level ∉ levels) (remaining : Nat) :
    (serveLevels cs levels remaining).getD i 0 = 0 := by
  induction levels generalizing remaining with
  | nil => simp [serveLevels, List.getD_eq_getElem?_getD]
  | cons level rest ih =>
    obtain ⟨hne, hrest⟩ := not_or.mp (fun e => h (List.mem_cons.mpr e))
    rw [serveLevels, getD_zipWith_add (by simp), ih hrest, receive_getD hc (by simp), if_neg fun e => hne e.1]

/-- A claimant receives its share of what the levels before its own have left. -/
theorem serveLevels_own {before after : List Nat} (hb : c.level ∉ before) (ha : c.level ∉ after) (remaining : Nat) :
    (serveLevels cs (before ++ c.level :: after) remaining).getD i 0
      = (receive c.level cs (levelShares c.level (remaining - (serveLevels cs before remaining).sum) cs)).getD i 0 := by
  induction before generalizing remaining with
  | nil =>
    have hnone : (serveLevels cs [] remaining).sum = 0 := by simp [serveLevels]
    rw [List.nil_append, hnone, serveLevels, getD_zipWith_add (by simp), serveLevels_of_not_mem hc ha]
    rfl
  | cons level rest ih =>
    obtain ⟨hne, hrest⟩ := not_or.mp (fun e => hb (List.mem_cons.mpr e))
    rw [List.cons_append, serveLevels, getD_zipWith_add (by simp), ih hrest, receive_getD hc (by simp),
      if_neg fun e => hne e.1, serveLevels, sum_zipWith_add (by simp), Nat.zero_add, Nat.sub_sub]

end

/-- What the levels below n give out of the budget. -/
def grantsBelow (cs : List Share) (beff n : Nat) : List Nat := serveLevels cs (List.range n) beff

@[simp] theorem grantsBelow_length (cs : List Share) (beff n : Nat) : (grantsBelow cs beff n).length = cs.length :=
  serveLevels_length cs _ _

theorem range_split {level n : Nat} (h : level < n) :
    List.range n = List.range level ++ level :: List.range' (level + 1) (n - level - 1) := by
  rw [List.range_eq_range', List.range_eq_range', ← List.range'_succ]
  have := List.range'_append_1 (s := 0) (m := level) (n := n - level - 1 + 1)
  rw [Nat.zero_add, show level + (n - level - 1 + 1) = n by omega] at this
  exact this.symm

section
variable {cs : List Share} {i : Nat} {c : Share} (hc : cs[i]? = some c)
include hc

/-- What a claimant receives: its share of what the lower levels have left, or 0 when it is below the claimant's minimum,
and nothing from level n on. -/
theorem grantsBelow_getD (beff n : Nat) : (grantsBelow cs beff n).getD i 0
    = if c.level < n then
        (if c.minimum ≤ (levelShares c.level (beff - (grantsBelow cs beff c.level).sum) cs).getD i 0 then
          (levelShares c.level (beff - (grantsBelow cs beff c.level).sum) cs).getD i 0 else 0)
      else 0 := by
  unfold grantsBelow
  split
  · next h =>
    rw [range_split h, serveLevels_own hc (by simp) (by simp), receive_getD hc (by simp)]
    simp
  · next h => exact serveLevels_of_not_mem hc (by simpa using h) beff

theorem grantsBelow_le_request (beff n : Nat) : (grantsBelow cs beff n).getD i 0 ≤ c.request := by
  rw [grantsBelow_getD hc]
  have := levelShares_le_request (remaining := beff - (grantsBelow cs beff c.level).sum) hc
  repeat' split
  all_goals omega

end

/-- The grants of the claimants below level n, taken from those of more levels. -/
theorem grantsBelow_of_more (cs : List Share) (beff : Nat) {n m : Nat} (h : n ≤ m) :
    List.zipWith (fun (c : Share) q => if c.level < n then q else 0) cs (grantsBelow cs beff m)
      = grantsBelow cs beff n := by
  refine ext_getD (by simp) fun i hi => ?_
  have hi : i < cs.length := by simpa using hi
  have hc : cs[i]? = some cs[i] := List.getElem?_eq_getElem hi
  have hg : (grantsBelow cs beff m)[i]? = some ((grantsBelow cs beff m).getD i 0) := by
    simp [List.getD_eq_getElem?_getD, hi]
  rw [List.getD_eq_getElem?_getD, List.getElem?_zipWith, hc, hg]
  simp only [Option.getD_some, grantsBelow_getD hc]
  by_cases hl : cs[i].level < n
  · simp [hl, Nat.lt_of_lt_of_le hl h]
  · simp [hl]

/-! ### The regular grants -/

/-- What the levels below n, and then claimants of level n, receive and ask for fits the requests below level 15. -/
theorem below_add_needs_le (cs : List Share) (beff : Nat) {n : Nat} (p : Share → Bool)
    (hp : ∀ x, p x = true → x.level = n) (h : n < 15) :
    (grantsBelow cs beff n).sum + (needsOf p cs).sum ≤ (needsOf (fun x => x.level < 15) cs).sum := by
  rw [← sum_zipWith_add (by simp)]
  refine sum_le_sum_of_getD (by simp) fun j hj => ?_
  have hj : j < cs.length := by simpa using hj
  have hx : cs[j]? = some cs[j] := List.getElem?_eq_getElem hj
  have hbelow := grantsBelow_le_request hx beff n
  rw [getD_zipWith_add (by simp), needsOf_getD hx, needsOf_getD hx]
  by_cases hl : cs[j].level < n
  · have hpf : p cs[j] = false := by
      cases hpx : p cs[j] with
      | false => rfl
      | true => exact absurd (hp _ hpx) (by omega)
    simpa [hpf, show cs[j].level < 15 by omega] using hbelow
  · rw [grantsBelow_getD hx, if_neg hl]
    cases hpx : p cs[j] with
    | false => simp
    | true => simp [hp _ hpx, h]

section
variable {cs : List Share} {i : Nat} {c : Share} (hc : cs[i]? = some c)
include hc

/-- When all requests below level 15 fit the budget, a claimant's share is its request. -/
theorem levelShares_full {beff : Nat} (hfit : (needsOf (fun x => x.level < 15) cs).sum ≤ beff) (h : c.level < 15) :
    (levelShares c.level (beff - (grantsBelow cs beff c.level).sum) cs).getD i 0 = c.request := by
  have hfirst := below_add_needs_le cs beff (fun x => x.level == c.level && x.first)
    (fun x hx => by simp at hx; exact hx.1) h
  have hboth : (needsOf (fun x => x.level == c.level && x.first) cs).sum
      + (needsOf (fun x => x.level == c.level && !x.first) cs).sum = (needsOf (fun x => x.level == c.level) cs).sum := by
    rw [← sum_zipWith_add (by simp)]
    congr 1
    refine ext_getD (by simp) fun j hj => ?_
    have hj : j < cs.length := by simpa using hj
    have hx : cs[j]? = some cs[j] := List.getElem?_eq_getElem hj
    rw [getD_zipWith_add (by simp), needsOf_getD hx, needsOf_getD hx, needsOf_getD hx]
    cases cs[j].first <;> simp
  have hall := below_add_needs_le cs beff (fun x => x.level == c.level) (by simp) h
  have hone : firstShares c.level (beff - (grantsBelow cs beff c.level).sum) cs
      = needsOf (fun x => x.level == c.level && x.first) cs := shareOut_of_fits (by omega)
  have hothers : otherShares c.level (beff - (grantsBelow cs beff c.level).sum) cs
      = needsOf (fun x => x.level == c.level && !x.first) cs := by
    unfold otherShares
    rw [hone]
    exact shareOut_of_fits (by omega)
  rw [levelShares_own hc, hone, hothers, needsOf_getD hc, needsOf_getD hc]
  cases c.first <;> simp

end

theorem regularGrants_eq (beff : Nat) (cs : List Share) : regularGrants beff cs = grantsBelow cs beff 15 := rfl

theorem regularGrants_sum_le (beff : Nat) (cs : List Share) : (regularGrants beff cs).sum ≤ beff :=
  serveLevels_sum_le cs _ beff

theorem regularGrants_le_request {beff : Nat} {cs : List Share} {i : Nat} {c : Share} (hc : cs[i]? = some c) :
    (regularGrants beff cs).getD i 0 ≤ c.request := grantsBelow_le_request hc beff 15

/-- The needs that requests below a level make, as the requests of the claimants there. -/
theorem filter_sum_eq_needsOf (p : Share → Bool) (cs : List Share) :
    ((cs.filter p).map fun x => x.request).sum = (needsOf p cs).sum := by
  induction cs with
  | nil => rfl
  | cons c cs ih =>
    cases hp : p c with
    | false => simpa [needsOf, hp] using ih
    | true => simpa [needsOf, hp] using ih

/-- What a list of truth values holds once stands at one place. -/
theorem index_of_count_one {l : List Bool} (h : l.count true = 1) {i j : Nat} (hi : l[i]? = some true)
    (hj : l[j]? = some true) : i = j := by
  induction l generalizing i j with
  | nil => simp at hi
  | cons b l ih =>
    cases b with
    | false =>
      rw [List.count_cons_of_ne (by simp)] at h
      cases i <;> cases j <;> simp_all
      exact ih hi hj
    | true =>
      have hnone : true ∉ l := List.count_eq_zero.mp (by simpa using h)
      have hno (k : Nat) : l[k]? ≠ some true := fun e => hnone (List.mem_of_getElem? e)
      cases i <;> cases j <;> simp_all

/-- The single windscreen heater of a list at level 0 receives its request as far as the budget goes, before the others. -/
theorem firstShares_windscreen (beff : Nat) {cs : List Share} {i : Nat} {c : Share} (hc : cs[i]? = some c)
    (hw : c.windscreen = true) (hl : c.level = 0) (hone : (cs.map fun x => x.windscreen).count true = 1) :
    (firstShares 0 beff cs).getD i 0 = min c.request beff ∧ (firstShares 0 beff cs).sum = min c.request beff := by
  obtain ⟨hi, rfl⟩ := List.getElem?_eq_some_iff.mp hc
  have hneed : (needsOf (fun x => x.level == 0 && x.first) cs).getD i 0 = cs[i].request := by
    rw [needsOf_getD hc]
    simp [Share.first, hw, hl]
  rw [← hneed]
  refine shareOut_single beff (by simpa using hi) fun j hj hne => ?_
  have hj : j < cs.length := by simpa using hj
  rw [needsOf_getD (List.getElem?_eq_getElem hj)]
  have hnot : cs[j].windscreen = false := by
    by_contra hcon
    exact hne (index_of_count_one hone (by simpa [hj] using hcon) (by simpa [hi] using hw))
  simp [Share.first, hnot]

/-- Settles O22: `grantsBelow_getD` says what a claimant receives, `grantsBelow_of_more` that the later levels leave it. -/
theorem regularGrantsFitTheBudget : Obligations.RegularGrantsFitTheBudget := by
  intro beff cs got first sumOver needs before left others share
  have hgot : got = grantsBelow cs beff 15 := rfl
  have hbefore : before = firstShares 0 beff cs := by
    refine congrArg (shareOut beff) (List.map_congr_left fun c _ => ?_)
    by_cases hw : c.windscreen <;> by_cases hl : c.level = 0 <;> simp [first, Share.first, hw, hl]
  have hzero : (grantsBelow cs beff 0).sum = 0 := by simp [grantsBelow, serveLevels]
  have hleft (n : Nat) (hn : n < 15) (h0 : n ≠ 0) : left n = beff - (grantsBelow cs beff n).sum := by
    have hsum : (sumOver fun c => c.level < n) = (grantsBelow cs beff n).sum := by
      rw [← grantsBelow_of_more cs beff (Nat.le_of_lt hn)]
      simp [sumOver, hgot]
    simp [left, h0, hsum]
  have hothers (n : Nat) (hn : n < 15) : others n = otherShares n (beff - (grantsBelow cs beff n).sum) cs := by
    have hneeds : (needs fun c => c.level == n && !first c) = needsOf (fun c => c.level == n && !c.first) cs := rfl
    have hrest : left n = beff - (grantsBelow cs beff n).sum
        - (firstShares n (beff - (grantsBelow cs beff n).sum) cs).sum := by
      by_cases h0 : n = 0
      · subst h0
        simp [left, hbefore, hzero]
      · have hnone : (firstShares n (beff - (grantsBelow cs beff n).sum) cs).sum = 0 := by
          have : needsOf (fun c => c.level == n && c.first) cs = List.replicate cs.length 0 :=
            needsOf_of_none fun c _ => by
              by_cases hl : c.level = n <;> simp_all [Share.first]
          simp [firstShares, this, shareOut_of_fits]
        rw [hleft n hn h0, hnone, Nat.sub_zero]
    simp only [others, hneeds, hrest, otherShares]
  have hshare (i : Nat) (c : Share) (hc : cs[i]? = some c) (hl : c.level < 15) : share i c
      = (levelShares c.level (beff - (grantsBelow cs beff c.level).sum) cs).getD i 0 := by
    rw [levelShares_own hc]
    by_cases hf : first c
    · have h0 : c.level = 0 := by simpa using (Bool.and_eq_true_iff.mp hf).2
      have hcf : c.first = true := hf
      simp [share, hf, hcf, h0, hbefore, hzero]
    · have hcf : c.first = false := Bool.eq_false_of_not_eq_true hf
      simp [share, hf, hcf, hothers _ hl]
  have hown (i : Nat) (c : Share) (hc : cs[i]? = some c) (hl : c.level < 15) :
      got.getD i 0 = if c.minimum ≤ share i c then share i c else 0 := by
    rw [hgot, grantsBelow_getD hc, if_pos hl, hshare i c hc hl]
  refine ⟨by simp [hgot], regularGrants_sum_le beff cs, hown, fun i c hc hw hl hone => ?_, fun i c hc => ?_⟩
  · obtain ⟨hget, hsum⟩ := firstShares_windscreen beff hc hw hl hone
    have hi : share i c = min c.request beff := by
      have hf : first c = true := by simp [first, hw, hl]
      simp only [share, if_pos hf, hbefore, hget]
    refine ⟨hi ▸ hown i c hc (by omega), ?_⟩
    have hle : (sumOver fun x => x.level == 0 && !x.windscreen) ≤ (others 0).sum := by
      refine sum_le_sum_of_getD (by simp [others, needs, hgot]) fun j hj => ?_
      have hj : j < cs.length := by simp at hj; omega
      have hx : cs[j]? = some cs[j] := List.getElem?_eq_getElem hj
      have hg : got[j]? = some (got.getD j 0) := by simp [hgot, List.getD_eq_getElem?_getD, hj]
      rw [List.getD_eq_getElem?_getD, List.getElem?_zipWith, hx, hg]
      by_cases hother : cs[j].level = 0 ∧ cs[j].windscreen = false
      · have hnf : first cs[j] = false := by simp [first, hother.2]
        have hshare : share j cs[j] = (others 0).getD j 0 := by simp only [share, hnf, hother.1]; rfl
        rw [Option.getD_some, if_pos (by simpa using hother), hown j _ hx (by omega), hshare]
        split <;> omega
      · rw [Option.getD_some, if_neg (by simpa using hother)]
        exact Nat.zero_le _
    have hothersum : (others 0).sum ≤ beff - min c.request beff := by
      have hl0 : left 0 = beff - min c.request beff := by simp [left, hbefore, hsum]
      exact hl0 ▸ shareOut_sum_le (left 0) (needs fun c => c.level == 0 && !first c)
    exact hle.trans hothersum
  · refine ⟨grantsBelow_le_request hc beff 15, ?_, fun hl => ?_, fun hfit hl hmin => ?_⟩
    · rw [hgot, grantsBelow_getD hc]
      split
      · split
        · next h => exact .inr h
        · exact .inl rfl
      · exact .inl rfl
    · rw [hgot, grantsBelow_getD hc, if_neg (Nat.not_lt.mpr hl)]
    · rw [filter_sum_eq_needsOf] at hfit
      have hfull := levelShares_full hc hfit hl
      rw [hown i c hc hl, hshare i c hc hl, hfull, if_pos hmin]

end Sys2Proof.Machine
end

section
/-! Proofs for chapter 7: every command keeps the grants within Beff, pool and capacity (R142, R148, R151, R153). -/

namespace Sys2Proof.Machine

/-! ### A recomputation -/

theorem sumClaims_getD {l : List Nat} (h : l.length = 20) : sumClaims (fun c => l.getD c.val 0) = l.sum := by
  unfold sumClaims
  congr 1
  refine ext_getD (by simp [h]) fun i hi => ?_
  have hi : i < 20 := by simpa using hi
  simp [List.getD_eq_getElem?_getD, hi]

@[simp] theorem regularGrants_length (beff : Nat) (cs : List Share) : (regularGrants beff cs).length = cs.length :=
  serveLevels_length cs _ beff

/-- The regular grants that a recomputation gives. -/
@[irreducible] def State.regularNow (s : State) : List Nat :=
  regularGrants s.alloc.beff ((List.finRange 20).map s.shareOf)

/-- The absorption grants that a recomputation gives. -/
@[irreducible] def State.absorbedNow (s : State) : List Nat :=
  shareOut s.alloc.pool ((List.finRange 20).map (s.headroomOf s.regularNow))

theorem State.regrantedClaims_eq (s : State) : s.regrantedClaims = Vector.ofFn fun c : Fin 20 =>
    ⟨s.alloc.claims[c].posted, s.alloc.claims[c].capacity, s.regularNow.getD c.val 0, s.absorbedNow.getD c.val 0⟩ := by
  unfold State.regrantedClaims State.absorbedNow State.regularNow
  rfl

theorem State.regrantedClaims_get (s : State) (c : Fin 20) : s.regrantedClaims[c]
    = ⟨s.alloc.claims[c].posted, s.alloc.claims[c].capacity, s.regularNow.getD c.val 0, s.absorbedNow.getD c.val 0⟩ := by
  rw [s.regrantedClaims_eq, Fin.getElem_fin, Vector.getElem_ofFn]

theorem State.regularNow_sum (s : State) : s.regularNow.length = 20 ∧ s.regularNow.sum ≤ s.alloc.beff := by
  unfold State.regularNow
  exact ⟨by rw [regularGrants_length, List.length_map, List.length_finRange], regularGrants_sum_le _ _⟩

theorem State.absorbedNow_sum (s : State) : s.absorbedNow.length = 20 ∧ s.absorbedNow.sum ≤ s.alloc.pool := by
  unfold State.absorbedNow
  exact ⟨by rw [shareOut_length, List.length_map, List.length_finRange], shareOut_sum_le _ _⟩

theorem State.regularNow_le (s : State) (c : Fin 20) : s.regularNow.getD c.val 0 ≤ s.alloc.claims[c].capacity := by
  have hc : ((List.finRange 20).map s.shareOf)[c.val]? = some (s.shareOf c) := by
    rw [List.getElem?_map, List.getElem?_eq_getElem (by rw [List.length_finRange]; exact c.isLt), List.getElem_finRange]
    rfl
  unfold State.regularNow
  exact (regularGrants_le_request hc).trans (Nat.min_le_right _ _)

theorem State.headroomOf_le (s : State) (regular : List Nat) (c : Fin 20) :
    s.headroomOf regular c ≤ s.alloc.claims[c].capacity - regular.getD c.val 0 := by
  unfold State.headroomOf
  split
  · dsimp only
    split
    · exact Nat.le_refl _
    · exact Nat.zero_le _
  · exact Nat.zero_le _

theorem State.absorbedNow_le (s : State) (c : Fin 20) :
    s.absorbedNow.getD c.val 0 ≤ s.headroomOf s.regularNow c := by
  have hget : ((List.finRange 20).map (s.headroomOf s.regularNow)).getD c.val 0 = s.headroomOf s.regularNow c := by
    rw [List.getD_eq_getElem?_getD, List.getElem?_map,
      List.getElem?_eq_getElem (by rw [List.length_finRange]; exact c.isLt), List.getElem_finRange]
    rfl
  unfold State.absorbedNow
  exact hget ▸ shareOut_le_need _ _ c.val

/-- The absorption grant fits the capacity that the regular grant leaves (R153). -/
theorem State.grantsNow_le (s : State) (c : Fin 20) :
    s.regularNow.getD c.val 0 + s.absorbedNow.getD c.val 0 ≤ s.alloc.claims[c].capacity := by
  have hreg := s.regularNow_le c
  have habs := (s.absorbedNow_le c).trans (s.headroomOf_le s.regularNow c)
  omega

/-! ### The budget -/

/-- The sum of a number over the claimants' records. -/
@[irreducible] def totalOf (claims : Vector Claim 20) (f : Claim → Nat) : Nat := sumClaims fun c => f claims[c]

theorem State.budgetKept_iff (s : State) : s.budgetKept ↔
    totalOf s.alloc.claims (·.regular) ≤ s.alloc.beff ∧ s.alloc.beff ≤ s.alloc.target
      ∧ totalOf s.alloc.claims (·.absorption) ≤ s.alloc.pool
      ∧ (∀ c : Fin 20, s.alloc.claims[c].regular + s.alloc.claims[c].absorption ≤ s.alloc.claims[c].capacity)
      ∧ (s.part = .standby → ∀ c : Fin 20, s.alloc.claims[c].regular = 0 ∧ s.alloc.claims[c].absorption = 0) := by
  unfold totalOf State.budgetKept
  exact Iff.rfl

theorem totalOf_congr {claims : Vector Claim 20} {f g : Fin 20 → Nat} {p : Claim → Nat}
    (h : ∀ c : Fin 20, p claims[c] = f c) (hf : f = g) : totalOf claims p = sumClaims g := by
  unfold totalOf
  rw [← hf]
  exact congrArg sumClaims (funext h)

/-- What a recomputation needs to meet the budget: Beff within the target, and no grant in STANDBY. -/
def State.grantable (s : State) : Prop :=
  s.alloc.beff ≤ s.alloc.target
    ∧ (s.part = .standby → ∀ c : Fin 20, s.alloc.claims[c].regular = 0 ∧ s.alloc.claims[c].absorption = 0)

theorem grantable_of_same {s t : State} (h : s.grantable) (hp : t.part = s.part) (hb : t.alloc.beff ≤ t.alloc.target)
    (hc : t.alloc.claims = s.alloc.claims) : t.grantable := by
  refine ⟨hb, ?_⟩
  rw [hp, hc]
  exact h.2

theorem State.budgetKept.grantable {s : State} (h : s.budgetKept) : s.grantable := by
  obtain ⟨_, hbeff, _, _, hstandby⟩ := s.budgetKept_iff.mp h
  exact ⟨hbeff, hstandby⟩

theorem sumClaims_zero : sumClaims (fun _ => 0) = 0 := by
  simp [sumClaims]

theorem budgetKept_of_none {s : State} (hb : s.alloc.beff ≤ s.alloc.target)
    (h : ∀ c : Fin 20, s.alloc.claims[c].regular = 0 ∧ s.alloc.claims[c].absorption = 0) : s.budgetKept := by
  rw [s.budgetKept_iff, totalOf_congr (fun c => (h c).1) rfl, totalOf_congr (fun c => (h c).2) rfl, sumClaims_zero]
  refine ⟨Nat.zero_le _, hb, Nat.zero_le _, fun c => ?_, fun _ => h⟩
  rw [(h c).1, (h c).2]
  exact Nat.zero_le _

theorem State.regrantedClaims_total (s : State) :
    totalOf s.regrantedClaims (·.regular) = s.regularNow.sum
      ∧ totalOf s.regrantedClaims (·.absorption) = s.absorbedNow.sum := by
  rw [← sumClaims_getD s.regularNow_sum.1, ← sumClaims_getD s.absorbedNow_sum.1]
  exact ⟨totalOf_congr (fun c => congrArg Claim.regular (s.regrantedClaims_get c)) rfl,
    totalOf_congr (fun c => congrArg Claim.absorption (s.regrantedClaims_get c)) rfl⟩

/-- A recomputation meets the budget. -/
theorem State.regranted_budgetKept {s : State} (h : s.grantable) : s.regranted.budgetKept := by
  obtain ⟨hb, hstandby⟩ := h
  cases hp : s.part with
  | standby =>
    rw [State.regranted_standby hp]
    exact budgetKept_of_none hb (hstandby hp)
  | running =>
    have hrun : s.part ≠ .standby := by simp [hp]
    have halloc : s.regranted.alloc = { s.alloc with claims := s.regrantedClaims } ∧ s.regranted.part = s.part := by
      rw [State.regranted, if_neg hrun]
      exact ⟨rfl, rfl⟩
    obtain ⟨hreg, habs⟩ := s.regrantedClaims_total
    rw [State.budgetKept_iff, halloc.1, halloc.2]
    refine ⟨hreg.trans_le s.regularNow_sum.2, hb, habs.trans_le s.absorbedNow_sum.2, fun c => ?_,
      fun hs => absurd hs hrun⟩
    rw [s.regrantedClaims_get]
    exact s.grantsNow_le c

theorem budgetKept_of_same {s t : State} (h : s.budgetKept) (hp : t.part = s.part) (ha : t.alloc = s.alloc) :
    t.budgetKept := by
  rw [State.budgetKept_iff, hp, ha]
  exact s.budgetKept_iff.mp h

/-- The target, the ramp and the traction values may change as long as Beff stays within the target. -/
theorem budgetKept_of_target {s t : State} (h : s.budgetKept) (hp : t.part = s.part)
    (hb : t.alloc.beff = s.alloc.beff) (hpool : t.alloc.pool = s.alloc.pool) (hc : t.alloc.claims = s.alloc.claims)
    (ht : s.alloc.beff ≤ t.alloc.target) : t.budgetKept := by
  obtain ⟨hreg, _, habs, hcap, hstandby⟩ := s.budgetKept_iff.mp h
  rw [State.budgetKept_iff, hp, hb, hpool, hc]
  exact ⟨hreg, ht, habs, hcap, hstandby⟩

theorem State.regrantedByFall_budgetKept {s : State} (h : s.grantable) : s.regrantedByFall.budgetKept := by
  unfold State.regrantedByFall
  split
  · exact budgetKept_of_same (State.regranted_budgetKept h) rfl rfl
  · exact State.regranted_budgetKept h

theorem State.recompute_budgetKept {s : State} (h : s.grantable) (fall : Bool) : (s.recompute fall).budgetKept := by
  cases fall with
  | false => rw [s.recompute_regranted]; exact State.regranted_budgetKept h
  | true => rw [s.recompute_byFall]; exact State.regrantedByFall_budgetKept h

theorem State.retarget_budgetKept {s : State} (h : s.budgetKept) : s.retarget.budgetKept := by
  unfold State.retarget
  dsimp only
  split
  · refine State.recompute_budgetKept ?_ true
    exact grantable_of_same h.grantable rfl (Nat.le_refl _) rfl
  · next hfall =>
    have hle : s.alloc.beff ≤ s.targetNow := Nat.le_of_not_lt hfall
    split
    · exact budgetKept_of_target h rfl rfl rfl rfl hle
    · exact budgetKept_of_target h rfl rfl rfl rfl hle

theorem State.repool_budgetKept {s : State} (h : s.budgetKept) : s.repool.budgetKept := by
  unfold State.repool
  split
  · exact h
  · refine State.recompute_budgetKept ?_ false
    exact grantable_of_same h.grantable rfl h.grantable.1 rfl

theorem State.setLine_budgetKept {s : State} (h : s.budgetKept) (l : LineState) : (s.setLine l).budgetKept := by
  unfold State.setLine
  split
  · exact h
  · exact State.repool_budgetKept (State.retarget_budgetKept
      (budgetKept_of_target h rfl rfl rfl rfl h.grantable.1))

theorem State.rampStep_budgetKept {s : State} (h : s.budgetKept) : s.rampStep.budgetKept := by
  have hb := Nat.min_le_left s.alloc.target (s.alloc.beff + s.rampRate)
  unfold State.rampStep
  dsimp only
  split
  · exact h
  · split
    · next hsame => exact budgetKept_of_target h rfl hsame rfl rfl h.grantable.1
    · refine State.recompute_budgetKept ?_ false
      exact grantable_of_same h.grantable rfl hb rfl

/-! ### Capacities -/

theorem State.capped_alloc (s : State) (l : List (Fin 20)) :
    (s.capped l).alloc = { s.alloc with claims := s.cappedClaims l } := by
  simp only [State.capped, State.repowered]

theorem State.capped_part (s : State) (l : List (Fin 20)) : (s.capped l).part = s.part := by
  simp only [State.capped, State.repowered]

theorem State.cappedClaims_get (s : State) (l : List (Fin 20)) (c : Fin 20) : (s.cappedClaims l)[c]
    = { s.alloc.claims[c] with capacity := if c ∈ l then s.usablePower c else s.alloc.claims[c].capacity } := by
  rw [State.cappedClaims, Fin.getElem_fin, Vector.getElem_ofFn]

theorem State.capped_grantable {s : State} (h : s.grantable) (l : List (Fin 20)) : (s.capped l).grantable := by
  unfold State.grantable
  rw [s.capped_alloc l, s.capped_part l]
  refine ⟨h.1, fun hs c => ?_⟩
  rw [s.cappedClaims_get l c]
  exact h.2 hs c

theorem State.capped_of_unchanged {s : State} {l : List (Fin 20)} (h : s.cappedClaims l = s.alloc.claims) :
    (s.capped l).alloc = s.alloc := by
  rw [s.capped_alloc l, h]

theorem ite_budgetKept {p : Prop} [Decidable p] {a b : State} (ha : a.budgetKept) (hb : b.budgetKept) :
    (if p then a else b).budgetKept := by
  split
  · exact ha
  · exact hb

theorem State.refreshCapacities_budgetKept {s : State} (h : s.budgetKept) {l : List (Fin 20)} (hl : l.Nodup)
    (also : Bool) : (s.refreshCapacities l also).budgetKept := by
  rw [s.refreshCapacities_capped l hl]
  split
  · exact State.regranted_budgetKept (State.capped_grantable h.grantable l)
  · next hsame =>
    have hclaims : s.cappedClaims l = s.alloc.claims := not_not.mp fun hne => hsame (.inl hne)
    exact budgetKept_of_same h (s.capped_part l) (State.capped_of_unchanged hclaims)

theorem zoneClaimants_nodup : zoneClaimants.Nodup := by decide

theorem State.commitOutput_budgetKept {s : State} (h : s.budgetKept) (old : State) :
    (old.commitOutput s).budgetKept := by
  have hcleared : (s.clearChannels (old.changedChannels s)).budgetKept := budgetKept_of_same h (by simp) (by simp)
  have hcapped := State.capped_grantable hcleared.grantable (List.finRange 20)
  have hbegun : (((s.clearChannels (old.changedChannels s)).updateCapacities (List.finRange 20)).beginChannels
      (old.changedChannels s)).alloc = ((s.clearChannels (old.changedChannels s)).capped (List.finRange 20)).alloc := by
    rw [← State.updateCapacities_spec _ _ (List.nodup_finRange 20)]
    simp
  have hpart : (((s.clearChannels (old.changedChannels s)).updateCapacities (List.finRange 20)).beginChannels
      (old.changedChannels s)).part = (s.clearChannels (old.changedChannels s)).part := by simp
  unfold State.commitOutput
  dsimp only
  split
  · refine State.recompute_budgetKept ?_ false
    unfold State.grantable at hcapped ⊢
    rw [State.capped_part] at hcapped
    rw [hbegun, hpart]
    exact hcapped
  · next hsame =>
    have hclaims : (s.clearChannels (old.changedChannels s)).cappedClaims (List.finRange 20)
        = (s.clearChannels (old.changedChannels s)).alloc.claims :=
      not_not.mp fun hne => hsame ((State.capacityChanges_spec _ _).mpr hne)
    refine budgetKept_of_same hcleared hpart ?_
    rw [hbegun, State.capped_of_unchanged hclaims]

/-! ### Commits, START, STOP and the resets -/

theorem State.commitTable_budgetKept {s : State} (h : s.budgetKept) (t : TableId) : (s.commitTable t).budgetKept := by
  have hn : (s.installBank t).budgetKept := h
  cases t with
  | zone => exact State.refreshCapacities_budgetKept (budgetKept_of_same hn (by simp) (by simp)) zoneClaimants_nodup false
  | stage =>
    refine State.refreshCapacities_budgetKept ?_ (List.nodup_singleton _) false
    split
    · exact hn
    · exact budgetKept_of_same hn (by simp) (by simp)
  | claim => exact State.recompute_budgetKept (budgetKept_of_same hn (by simp) (by simp)).grantable false
  | budget => exact State.recompute_budgetKept (State.repool_budgetKept (State.retarget_budgetKept hn)).grantable false
  | output => exact State.commitOutput_budgetKept hn s
  | system =>
    have hcool : (State.coolersCompute (s.systemScreen (s.systemLoad (s.installBank .system)))).budgetKept :=
      budgetKept_of_same hn (by simp) (by simp)
    exact State.repool_budgetKept (State.retarget_budgetKept hcool)
  | _ => exact budgetKept_of_same hn (by simp [State.commitTable]) (by simp [State.commitTable])

theorem State.startPart_budgetKept {s : State} (h : s.budgetKept) : s.startPart.budgetKept := by
  refine State.recompute_budgetKept ⟨?_, fun hp => ?_⟩ false
  · simpa using h.grantable.1
  · simp at hp

theorem State.clearGrants_budgetKept {s : State} (h : s.alloc.beff ≤ s.alloc.target) : s.clearGrants.budgetKept := by
  refine budgetKept_of_none (by simpa [State.clearGrants, State.deliver] using h) fun c => ?_
  simp [State.clearGrants, State.deliver, withGrants]

theorem State.stopPart_budgetKept {s : State} (h : s.budgetKept) : s.stopPart.budgetKept := by
  have hbeff : (State.stoppedBlocks { s with part := .standby }).alloc.beff
      ≤ (State.stoppedBlocks { s with part := .standby }).alloc.target := by
    simpa [State.stoppedBlocks, State.emptyTable] using h.grantable.1
  exact budgetKept_of_same (State.clearGrants_budgetKept hbeff) (by simp [State.stopPart, State.stoppedBlocks])
    (by simp [State.stopPart, State.stoppedBlocks])

theorem State.restartPart_budgetKept (s : State) : s.restartPart.budgetKept := by
  have halloc : s.restartKept.restartLoads.alloc = Alloc.reset := by
    have : s.restartKept.restartLoads.alloc = s.restartKept.alloc := by simp
    rw [this]
    rfl
  have hkept : (s.restartKept.restartLoads.restartAlloc).budgetKept :=
    budgetKept_of_none (by
      have hbeff : s.restartKept.restartLoads.restartAlloc.alloc.beff = s.restartKept.restartLoads.alloc.beff := rfl
      rw [hbeff, halloc]
      exact Nat.zero_le _) fun c => by simp [State.restartAlloc]
  exact budgetKept_of_same hkept (by simp [State.restartPart]) (by simp [State.restartPart])

/-! ### The commands -/

theorem budgetKept_requests : KeptByRequests State.budgetKept where
  core := by
    rintro s t ⟨hp, _, _, _, _, _, _, _, _, _, _, _, ha, _⟩ h
    exact budgetKept_of_same h hp ha
  load _ _ _ h := h
  commit _ t h := State.commitTable_budgetKept h t
  start _ _ h := State.startPart_budgetKept h
  stop _ h := State.stopPart_budgetKept h
  restart s _ := s.restartPart_budgetKept
  clear s d h := h
  mask s on d h := budgetKept_of_same h (by simp) (by simp)
  arm s armed k h := h
  loadSet s k n _ h := budgetKept_of_same h (by simp [State.loadSet]) (by simp [State.loadSet])
  set s kind target v d o h := budgetKept_of_same h (by simp) (by simp)
  release s kind target h := budgetKept_of_same h (by simp) (by simp)

/-- A claimant's posted request is no part of the budget. -/
theorem State.setPosted_budgetKept {s : State} (h : s.budgetKept) (c : Fin 20) (q : Nat) :
    (s.setClaim c { s.alloc.claims[c] with posted := q }).budgetKept := by
  have hget (i : Fin 20) : (s.setClaim c { s.alloc.claims[c] with posted := q }).alloc.claims[i]
      = { s.alloc.claims[i] with posted := if c = i then q else s.alloc.claims[i].posted } := by
    simp only [State.setClaim_alloc, Fin.getElem_fin, Vector.getElem_set]
    by_cases hc : c.val = i.val
    · have : c = i := Fin.ext hc
      subst this
      simp
    · have : c ≠ i := fun e => hc (congrArg Fin.val e)
      simp [hc, this]
  have htotal (p : Claim → Nat) (hp : ∀ (k : Claim) (n : Nat), p { k with posted := n } = p k) :
      totalOf (s.setClaim c { s.alloc.claims[c] with posted := q }).alloc.claims p = totalOf s.alloc.claims p := by
    rw [totalOf_congr (f := fun i => p s.alloc.claims[i]) (fun i => by rw [hget, hp]) rfl]
    exact (totalOf_congr (fun _ => rfl) rfl).symm
  obtain ⟨hreg, hbeff, habs, hcap, hstandby⟩ := s.budgetKept_iff.mp h
  rw [State.budgetKept_iff, htotal _ fun _ _ => rfl, htotal _ fun _ _ => rfl]
  refine ⟨hreg, hbeff, habs, fun i => ?_, fun hp i => ?_⟩
  · rw [hget]
    exact hcap i
  · rw [hget]
    exact hstandby hp i

theorem exec_budgetKept (c : Instr) (s : State) (h : s.budgetKept) : Leads State.budgetKept (exec c s) := by
  refine budgetKept_requests.commands (fun c s he h => ?_) c s h
  have taken (e : Instr) : (s.take e).budgetKept := h
  cases c with
  | powerOnReset node rate =>
    exact leads_next.mpr (budgetKept_of_none (Nat.zero_le _) fun c => by simp [State.powerOn, State.reset, Alloc.reset])
  | statusPublication z => exact leads_next.mpr (State.recompute_budgetKept (taken _).grantable false)
  | claimPosting c q =>
    refine leads_next.mpr (State.refreshCapacities_budgetKept (State.setPosted_budgetKept (taken _) c q) ?_ _)
    split
    · exact List.nodup_singleton c
    · exact List.nodup_nil
  | capacityEvent c =>
    exact leads_next.mpr (State.refreshCapacities_budgetKept (taken _) (List.nodup_singleton c) false)
  | lineStateNotification n =>
    refine leads_next.mpr ?_
    split
    · exact State.setLine_budgetKept (taken _) _
    · exact taken _
  | permittedPowerNotification n =>
    refine leads_next.mpr ?_
    split
    · exact State.retarget_budgetKept (budgetKept_of_target h rfl rfl rfl rfl h.grantable.1)
    · exact taken _
  | surplusNotification n =>
    refine leads_next.mpr ?_
    split
    · exact State.repool_budgetKept (budgetKept_of_target h rfl rfl rfl rfl h.grantable.1)
    · exact taken _
  | rampExpiry => exact leads_next.mpr (State.rampStep_budgetKept h)
  | maxCountNotice entered =>
    refine leads_next.mpr (ite_budgetKept ?_ (State.recompute_budgetKept ?_ false))
    · exact budgetKept_of_target h rfl rfl rfl rfl h.grantable.1
    · exact grantable_of_same h.grantable rfl h.grantable.1 rfl
  | reply id data => exact leads_reply (budgetKept_of_same h (by simp) (by simp))
  | _ =>
    first
    | (cases he; done)
    | exact leads_next.mpr (budgetKept_of_same h (by simp [apply_ite State.part]) (by simp [apply_ite State.alloc]))

/-- Settles O57: a recomputation meets the budget, and every change of a capacity, of Beff or of the pool ends in one. -/
theorem stepsKeepTheBudget : Obligations.StepsKeepTheBudget := fun _ _ hs h =>
  step_keeps exec_budgetKept (fun _ _ h => h) (fun _ h => h) h hs

end Sys2Proof.Machine
end

section
/-! Proofs about steps and resets: the front command, the part's own events, the queue of commands (chapter 9, logs 4, 6,
26 and 34). -/

namespace Sys2Proof.Machine

/-! ### Steps -/

/-- Settles O1. -/
theorem stepRunsTheFrontCommand : Obligations.StepRunsTheFrontCommand := fun _ _ _ h => by
  unfold step
  rw [h]

theorem step_advance {s : State} (h : s.pending = []) : step s = s.advance := by
  unfold step
  rw [h]

/-- The passing of one ms at a door, in the words of R57 and R61. -/
theorem Door.tick_eq (measured : Bool) (x : Door) : x.tick measured = { x with
    debounce := x.debounce.map fun n => n - 1
    timer := x.timer.map fun n => n - 1
    openMs := if measured = true ∧ x.isOpen = true then min 65535000 (x.openMs + 1) else x.openMs } := by
  simp [Door.tick, Timer.tick]

theorem Channel.tick_eq (x : Channel) : x.tick = { x with
    spacing := x.spacing.map fun n => n - 1
    periodic := x.periodic.map fun n => n - 1
    replyWait := x.replyWait.map fun n => n - 1
    window := x.window.map fun n => n - 1
    elapsed := if x.window = none then x.elapsed else x.elapsed + 1 } := by
  cases h : x.window <;> simp [Channel.tick, Timer.tick, h]

/-- Settles O2: on an empty queue a step is `State.advance`, and with nothing due one ms passes. -/
theorem emptyQueueRunsThePartItself : Obligations.EmptyQueueRunsThePartItself := by
  intro s h less
  rw [step_advance h]
  refine ⟨fun e es hf => ?_, fun hf e es hd => ?_, fun hf hd => ?_⟩
  · simp only [State.advance, hf]
  · simp only [State.advance, hf, hd]
  · have hdoors : (Vector.ofFn fun d : Fin 8 => s.doors[d].tick (s.part == .running && (s.doorRow d).used))
        = Vector.ofFn fun d : Fin 8 => { s.doors[d] with
          debounce := less s.doors[d].debounce
          timer := less s.doors[d].timer
          openMs := if s.part = .running ∧ (s.doorRow d).used = true ∧ s.doors[d].isOpen = true then
              min 65535000 (s.doors[d].openMs + 1)
            else s.doors[d].openMs } := by
      congr 1
      funext d
      rw [Door.tick_eq]
      simp [and_assoc, less]
    have hchannels : Channel.tick = fun x : Channel => { x with
        spacing := less x.spacing
        periodic := less x.periodic
        replyWait := less x.replyWait
        window := less x.window
        elapsed := if x.window = none then x.elapsed else x.elapsed + 1 } := funext Channel.tick_eq
    have hover : s.overrides.tick (s.part == .running) = { s.overrides with
        table := if s.part = .running then s.overrides.table.map fun r => { r with remaining := less r.remaining }
          else s.overrides.table
        panelTimer := less s.overrides.panelTimer
        statusTimer := less s.overrides.statusTimer } := by
      simp [Overrides.tick, less, Timer.tick]
    have hengine : s.engine.tick = match s.engine with
        | .assembling o => .assembling { o with timer := o.timer - 1 }
        | e => e := by
      cases s.engine <;> rfl
    simp only [State.advance, hf, hd, State.passMs, hdoors, hchannels, hover, hengine]
    rfl

/-! ### The queue of commands -/

theorem pending_requests (q : List Instr) : KeptByRequests fun s => s.pending = q where
  core := by
    rintro s t ⟨_, _, _, _, _, _, _, _, _, _, _, _, _, hp⟩ h
    exact hp.trans h
  load _ _ _ h := h
  commit s t h := by simpa using h
  start s _ h := by simpa using h
  stop s h := by simpa using h
  restart s h := by
    have hr : s.restartPart.pending = s.restartKept.pending := by simp [State.restartPart]
    exact hr.trans h
  clear s d h := h
  mask s on d h := by simpa using h
  arm s armed k h := h
  loadSet s k n _ h := by simpa [State.loadSet] using h
  set s kind target v d o h := by simpa using h
  release s kind target h := by simpa using h

theorem pending_of_same {s t : State} {q : List Instr} (h : s.pending = q) (ht : t.pending = s.pending) :
    t.pending = q := ht.trans h

/-- A command leaves the queue of waiting commands alone. -/
theorem exec_pending (c : Instr) (s : State) : Leads (fun t => t.pending = s.pending) (exec c s) := by
  refine (pending_requests s.pending).commands (fun c u he h => ?_) c s rfl
  cases c with
  | powerOnReset node rate => exact leads_next.mpr h
  | reply id data => exact leads_reply (pending_of_same h (by simp))
  | _ =>
    first
    | (cases he; done)
    | exact leads_next.mpr (pending_of_same h (by simp [apply_ite State.pending]))

/-- A frame of more than 8 data bytes is the one operand that a command refuses. -/
theorem exec_completes {c : Instr} (s : State) (h : c.wellFormed = true) : ∃ t, exec c s = .next t := by
  cases c with
  | frameArrival p f =>
    have hl : f.data.length ≤ 8 := by simpa [Instr.wellFormed, Frame.wellFormed] using h
    exact ⟨_, if_pos hl⟩
  | reply id data =>
    have hl : data.length ≤ 8 := by simpa [Instr.wellFormed] using h
    exact ⟨_, if_pos hl⟩
  | _ => exact ⟨_, rfl⟩

/-- Settles O3. -/
theorem wellFormedCommandsComplete : Obligations.WellFormedCommandsComplete := fun c s h => by
  obtain ⟨t, ht⟩ := exec_completes s h
  exact ⟨t, ht, exec_pending c s t ht⟩

/-! ### Power-on reset -/

/-- Settles O5: power-on reset is `State.reset` but for the straps, the count of free bytes and the queue. -/
theorem powerOnResetOfTheBlocks : Obligations.PowerOnResetOfTheBlocks := by
  intro node rate s
  refine ⟨s.powerOn node rate, rfl, fun p => by cases p <;> rfl, rfl, rfl, rfl, fun i => ?_, fun z => ?_, fun k => ?_,
    fun d => ?_, rfl, fun k => ?_, rfl, rfl, rfl, rfl, rfl, rfl, rfl, rfl, rfl, rfl, rfl, fun c => ?_, fun src => ?_,
    fun c => ?_⟩
  · simp [State.powerOn, State.reset, Slot.reset]
  · simp [State.powerOn, State.reset, Zone.reset]
  · simp [State.powerOn, State.reset, Cooler.reset]
  · simp [State.powerOn, State.reset]
  · simp [State.powerOn, State.reset, Load.reset]
  · simp [State.powerOn, State.reset, Alloc.reset]
  · cases src <;> simp [State.powerOn, State.reset, State.sourceValue, Sources.reset]
  · simp [State.powerOn, State.reset, Channel.reset]

/-- Settles O60: the reset state meets the reset form of each condition. -/
theorem resetMeetsTheStandingConditions : Obligations.ResetMeetsTheStandingConditions :=
  ⟨⟨by decide, by decide, fun p => by cases p <;> exact ⟨Nat.zero_le _, Nat.zero_le _, Nat.zero_le _⟩⟩,
    Overrides.kept_reset, fun k => by simp [State.reset, Load.reset],
    budgetKept_of_none (Nat.zero_le _) (fun c => by simp [State.reset, Alloc.reset]), banksKept_reset rfl rfl rfl,
    State.powerOn_standbyQuiet State.reset State.reset.node State.reset.rate,
    doorsKept_of_reset (fun d => by simp [State.reset, Door.reset]), coolersKept_of_reset rfl⟩

end Sys2Proof.Machine
end

section
/-! Proofs for section 9.2: RESTART keeps the tables and resets the rest (R185). -/

namespace Sys2Proof.Machine

/-! ### Channels taken into use -/

theorem Channel.makeFrame_of_level {v : ChannelView} {ch : Channel} (h : v.row.level ≤ 14) :
    ch.makeFrame v = ch.judge v := if_pos h

/-- A channel without spacing offers its frame at once (R170). -/
theorem Channel.judge_free {v : ChannelView} {ch : Channel} (h : ch.spacing = none) :
    ch.judge v = { ch with frame := if v.linkOn then .offered else .none } := if_pos (.inl h)

/-- A newly used channel in STANDBY commands its standby value, windows stopped (R177). -/
theorem Channel.begin_standby (v : ChannelView) (cmd : Nat) : Channel.begin v false cmd
    = { commanded := cmd, output := encodeOutput v.row cmd, lastCarried := none
        frame := if v.row.level ≤ 14 ∧ v.linkOn = true then .offered else .none
        spacing := none, periodic := if v.row.level ≤ 14 then some v.row.period else none
        faulted := false, misses := 0, replyWait := none, window := none, elapsed := 0, onTime := 0 } := by
  unfold Channel.begin
  simp only [Bool.false_eq_true, and_false, if_false]
  by_cases h : v.row.level ≤ 14
  · rw [if_pos h, Channel.makeFrame_of_level h, Channel.judge_free rfl]
    cases v.linkOn <;> simp [h, Channel.reset]
  · simp [h, Channel.reset]

theorem State.beginChannels_all (s : State) :
    s.beginChannels (List.finRange 24) = { s with
      channels := Vector.ofFn fun c : Fin 24 => if (s.outputRow c).used = true then
        Channel.begin (s.channelView c) (s.part == .running) (s.commandedFrom (s.outputRow c) (s.sourceOf (s.outputRow c)))
        else s.channels[c] } := by
  refine forEach_channels s (fun c t => t.beginChannel c) _ fun c cs hc => ?_
  have hr : State.outputRow { s with channels := cs } c = s.outputRow c := rfl
  unfold State.beginChannel
  simp only [hr]
  by_cases hu : (s.outputRow c).used = true
  · rw [if_pos hu, if_pos hu]
    rfl
  · rw [if_neg hu, if_neg hu, ← hc]
    simp

/-! ### The part before its channels begin -/

/-- The part after RESTART but for the channels. -/
def State.restarted (s : State) : State := s.restartKept.restartLoads.restartAlloc

theorem State.restartPart_eq (s : State) : s.restartPart = s.restarted.beginChannels (List.finRange 24) := rfl

/-- The counts after RESTART (R98). -/
theorem State.restartLoads_eq (s : State) : s.restartLoads = { s with
    loads := Vector.ofFn fun _ : Fin 3 => { Load.reset with current := s.bandOf 0 } } := by
  have hw := forEach_eq (fun k => { s with loads := upTo k (fun _ => { Load.reset with current := s.bandOf 0 }) s.loads })
    (fun k t => t.restartLoad k) (s := s) (fun k => by
      unfold State.restartLoad State.setLoad
      rw [← upTo_succ]
      rfl) (by simp)
  rw [State.restartLoads, hw, upTo_all]

/-- The part after RESTART, field by field, but for the channels. -/
theorem State.restarted_eq (s : State) : s.restarted = { s.restartKept with
    loads := Vector.ofFn fun _ : Fin 3 => { Load.reset with current := s.bandOf 0 }
    alloc := { Alloc.reset with
      target := (s.budgetRow .unknown).base
      ramp := if 0 < (s.budgetRow .unknown).base then some 1000 else none
      claims := Vector.ofFn fun c : Fin 20 => ⟨0, s.restartKept.restartLoads.capacityNow c, 0, 0⟩ } } := by
  have hb : s.restartKept.restartLoads.budgetRow .unknown = s.budgetRow .unknown := by
    have ha : s.restartKept.restartLoads.active = s.active := by
      have : s.restartKept.restartLoads.active = s.restartKept.active := by simp
      exact this
    simp only [State.budgetRow, ha]
  have hl := s.restartKept.restartLoads_eq
  unfold State.restarted State.restartAlloc
  rw [hb]
  simp only [hl]
  rfl

theorem State.restarted_channel (s : State) (c : Fin 24) : s.restarted.channels[c] = Channel.reset := by
  rw [s.restarted_eq]
  simp [State.restartKept, State.reset]

/-- A channel after RESTART (R179). -/
theorem State.restartPart_channel (s : State) (c : Fin 24) : s.restartPart.channels[c] =
    (let r := s.outputRow c
     { commanded := if r.used = true then r.standby else 0
       output := if r.used = true then r.encoded r.standby else 0
       lastCarried := none
       frame := if r.used = true ∧ r.level ≤ 14 then .offered else .none
       spacing := none
       periodic := if r.used = true ∧ r.level ≤ 14 then some r.period else none
       faulted := false, misses := 0, replyWait := none, window := none, elapsed := 0, onTime := 0 }) := by
  have hrow : s.restarted.outputRow c = s.outputRow c := by
    rw [s.restarted_eq]
    rfl
  have hlink : s.restarted.climate.link = .on := by
    rw [s.restarted_eq]
    rfl
  have hpart : s.restarted.part = .standby := by
    rw [s.restarted_eq]
    rfl
  have hget : s.restartPart.channels[c] = if (s.outputRow c).used = true then
      Channel.begin (s.restarted.channelView c) false (s.outputRow c).standby else Channel.reset := by
    rw [s.restartPart_eq, State.beginChannels_all]
    simp only [Fin.getElem_fin, Vector.getElem_ofFn]
    rw [← Fin.getElem_fin s.restarted.channels c, s.restarted_channel c, hrow, hpart]
    simp [State.commandedFrom, hpart]
    rfl
  have hview : (s.restarted.channelView c).row = s.outputRow c ∧ (s.restarted.channelView c).linkOn = true := by
    simp [State.channelView, hrow, hlink]
  rw [hget]
  by_cases hu : (s.outputRow c).used = true
  · rw [if_pos hu, Channel.begin_standby, hview.1, hview.2]
    simp [hu, encodeOutput_spec]
  · simp [hu, Channel.reset]

theorem State.restartPart_of_channels {α : Type} (s : State) (f : State → α)
    (h : ∀ (t : State) (cs : Vector Channel 24), f { t with channels := cs } = f t) : f s.restartPart = f s.restarted := by
  rw [s.restartPart_eq, State.beginChannels_all, h]

/-- A capacity after RESTART follows its owner, which no health holds back (R160). -/
theorem State.restarted_capacity (s : State) (c : Fin 20) :
    s.restartKept.restartLoads.capacityNow c = s.reqRestart.usablePower c := by
  have hsame : s.reqRestart.active = s.active ∧ s.reqRestart.doors = s.restartKept.doors
      ∧ s.reqRestart.screen = s.restartKept.screen ∧ s.reqRestart.channels = s.restartPart.channels := by
    simp [State.reqRestart, State.restartPart]
    rfl
  obtain ⟨ha, hd, hs, hc⟩ := hsame
  have hkept : s.restartKept.restartLoads.doors = s.restartKept.doors
      ∧ s.restartKept.restartLoads.screen = s.restartKept.screen
      ∧ s.restartKept.restartLoads.active = s.restartKept.active
      ∧ s.restartKept.restartLoads.channels = s.restartKept.channels := by simp
  obtain ⟨hd', hs', ha', hc'⟩ := hkept
  rw [State.capacityNow_spec]
  refine (State.usablePower_congr c (ha.trans ha'.symm) (hd.trans hd'.symm) (hs.trans hs'.symm) fun i => ?_).symm
  rw [hc, s.restartPart_channel i, hc']
  simp [State.restartKept, State.reset, Channel.reset]

/-- The answer to RESTART is the one frame in its queue (R182, R185). -/
theorem State.reqRestart_responses (s : State) : s.reqRestart.responses
    = [⟨canId (0x6E1 + 2 * s.node.val), [50, 1, 0, 0, 0, 0, 0, 0]⟩] := by
  have hr : s.restartPart.responses = [] ∧ s.restartPart.vehicle.link = .on ∧ s.restartPart.node = s.node := by
    simp [State.restartPart]
    exact ⟨rfl, rfl, rfl⟩
  obtain ⟨hq, hlink, hnode⟩ := hr
  rw [State.reqRestart, State.answer_on hlink]
  simp only [hq, hnode]
  rfl

/-- The part after RESTART, field by field. -/
theorem State.reqRestart_eq (s : State) : ∃ n, s.reqRestart = { s.restartKept with
    loads := Vector.ofFn fun _ : Fin 3 => { Load.reset with current := s.bandOf 0 }
    alloc := { Alloc.reset with
      target := (s.budgetRow .unknown).base
      ramp := if 0 < (s.budgetRow .unknown).base then some 1000 else none
      claims := Vector.ofFn fun c : Fin 20 => ⟨0, s.restartKept.restartLoads.capacityNow c, 0, 0⟩ }
    channels := s.restartPart.channels
    responses := s.reqRestart.responses
    draws := n } := by
  have hlink : s.restartPart.vehicle.link = .on := by
    simp [State.restartPart]
    rfl
  obtain ⟨cs, hcs⟩ : ∃ cs, s.restartPart = { s.restarted with channels := cs } :=
    ⟨_, (s.restartPart_eq).trans (State.beginChannels_all _)⟩
  refine ⟨s.restartPart.draws + 1, ?_⟩
  rw [State.reqRestart, State.answer_on hlink, hcs, s.restarted_eq]

/-- Settles O6: the whole state by `State.reqRestart_eq`, the channels by `State.restartPart_channel`. -/
theorem restartKeepsTheTables : Obligations.RestartKeepsTheTables := by
  intro s
  obtain ⟨n, heq⟩ := s.reqRestart_eq
  have hchannels : s.reqRestart.channels = s.restartPart.channels := (congrArg State.channels heq :)
  have halloc := (congrArg State.alloc heq :)
  have hloads := (congrArg State.loads heq :)
  have hzones : s.reqRestart.zones = Vector.ofFn fun z : Fin 8 => Zone.restart (s.zoneRow z) :=
    (congrArg State.zones heq :)
  have hdoors : s.reqRestart.doors = Vector.ofFn fun d : Fin 8 => Door.restart (s.doorRow d) :=
    (congrArg State.doors heq :)
  have hslots : s.reqRestart.slots = State.reset.slots := (congrArg State.slots heq :)
  have hcoolers : s.reqRestart.coolers = State.reset.coolers := (congrArg State.coolers heq :)
  have hports : ∀ p, s.reqRestart.port p = (s.port p).restart := fun p => by
    cases p
    · exact (congrArg State.vehicle heq :)
    · exact (congrArg State.climate heq :)
  have hsources : s.reqRestart.sources = Sources.reset := (congrArg State.sources heq :)
  refine ⟨s.reqRestart, rfl, (congrArg State.part heq :), (congrArg State.engine heq :), (congrArg State.flags heq :),
    (congrArg State.active heq :), (congrArg State.shadow heq :), (congrArg State.marks heq :), (congrArg State.node heq :),
    (congrArg State.rate heq :), (congrArg State.pending heq :), (congrArg State.inFlight heq :), s.reqRestart_responses,
    (congrArg State.acks heq :), (congrArg State.panelStatus heq :), fun p => ?_, fun i => ?_, fun z => ?_, fun k => ?_,
    fun d => ?_, (congrArg State.groupMask heq :), fun k => ?_, (congrArg State.markHigh heq :), (congrArg State.screen heq :),
    (congrArg State.overrides heq :), ?_, fun src => ?_, fun c => ?_⟩
  · rw [hports]
    exact ⟨rfl, rfl, rfl, rfl, rfl, rfl⟩
  · rw [hslots]
    simp [State.reset, Slot.reset]
  · rw [hzones]
    simp [Zone.restart, Zone.reset, ZoneRow.baseSetpoint]
  · rw [hcoolers]
    simp [State.reset, Cooler.reset]
  · rw [hdoors]
    simp [Door.restart, Door.reset]
  · rw [hloads]
    simp [Load.reset]
  · rw [halloc]
    simp only [s.restarted_capacity]
    rfl
  · unfold State.sourceValue
    rw [hsources]
    cases src <;> simp [Sources.reset]
  · rw [hchannels]
    exact s.restartPart_channel c

end Sys2Proof.Machine
end

section
/-! Proofs for sections 1.1 and 8.5: the ports, their arbiters and the ends of a transmission (R2 to R7, R172). -/

namespace Sys2Proof.Machine

/-! ### The ends of a transmission -/

theorem State.transmitComplete_of {s : State} {p : PortName} {x : Tx} (h : (s.port p).onBus = some x)
    (hx : x.src ≠ .orphan) : s.transmitComplete p
      = (s.setPort p { s.port p with onBus := none, errors := (s.port p).errors - 1 }).leaveSource p x := by
  unfold State.transmitComplete
  rw [h]
  simp only [if_neg hx]

theorem State.transmitComplete_orphan {s : State} {p : PortName} {x : Tx} (h : (s.port p).onBus = some x)
    (hx : x.src = .orphan) : s.transmitComplete p = s.setPort p { s.port p with onBus := none } := by
  unfold State.transmitComplete State.leaveSource
  rw [h]
  simp only [hx, if_true]

theorem State.transmitError_of {s : State} {p : PortName} {x : Tx} (h : (s.port p).onBus = some x)
    (hx : x.src ≠ .orphan) : s.transmitError p = if 255 < (s.port p).errors + 8 then s.enterBusOff p
      else s.setPort p { s.port p with onBus := none, errors := (s.port p).errors + 8 } := by
  unfold State.transmitError
  rw [h]
  simp only [if_neg hx]

theorem State.transmitError_orphan {s : State} {p : PortName} {x : Tx} (h : (s.port p).onBus = some x)
    (hx : x.src = .orphan) : s.transmitError p = s.setPort p { s.port p with onBus := none } := by
  unfold State.transmitError
  rw [h]
  simp only [hx, if_true]

/-- A frame that leaves its source leaves the counts and the link of the port. -/
theorem State.leaveSource_port (s : State) (p : PortName) (x : Tx) :
    ((s.leaveSource p x).port p).errors = (s.port p).errors ∧ ((s.leaveSource p x).port p).link = (s.port p).link
      ∧ ((s.leaveSource p x).port p).onBus = (s.port p).onBus := by
  unfold State.leaveSource
  split <;> cases p <;> simp [State.port, State.setPort]

/-- The frames that the channels lose at an entry to BUS_OFF (R2, R172). -/
theorem State.discardOwn_climate (s : State) : s.discardOwn .climate
    = { s with channels := Vector.ofFn fun c : Fin 24 => { s.channels[c] with frame := .none } } := by
  refine forEach_channels s _ _ fun c cs hc => ?_
  rw [← hc]
  rfl

/-- The entry to BUS_OFF at either port (R2, R3). -/
theorem State.enterBusOff_spec (s : State) (p : PortName) :
    (s.enterBusOff p).port p = { s.port p with link := .busOff, forwards := [], busOff := some 500, onBus := none }
      ∧ (s.enterBusOff p).port (otherPort p) = s.port (otherPort p) ∧ (s.enterBusOff p).flags = s.flags
      ∧ (p = .vehicle → (s.enterBusOff p).responses = [] ∧ (s.enterBusOff p).acks = []
          ∧ (s.enterBusOff p).panelStatus = none ∧ (s.enterBusOff p).channels = s.channels)
      ∧ (p = .climate → (s.enterBusOff p).responses = s.responses ∧ (s.enterBusOff p).acks = s.acks
          ∧ (s.enterBusOff p).panelStatus = s.panelStatus
          ∧ ∀ c : Fin 24, (s.enterBusOff p).channels[c] = { s.channels[c] with frame := .none }) := by
  cases p with
  | vehicle => exact ⟨rfl, rfl, rfl, fun _ => ⟨rfl, rfl, rfl, rfl⟩, nofun⟩
  | climate =>
    unfold State.enterBusOff
    rw [State.discardOwn_climate]
    refine ⟨rfl, rfl, rfl, nofun, fun _ => ⟨rfl, rfl, rfl, fun c => ?_⟩⟩
    simp [State.setPort]

/-- Settles O7. -/
theorem transmitErrorsLeadToBusOff : Obligations.TransmitErrorsLeadToBusOff := by
  intro s p
  refine ⟨fun x hx hsrc => ⟨⟨s.transmitComplete p, rfl, ?_⟩, fun hlow => ?_, fun hhigh => ?_⟩, rfl, fun n hn => ?_⟩
  · have hport := (s.setPort p { s.port p with onBus := none, errors := (s.port p).errors - 1 }).leaveSource_port p x
    rw [State.transmitComplete_of hx hsrc]
    simpa using hport
  · change Host.Outcome.next (s.transmitError p) = _
    rw [State.transmitError_of hx hsrc, if_neg (Nat.not_lt.mpr hlow)]
  · refine ⟨s.enterBusOff p, ?_, s.enterBusOff_spec p⟩
    change Host.Outcome.next (s.transmitError p) = _
    rw [State.transmitError_of hx hsrc, if_pos hhigh]
  · change Host.Outcome.next (s.busOffExpiry p) = _
    rw [State.busOffExpiry, if_neg (by simp [hn])]

/-! ### The arbiters -/

theorem State.transmitStart_free {s : State} {p : PortName} (hl : (s.port p).link = .on) (hb : (s.port p).onBus = none) :
    s.transmitStart p = s.setPort p { s.port p with onBus := s.choice p } := if_pos ⟨hl, hb⟩

/-- The better of a channel found so far and an OFFERED channel of a higher index (R6). -/
def State.better (s : State) (best : Option (Fin 24)) (c : Fin 24) : Option (Fin 24) :=
  if s.channels[c].frame = .offered then
    match best with
    | none => some c
    | some b => if (s.outputRow c).level < (s.outputRow b).level then some c else best
  else best

theorem State.bestChannel_eq (s : State) : s.bestChannel = (List.finRange 24).foldl s.better none := rfl

/-- Channel c goes before channel d: of a lower level, or of the same level with an index no higher (R6). -/
def State.before (s : State) (c d : Fin 24) : Prop :=
  (s.outputRow c).level < (s.outputRow d).level ∨ ((s.outputRow c).level = (s.outputRow d).level ∧ c.val ≤ d.val)

/-- What a walk over channels of rising index picks, from the best channel found so far. -/
theorem State.better_foldl (s : State) (l : List (Fin 24)) (hl : l.Pairwise fun c d => c.val < d.val)
    (best : Option (Fin 24)) (hb : ∀ b, best = some b → ∀ d ∈ l, b.val < d.val) :
    (l.foldl s.better best = none → best = none ∧ ∀ d ∈ l, s.channels[d].frame ≠ .offered)
      ∧ ∀ c, l.foldl s.better best = some c →
        (best = some c ∨ (c ∈ l ∧ s.channels[c].frame = .offered))
          ∧ (∀ b, best = some b → s.before c b) ∧ ∀ d ∈ l, s.channels[d].frame = .offered → s.before c d := by
  induction l generalizing best with
  | nil =>
    refine ⟨fun h => ⟨h, nofun⟩, fun c h => ⟨.inl h, fun b hbest => ?_, nofun⟩⟩
    obtain rfl : c = b := Option.some.inj (h.symm.trans hbest)
    exact .inr ⟨rfl, le_refl _⟩
  | cons d l ih =>
    obtain ⟨hd, hl⟩ := List.pairwise_cons.mp hl
    rw [List.foldl_cons]
    have hnext (b : Fin 24) (h : s.better best d = some b) : ∀ e ∈ l, b.val < e.val := by
      intro e he
      unfold State.better at h
      split at h
      · split at h
        · obtain rfl := Option.some.inj h
          exact hd e he
        · split at h
          · obtain rfl := Option.some.inj h
            exact hd e he
          · exact hb b h e (List.mem_cons_of_mem _ he)
      · exact hb b h e (List.mem_cons_of_mem _ he)
    obtain ⟨ihnone, ihsome⟩ := ih hl (s.better best d) hnext
    by_cases ho : s.channels[d].frame = .offered
    · cases best with
      | none =>
        have hbetter : s.better none d = some d := by simp only [State.better, if_pos ho]
        rw [hbetter] at ihnone ihsome ⊢
        refine ⟨fun h => absurd (ihnone h).1 (by simp), fun c hc => ?_⟩
        obtain ⟨hin, hbest, hrest⟩ := ihsome c hc
        refine ⟨.inr ?_, nofun, fun e he => ?_⟩
        · obtain h | ⟨hmem, hoff⟩ := hin
          · obtain rfl := Option.some.inj h
            exact ⟨List.mem_cons_self, ho⟩
          · exact ⟨List.mem_cons_of_mem _ hmem, hoff⟩
        · obtain rfl | he := List.mem_cons.mp he
          · exact fun _ => hbest _ rfl
          · exact hrest e he
      | some b =>
        have hbd : b.val < d.val := hb b rfl d List.mem_cons_self
        by_cases hlt : (s.outputRow d).level < (s.outputRow b).level
        · have hbetter : s.better (some b) d = some d := by simp only [State.better, if_pos ho, if_pos hlt]
          rw [hbetter] at ihnone ihsome ⊢
          refine ⟨fun h => absurd (ihnone h).1 (by simp), fun c hc => ?_⟩
          obtain ⟨hin, hbest, hrest⟩ := ihsome c hc
          have hcd : s.before c d := hbest d rfl
          refine ⟨.inr ?_, fun e he => ?_, fun e he => ?_⟩
          · obtain h | ⟨hmem, hoff⟩ := hin
            · obtain rfl := Option.some.inj h
              exact ⟨List.mem_cons_self, ho⟩
            · exact ⟨List.mem_cons_of_mem _ hmem, hoff⟩
          · obtain rfl := Option.some.inj he
            unfold State.before at hcd ⊢
            omega
          · obtain rfl | he := List.mem_cons.mp he
            · exact fun _ => hcd
            · exact hrest e he
        · have hbetter : s.better (some b) d = some b := by simp only [State.better, if_pos ho, if_neg hlt]
          rw [hbetter] at ihnone ihsome ⊢
          refine ⟨fun h => absurd (ihnone h).1 (by simp), fun c hc => ?_⟩
          obtain ⟨hin, hbest, hrest⟩ := ihsome c hc
          have hcb : s.before c b := hbest b rfl
          refine ⟨hin.imp_right fun h => ⟨List.mem_cons_of_mem _ h.1, h.2⟩, hbest, fun e he => ?_⟩
          obtain rfl | he := List.mem_cons.mp he
          · intro _
            unfold State.before at hcb ⊢
            omega
          · exact hrest e he
    · have hbetter : s.better best d = best := by simp only [State.better, if_neg ho]
      rw [hbetter] at ihnone ihsome ⊢
      refine ⟨fun h => ⟨(ihnone h).1, fun e he => ?_⟩, fun c hc => ?_⟩
      · obtain rfl | he := List.mem_cons.mp he
        · exact ho
        · exact (ihnone h).2 e he
      · obtain ⟨hin, hbest, hrest⟩ := ihsome c hc
        refine ⟨hin.imp_right fun h => ⟨List.mem_cons_of_mem _ h.1, h.2⟩, hbest, fun e he => ?_⟩
        obtain rfl | he := List.mem_cons.mp he
        · exact fun h => absurd h ho
        · exact hrest e he

theorem State.bestChannel_none {s : State} (h : s.bestChannel = none) (c : Fin 24) : s.channels[c].frame ≠ .offered :=
  ((s.better_foldl _ (List.pairwise_lt_finRange 24) none nofun).1 h).2 c (List.mem_finRange c)

theorem State.bestChannel_some {s : State} {c : Fin 24} (h : s.bestChannel = some c) :
    s.channels[c].frame = .offered ∧ ∀ d : Fin 24, s.channels[d].frame = .offered → s.before c d := by
  obtain ⟨hin, _, hrest⟩ := (s.better_foldl _ (List.pairwise_lt_finRange 24) none nofun).2 c h
  exact ⟨hin.elim nofun fun h => h.2, fun d => hrest d (List.mem_finRange d)⟩

/-- The frame of a channel that is chosen (R6, R163, R209). -/
theorem State.channelTx_spec {s : State} {c : Fin 24} (h : s.bestChannel = some c)
    (hl : s.climate.forwards ≠ [] → (s.outputRow c).level ≤ s.forwardLevel) :
    ∃ d : Fin 24, (s.channelTx c).src = .channel d ∧ s.channels[d].frame = .offered
      ∧ (s.channelTx c).carried = s.channels[d].output
      ∧ (s.channelTx c).frame.id = BitVec.ofNat 11 (s.outputRow d).commandId
      ∧ (s.channelTx c).frame.data = (if (s.outputRow d).encoding = some .permille then le16 s.channels[d].output
          else [byteOf s.channels[d].output])
      ∧ (∀ e : Fin 24, s.channels[e].frame = .offered →
          (s.outputRow d).level < (s.outputRow e).level
            ∨ ((s.outputRow d).level = (s.outputRow e).level ∧ d.val ≤ e.val))
      ∧ (s.climate.forwards ≠ [] → (s.outputRow d).level ≤ s.forwardLevel) :=
  ⟨c, rfl, (State.bestChannel_some h).1, rfl, rfl, rfl, (State.bestChannel_some h).2, hl⟩

/-- Settles O8: the vehicle port by the sources in turn, the climate port by `State.bestChannel_some`. -/
theorem arbitersTakeByPrecedence : Obligations.ArbitersTakeByPrecedence := by
  refine ⟨fun s hl hb => ?_, fun s hl hb => ?_⟩
  · have hstart : s.transmitStart .vehicle = { s with vehicle := { s.vehicle with onBus := s.vehicleChoice } } :=
      State.transmitStart_free hl hb
    have hsent (x : Tx) (h : s.vehicleChoice = some x) :
        exec (.transmitStart .vehicle) s = .next { s with vehicle := { s.vehicle with onBus := some x } } := by
      change Host.Outcome.next (s.transmitStart .vehicle) = _
      rw [hstart, h]
    refine ⟨fun f fs h => hsent _ (by simp only [State.vehicleChoice, h]),
      fun h1 f fs h => hsent _ (by simp only [State.vehicleChoice, h1, h]),
      fun h1 h2 f h => hsent _ (by simp only [State.vehicleChoice, h1, h2, h]),
      fun h1 h2 h3 f fs h => hsent _ (by simp only [State.vehicleChoice, h1, h2, h3, h]), fun h1 h2 h3 h4 => ?_⟩
    have hnone : s.vehicleChoice = s.vehicle.onBus := by simp only [State.vehicleChoice, h1, h2, h3, h4, hb]
    change Host.Outcome.next (s.transmitStart .vehicle) = _
    rw [hstart, hnone]
  · have hstart : s.transmitStart .climate = { s with climate := { s.climate with onBus := s.climateChoice } } :=
      State.transmitStart_free hl hb
    refine ⟨_, congrArg Host.Outcome.next hstart, rfl, ?_, ?_⟩
    · change s.climateChoice = none → _
      unfold State.climateChoice
      cases hbest : s.bestChannel with
      | none =>
        cases hf : s.climate.forwards with
        | nil => exact fun _ => ⟨rfl, State.bestChannel_none hbest⟩
        | cons f fs => exact nofun
      | some c =>
        cases hf : s.climate.forwards with
        | nil => exact nofun
        | cons f fs => 
          dsimp only
          split <;> exact nofun
    · intro x hx
      change s.climateChoice = some x at hx
      unfold State.climateChoice at hx
      cases hbest : s.bestChannel with
      | none =>
        cases hf : s.climate.forwards with
        | nil => simp [hbest, hf] at hx
        | cons f fs =>
          simp only [hbest, hf, Option.some.injEq] at hx
          subst hx
          exact .inr ⟨rfl, rfl, fun d hd => absurd hd (State.bestChannel_none hbest d)⟩
      | some c =>
        cases hf : s.climate.forwards with
        | nil =>
          simp only [hbest, hf, Option.some.injEq] at hx
          subst hx
          exact .inl (hf ▸ State.channelTx_spec hbest fun h => absurd hf h)
        | cons f fs =>
          simp only [hbest, hf] at hx
          split at hx
          · next hlt =>
            obtain rfl := Option.some.inj hx
            refine .inr ⟨rfl, rfl, fun d hd => ?_⟩
            have hbefore := (State.bestChannel_some hbest).2 d hd
            unfold State.before at hbefore
            omega
          · next hle =>
            obtain rfl := Option.some.inj hx
            exact .inl (hf ▸ State.channelTx_spec hbest fun _ => Nat.le_of_not_lt hle)

/-! ### A frame that completes -/

/-- The frame that a completed channel makes when its output has moved on: none at level 15, OFFERED when it cuts power,
else WAITING for the spacing that has just begun (R169, R170, R172, R173). -/
theorem Channel.completed_spec (v : ChannelView) (carried : Nat) (ch : Channel) (hl : v.linkOn = true) :
    ch.completed v carried = { ch with
      lastCarried := some carried
      spacing := some v.row.spacing
      replyWait := some (ch.replyWait.getD v.row.replyTimeout)
      frame := if ch.output = carried ∨ 14 < v.row.level then .none
        else if v.row.isPower = true ∧ ch.output < carried then .offered else .waiting } := by
  unfold Channel.completed
  by_cases ho : ch.output = carried
  · simp [ho]
  · by_cases hlev : v.row.level ≤ 14
    · have hnl : ¬ 14 < v.row.level := by omega
      by_cases hex : v.row.isPower = true ∧ ch.output < carried
      · simp [ho, Channel.makeFrame, hlev, hnl, Channel.judge, Channel.exempt, hex, Channel.offer, hl]
      · have hex' : ¬ (v.row.isPower = true ∧ (ch.output < carried)) := hex
        simp [ho, Channel.makeFrame, hlev, hnl, Channel.judge, Channel.exempt, hex']
    · simp [ho, Channel.makeFrame, hlev, Nat.lt_of_not_le hlev]

/-- Settles O9. -/
theorem completionLeavesItsSource : Obligations.CompletionLeavesItsSource := by
  refine ⟨fun s p x hx => ?_, fun s x c hl hx hsrc => ?_⟩
  · have hdone (h : x.src ≠ .orphan) (t : State)
        (ht : (s.setPort p { s.port p with onBus := none, errors := (s.port p).errors - 1 }).leaveSource p x = t) :
        exec (.transmitComplete p) s = .next t := by
      change Host.Outcome.next (s.transmitComplete p) = _
      rw [State.transmitComplete_of hx h, ht]
    refine ⟨fun h => hdone (by simp [h]) _ ?_, fun h => hdone (by simp [h]) _ ?_, fun h => hdone (by simp [h]) _ ?_,
      fun h => hdone (by simp [h]) _ ?_, fun h => hdone (by simp [h]) _ ?_, fun h => ⟨?_, ?_⟩⟩
    · simp only [State.leaveSource, h]
      cases p <;> rfl
    · simp only [State.leaveSource, h]
      cases p <;> rfl
    · simp only [State.leaveSource, h]
    · simp only [State.leaveSource, h]
      cases p <;> rfl
    · simp only [State.leaveSource, h]
    · exact congrArg Host.Outcome.next (State.transmitComplete_orphan hx h)
    · exact congrArg Host.Outcome.next (State.transmitError_orphan hx h)
  · have hne : x.src ≠ .orphan := by simp [hsrc]
    have hx' : (s.port .climate).onBus = some x := hx
    have hv : (State.channelView (s.setPort .climate { s.climate with onBus := none, errors := s.climate.errors - 1 })
        c).linkOn = true := by simp [State.channelView, State.setPort, hl]
    have hdone : s.transmitComplete .climate = { s with
        climate := { s.climate with onBus := none, errors := s.climate.errors - 1 }
        channels := s.channels.set c { s.channels[c] with
          lastCarried := some x.carried
          spacing := some (s.outputRow c).spacing
          replyWait := some (s.channels[c].replyWait.getD (s.outputRow c).replyTimeout)
          frame := if s.channels[c].output = x.carried ∨ 14 < (s.outputRow c).level then .none
            else if (s.outputRow c).isPower = true ∧ s.channels[c].output < x.carried then .offered else .waiting } } := by
      rw [State.transmitComplete_of hx' hne]
      simp only [State.leaveSource, hsrc]
      rw [show State.port s .climate = s.climate from rfl, Channel.completed_spec _ _ _ hv]
      rfl
    refine ⟨_, congrArg Host.Outcome.next hdone, ?_, fun ho => ?_, fun ho hlev => ?_, fun hlev => ?_⟩
    · simp
    · simp only [Fin.getElem_fin, Vector.getElem_set_self]
      exact if_pos (.inl ho)
    · simp only [Fin.getElem_fin, Vector.getElem_set_self]
      exact if_neg (not_or.mpr ⟨ho, Nat.not_lt.mpr hlev⟩)
    · simp only [Fin.getElem_fin, Vector.getElem_set_self]
      exact if_pos (.inr hlev)

end Sys2Proof.Machine
end

section
/-! Proofs for sections 1.1 to 1.4, 6.2 and 9.1: arrivals at a port, and the timers of a slot (R10 to R23, R119, R180). -/

namespace Sys2Proof.Machine

/-! ### Arrivals -/

/-- Row i of the frame map has the port and the identifier of a frame (R10). -/
def State.hitsRow (s : State) (p : PortName) (f : Frame) (i : Nat) : Prop :=
  (s.frameRow i).used = true ∧ portOfCode (s.frameRow i).portCode = some p ∧ (s.frameRow i).id = f.id.toNat

theorem exec_frameArrival {p : PortName} {f : Frame} (s : State) (hl : f.data.length ≤ 8) :
    exec (.frameArrival p f) s = .next (s.arrive p f) := if_pos hl

theorem State.arrive_busOff {s : State} {p : PortName} (h : (s.port p).link = .busOff) (f : Frame) : s.arrive p f = s :=
  if_pos h

theorem State.isService_iff (s : State) (p : PortName) (f : Frame) :
    s.isService p f = true ↔ p = .vehicle ∧ f.id.toNat = 0x6E0 + 2 * s.node.val := by
  simp [State.isService, serviceRequestId]

theorem State.arrive_service {s : State} {f : Frame} (h : s.vehicle.link = .on)
    (hid : f.id.toNat = 0x6E0 + 2 * s.node.val) : s.arrive .vehicle f = s.serviceFrame f.data := by
  have hoff : ¬ (s.port .vehicle).link = .busOff := by simp [State.port, h]
  rw [State.arrive, if_neg hoff, if_pos ((s.isService_iff _ f).mpr ⟨rfl, hid⟩)]

theorem State.arrive_classify {s : State} {p : PortName} {f : Frame} (h : (s.port p).link = .on)
    (hid : p = .vehicle → f.id.toNat ≠ 0x6E0 + 2 * s.node.val) : s.arrive p f = s.classify p f := by
  have hoff : ¬ (s.port p).link = .busOff := by simp [h]
  have hno : ¬ s.isService p f = true := fun e => hid ((s.isService_iff p f).mp e).1 ((s.isService_iff p f).mp e).2
  rw [State.arrive, if_neg hoff, if_neg hno]

theorem State.lookup_none {s : State} {p : PortName} {f : Frame} (h : ∀ i < 48, ¬ s.hitsRow p f i) :
    s.lookup p f.id = none := by
  rw [State.lookup, List.find?_eq_none]
  intro i hi hp
  simp only [Bool.and_eq_true, beq_iff_eq] at hp
  exact h i (List.mem_range.mp hi) ⟨hp.1.1, hp.1.2, hp.2⟩

theorem State.lookup_first {s : State} {p : PortName} {f : Frame} {i : Nat} (hi : i < 48) (h : s.hitsRow p f i)
    (hno : ∀ j < i, ¬ s.hitsRow p f j) : s.lookup p f.id = some i := by
  obtain ⟨hu, hp, hid⟩ := h
  rw [State.lookup, List.find?_range_eq_some]
  refine ⟨by simp [hu, hp, hid], List.mem_range.mpr hi, fun j hj => ?_⟩
  by_contra hb
  simp only [Bool.not_eq_true', Bool.not_eq_false, Bool.and_eq_true, beq_iff_eq] at hb
  exact hno j hj ⟨hb.1.1, hb.1.2, hb.2⟩

theorem State.classify_missed {s : State} {p : PortName} {f : Frame} (h : s.lookup p f.id = none) :
    s.classify p f = if s.passThrough p = true then s.offerForward (otherPort p) f else s := by
  simp only [State.classify, h, State.forwards]

theorem State.classify_hit {s : State} {p : PortName} {f : Frame} {i : Nat} (h : s.lookup p f.id = some i) :
    s.classify p f = if (s.frameRow i).forward = true then (s.hit (s.frameRow i) f).offerForward (otherPort p) f
      else s.hit (s.frameRow i) f := by
  simp only [State.classify, h, State.forwards]

/-- A copy joins the forward queue, or is dropped and counted (R3, R4). -/
theorem State.offerForward_spec (s : State) (p : PortName) (f : Frame) : s.offerForward p f
    = if (s.port p).link = .on ∧ (s.port p).forwards.length < 8 then
        s.setPort p { s.port p with forwards := (s.port p).forwards ++ [f] }
      else { s.setPort p { s.port p with drops := min 65535 ((s.port p).drops + 1) } with
        flags := { s.flags with forwardDropped := true } } := by
  unfold State.offerForward
  dsimp only
  split
  · rfl
  · cases p <;> rfl

theorem FrameRow.cls_of_code (r : FrameRow) : r.cls = FrameClass.ofCode r.classCode := rfl

/-- Settles O10. -/
theorem arrivalsAreForwardedOrDropped : Obligations.ArrivalsAreForwardedOrDropped := by
  intro s p f hl out x hits copied
  have hcopied : s.offerForward (otherPort p) f = copied := s.offerForward_spec _ f
  refine ⟨fun h => ?_, fun h hid => ⟨fun hno => ?_, fun i hi hhit hno hcls => ?_⟩⟩
  · rw [exec_frameArrival s hl, State.arrive_busOff h]
  · have hpass : s.passThrough p = true ↔
        s.sys.used = true ∧ (if p = .vehicle then s.sys.passVehicle else s.sys.passClimate) = true := by
      cases p <;> simp [State.passThrough]
    rw [exec_frameArrival s hl, State.arrive_classify h hid, State.classify_missed (State.lookup_none hno), hcopied]
    simp only [hpass]
  · have hpass : s.hit (s.frameRow i) f = s := by simp [State.hit, FrameRow.cls_of_code, hcls, FrameClass.ofCode]
    rw [exec_frameArrival s hl, State.arrive_classify h hid, State.classify_hit (State.lookup_first hi hhit hno), hpass,
      hcopied]

/-! ### Service frames -/

/-- A response of one frame: its code, its result, and its content filled up to six bytes (R181, R207). -/
theorem State.answer_one {s : State} (h : s.vehicle.link = .on) (code : Nat) (r : Result) {content : List Byte}
    (hl : content.length ≤ 6) : s.answer code r content = { s with
      responses := s.responses ++ [⟨canId (0x6E1 + 2 * s.node.val),
        byteOf (code + 32 : Nat) :: byteOf (1 + 8 * r.code : Nat) :: (List.range 6).map fun j => content.getD j 0⟩]
      draws := s.draws + 1 } := by
  have hf : framesOf content = 1 := by unfold framesOf; omega
  rw [State.answer_on h, responseFrames, hf]
  simp [responseFrame, serviceResponseId]

theorem State.serveOne_full {s : State} (h : 16 ≤ s.responses.length) (code : Nat)
    (f : State → State × Result × List Byte) :
    s.serveOne code f = { s with flags := { s.flags with serviceDropped := true } } := by
  unfold State.serveOne
  rw [(s.withRoom_spec code 1 _).2.2 (by omega) h]
  rfl

theorem requestLength_none {n : Nat} (h : n = 0 ∨ 27 < n) : requestLength n = none := by
  obtain rfl | h := h
  · rfl
  · exact List.getD_eq_default _ _ h

theorem requestLength_some {n : Nat} (h : 1 ≤ n ∧ n ≤ 27) : ∃ k, requestLength n = some k := by
  obtain ⟨h1, h2⟩ := h
  interval_cases n <;> exact ⟨_, rfl⟩

/-- Settles O11: a frame that spells a command by `exec_requestCommand`, a FORMAT answer by `State.answer_one`. -/
theorem serviceFrameActsAsItsCommand : Obligations.ServiceFrameActsAsItsCommand := by
  intro s id data hlink hl hid
  have harrive : exec (.frameArrival .vehicle ⟨id, data⟩) s = .next (s.serviceFrame data) := by
    rw [exec_frameArrival s hl, State.arrive_service hlink hid]
  refine ⟨fun c hc => ?_, fun hnone hfull => ?_, fun hnone hroom => ?_⟩
  · rw [harrive, exec_requestCommand s hc]
  · obtain ⟨code, content, _, hf⟩ := s.serviceFrame_format hnone
    rw [harrive, hf, State.serveOne_full hfull]
  · intro code answered
    have hanswer (n : Nat) (content : State → List Byte) (hlen : (content s).length ≤ 6)
        (hf : s.serviceFrame data = s.serveOne n fun t => (t, .format, content t)) :
        answered (byteOf (n + 32 : Nat)) ((List.range 6).map fun j => (content s).getD j 0) := by
      change exec (.frameArrival .vehicle ⟨id, data⟩) s = _
      rw [harrive, hf, State.serveOne_room hroom, State.answer_one hlink _ _ hlen]
      rfl
    cases data with
    | nil =>
      refine ⟨fun _ => hanswer 0 (fun _ => [0]) (by decide) rfl, fun h => absurd rfl h, ?_, ?_, ?_⟩
      all_goals exact fun h => absurd h.1 (by simp [code, u8])
    | cons b rest =>
      have hcode : code = b.toNat := rfl
      have hbyte : byteOf (code : Nat) = b := by simp [hcode, byteOf]
      have hshort (h : 1 ≤ code ∧ code ≤ 27) :
          answered (byteOf (code + 32 : Nat)) ((List.range 6).map fun j => (s.formatContent code).getD j 0) := by
        obtain ⟨n, hn⟩ := requestLength_some h
        exact hanswer code _ (s.formatContent_length _) (s.serviceFrame_short hn hnone)
      refine ⟨fun h => absurd h (by simp), fun _ hunknown => ?_, fun h => ?_, fun h => ?_, fun h => ?_⟩
      · rw [hbyte]
        exact hanswer 0 (fun _ => [b]) (by simp) (s.serviceFrame_unknown rest (requestLength_none hunknown))
      · have hcontent : (List.range 6).map (fun j => (s.formatContent code).getD j 0)
            = s.engine.report (Config.freeByte 0 s.draws) ++ [0, 0, 0] := by
          rw [State.formatContent, if_pos (.inl h)]
          cases he : s.engine <;> rfl
        exact hcontent ▸ hshort (by omega)
      · have hresume : code ≠ 19 := fun h19 => by
          rw [h19] at hbyte
          rw [← hbyte] at hnone
          exact absurd hnone (by simp [byteOf, requestCommand])
        have hcontent : s.formatContent code = [] := by
          rw [State.formatContent, if_neg (by omega), if_neg (by omega)]
        have := hshort (by omega)
        rwa [hcontent] at this
      · have hcontent : s.formatContent code = [0, 0, 0, 0, 0, byteOf s.overrides.seq] := by
          rw [State.formatContent, if_neg (by omega), if_pos (by omega)]
          rfl
        have := hshort (by omega)
        rwa [hcontent] at this

/-! ### Panel frames -/

/-- An acknowledgement joins its queue while there is room (R5). -/
theorem State.offerAck_spec {s : State} (h : s.vehicle.link = .on) (f : Frame) :
    s.offerAck f = { s with acks := if s.acks.length < 4 then s.acks ++ [f] else s.acks } := by
  unfold State.offerAck
  by_cases hr : s.acks.length < 4
  · simp [h, hr]
  · simp [h, hr]

/-- A hit on a row of the vehicle port, with the copy that its forward flag asks for (R11, R13). -/
theorem State.arrive_vehicle_hit {s : State} {f : Frame} {i : Nat} (h : s.vehicle.link = .on)
    (hid : f.id.toNat ≠ 0x6E0 + 2 * s.node.val) (hi : i < 48) (hhit : s.hitsRow .vehicle f i)
    (hno : ∀ j < i, ¬ s.hitsRow .vehicle f j) : s.arrive .vehicle f
      = if (s.frameRow i).forward = true then (s.hit (s.frameRow i) f).offerForward .climate f
        else s.hit (s.frameRow i) f := by
  rw [State.arrive_classify (p := .vehicle) h fun _ => hid, State.classify_hit (State.lookup_first hi hhit hno)]
  rfl

/-- Settles O12: a frame that spells a command by `exec_panelCommand`, a FORMAT answer by `State.panelFrame_format`. -/
theorem panelFrameActsAsItsCommand : Obligations.PanelFrameActsAsItsCommand := by
  intro s f i hlink hl hi hid hits forwarded code hhit hno hcls
  have hforward (x : State) : (if (s.frameRow i).forward = true then x.offerForward .climate f else x) = forwarded x := by
    rw [State.offerForward_spec]
    cases hf : (s.frameRow i).forward with
    | false => simp [forwarded, hf]
    | true =>
      simp only [forwarded, hf, if_true, Bool.true_eq_false, if_false]
      rfl
  have hpanel : s.hit (s.frameRow i) f = s.panelFrame f := by
    simp [State.hit, FrameRow.cls_of_code, hcls, FrameClass.ofCode]
  have harrive : exec (.frameArrival .vehicle f) s = .next (forwarded (s.panelFrame f)) := by
    rw [exec_frameArrival s hl, State.arrive_vehicle_hit hlink hid hi hhit hno, hpanel, hforward]
  refine ⟨fun h => ?_, fun hu hp c hc => ⟨s.panelFrame f, exec_panelCommand hu hp hc, harrive⟩, fun hu hp hnone h2 => ?_⟩
  · rw [harrive, State.panelFrame_ignored h]
  · have htag : byteOf (u8 f.data 1 : Nat) = f.data.getD 1 0 := by simp [byteOf, u8]
    rw [harrive, State.panelFrame_format hu hp hnone h2, State.offerAck_spec hlink, htag]
    rfl

/-! ### Signal frames -/

theorem State.notified_congr {s t : State} (h : t.active = s.active) (n : SlotNote) : t.notified n = s.notified n := by
  have hs : t.sys = s.sys := by simp only [State.sys, h]
  have hd : t.doorRow = s.doorRow := by
    funext d
    simp only [State.doorRow, h]
  simp only [State.notified, hs, hd]

theorem SlotRow.kind_count (r : SlotRow) : r.kind = some .count ↔ r.kindCode = 3 := by
  unfold SlotRow.kind SlotKind.ofCode
  split <;> simp_all

/-- A scaled value that reaches a used slot (R17, R19, R21, R23). -/
theorem State.slotArrival_spec {s : State} {i : Fin 64} (h : (s.slotRow i).used = true) (scaled : Int) :
    s.slotArrival i scaled = { s with
      slots := s.slots.set i ⟨clamp scaled (s.slotRow i).lo (s.slotRow i).hi, .fresh,
        decide (clamp scaled (s.slotRow i).lo (s.slotRow i).hi ≠ scaled),
        if (s.slotRow i).kindCode = 3 then s.slots[i].fresh else some (s.slotRow i).freshPeriod,
        if (s.slotRow i).kindCode = 3 then s.slots[i].hold else none⟩
      inFlight := s.inFlight ++ s.notified ⟨i, clamp scaled (s.slotRow i).lo (s.slotRow i).hi, .fresh⟩ } := by
  have hne : (clamp scaled (s.slotRow i).lo (s.slotRow i).hi != scaled)
      = decide (clamp scaled (s.slotRow i).lo (s.slotRow i).hi ≠ scaled) := by
    rw [Bool.eq_iff_iff]
    simp
  unfold State.slotArrival
  simp only [if_pos h, State.notify_spec, SlotRow.kind_count, hne]
  rw [State.notified_congr (s := s) (by simp)]
  split <;> rfl

theorem State.slotArrival_unused {s : State} {i : Fin 64} (h : ¬ (s.slotRow i).used = true) (scaled : Int) :
    s.slotArrival i scaled = s := if_neg h

/-- One field row of a run (R11, R16). -/
theorem State.deliverField_spec (data : List Byte) (t : State) (fld : FieldRow) : State.deliverField data t fld
    = if fld.width = 0 then t
      else if fld.isShort data.length = true then { t with flags := { t.flags with fieldShort := true } }
      else if h : fld.target < 64 then t.slotArrival ⟨fld.target, h⟩ (fld.scaled data) else t := by
  unfold State.deliverField
  by_cases h : fld.target < 64 <;> simp only [slotOfCode, h, dif_pos, dif_neg, not_false_eq_true] <;> rfl

/-- Two folds whose turns agree on the states that a kept property holds of. -/
theorem foldl_congr_of {α : Type} (P : State → Prop) {f g : State → α → State} (l : List α) {s : State} (hs : P s)
    (h : ∀ t a, P t → f t a = g t a ∧ P (f t a)) : l.foldl f s = l.foldl g s := by
  induction l generalizing s with
  | nil => rfl
  | cons a l ih =>
    obtain ⟨heq, hp⟩ := h s a hs
    rw [List.foldl_cons, List.foldl_cons, ← heq]
    exact ih hp

/-- Settles O13: each field row by `State.slotArrival_spec`; the rows and the consumers stay those of the arrival. -/
theorem signalFieldsReachTheirSlots : Obligations.SignalFieldsReachTheirSlots := by
  intro s p f i hlink hl hi hid row hits run taken forwarded hhit hno hcls
  have htaken (t : State) (fld : FieldRow) (ht : t.active = s.active) :
      State.deliverField f.data t fld = taken t fld ∧ (State.deliverField f.data t fld).active = s.active := by
    refine ⟨?_, by simpa using ht⟩
    have hrow (k : Fin 64) : t.slotRow k = s.slotRow k := by simp only [State.slotRow, ht]
    rw [State.deliverField_spec]
    by_cases hw : fld.width = 0
    · simp only [taken, if_pos hw]
    by_cases hshort : fld.isShort f.data.length = true
    · simp only [taken, if_neg hw, if_pos hshort]
    by_cases hslot : fld.target < 64
    · by_cases hu : (s.slotRow ⟨fld.target, hslot⟩).used = true
      · rw [if_neg hw, if_neg hshort, dif_pos hslot, State.slotArrival_spec (by rw [hrow]; exact hu), hrow,
          State.notified_congr ht]
        simp only [taken, if_neg hw, if_neg hshort, dif_pos hslot, if_pos hu]
        rfl
      · rw [if_neg hw, if_neg hshort, dif_pos hslot, State.slotArrival_unused (by rw [hrow]; exact hu)]
        simp only [taken, if_neg hw, if_neg hshort, dif_pos hslot, if_neg hu]
    · simp only [taken, if_neg hw, if_neg hshort, dif_neg hslot]
  have hhits : s.hit (s.frameRow i) f = run.foldl taken s := by
    have hsig : s.hit (s.frameRow i) f = (s.run (s.frameRow i)).foldl (State.deliverField f.data) s := by
      simp [State.hit, FrameRow.cls_of_code, show (s.frameRow i).classCode = 1 from hcls, FrameClass.ofCode]
    rw [hsig]
    exact foldl_congr_of (fun t => t.active = s.active) _ rfl fun t fld ht => htaken t fld ht
  rw [exec_frameArrival s hl, State.arrive_classify hlink hid, State.classify_hit (State.lookup_first hi hhit hno), hhits]
  congr 1
  rw [State.offerForward_spec]
  cases hf : row.forward with
  | false => simp [forwarded, hf]
  | true =>
    simp only [forwarded, hf, if_true, Bool.true_eq_false, if_false]

/-! ### Fields -/

/-- The bits of a number built from bytes of rising significance. -/
theorem testBit_foldr_bytes (l : List Nat) (hl : ∀ b ∈ l, b < 256) (m : Nat) :
    (l.foldr (fun b acc => b + 256 * acc) 0).testBit m = (l.getD (m / 8) 0).testBit (m % 8) := by
  induction l generalizing m with
  | nil => simp
  | cons b l ih =>
    have hb : b < 2 ^ 8 := hl b List.mem_cons_self
    have hsplit : (b :: l).foldr (fun b acc => b + 256 * acc) 0
        = 2 ^ 8 * l.foldr (fun b acc => b + 256 * acc) 0 + b := by
      simp [Nat.add_comm]
    rw [hsplit, Nat.testBit_two_pow_mul_add _ hb]
    split
    · next hm => simp [Nat.div_eq_of_lt hm, Nat.mod_eq_of_lt hm]
    · next hm =>
      rw [ih (fun x hx => hl x (List.mem_cons_of_mem _ hx)) (m - 8)]
      obtain ⟨k, rfl⟩ : ∃ k, m = k + 8 := ⟨m - 8, by omega⟩
      simp [Nat.add_div_right k (by decide : 0 < 8)]

/-- The byte that holds place k of a field (R16). -/
def FieldRow.place (r : FieldRow) (k : Nat) : Nat := if r.order = some .msbFirst then r.byteOff - k else r.byteOff + k

theorem FieldRow.places_eq (r : FieldRow) : r.places = (List.range r.span).map r.place := rfl

theorem FieldRow.rawBits_testBit (r : FieldRow) (data : List Byte) (hw : 1 ≤ r.width) (n : Nat) :
    (r.rawBits data).testBit n
      = (decide (n < r.width) && (u8 data (r.place ((r.bitOff + n) / 8))).testBit ((r.bitOff + n) % 8)) := by
  have hbytes : r.places.foldr (fun i acc => u8 data i + 256 * acc) 0
      = (r.places.map (u8 data)).foldr (fun b acc => b + 256 * acc) 0 := by
    rw [List.foldr_map]
  have hlt : ∀ b ∈ r.places.map (u8 data), b < 256 := by
    intro b hb
    obtain ⟨i, _, rfl⟩ := List.mem_map.mp hb
    exact BitVec.isLt _
  rw [FieldRow.rawBits, Nat.testBit_mod_two_pow, Nat.testBit_div_two_pow, hbytes, testBit_foldr_bytes _ hlt,
    Nat.add_comm n]
  by_cases hn : n < r.width
  · have hspan : (r.bitOff + n) / 8 < r.span := by
      unfold FieldRow.span
      omega
    simp [hn, FieldRow.places_eq, List.getD_eq_getElem?_getD, hspan]
  · simp [hn]

theorem FieldRow.isShort_iff (r : FieldRow) (len : Nat) : r.isShort len = true ↔ ∃ k < r.span, len ≤ r.place k := by
  simp [FieldRow.isShort, FieldRow.places_eq]

theorem FieldRow.rawBits_lt (r : FieldRow) (data : List Byte) : r.rawBits data < 2 ^ r.width :=
  Nat.mod_lt _ (Nat.two_pow_pos _)

/-- The sign bit of a number of w bits. -/
theorem testBit_sign {n w : Nat} (hw : 1 ≤ w) (h : n < 2 ^ w) : n.testBit (w - 1) = true ↔ ¬ n < 2 ^ (w - 1) := by
  obtain ⟨v, rfl⟩ : ∃ v, w = v + 1 := ⟨w - 1, by omega⟩
  have hlt : n / 2 ^ v < 2 := Nat.div_lt_of_lt_mul (by rwa [← Nat.pow_succ])
  rw [Nat.add_sub_cancel, Nat.testBit_eq_decide_div_mod_eq, decide_eq_true_iff, Nat.mod_eq_of_lt hlt, Nat.not_lt]
  constructor
  · intro h1
    have := Nat.div_mul_le_self n (2 ^ v)
    rwa [h1, Nat.one_mul] at this
  · intro h1
    have := (Nat.one_le_div_iff (Nat.two_pow_pos v)).mpr h1
    omega

/-- Settles O14: the bits by `FieldRow.rawBits_testBit`, the sign by `testBit_sign`. -/
theorem fieldBitsLieInTheirBytes : Obligations.FieldBitsLieInTheirBytes := by
  intro r data _ hw _
  have hspan : 1 ≤ r.span := by
    unfold FieldRow.span
    omega
  refine ⟨fun h => ?_, fun h => ?_, fun ho hfit => ?_, fun ho hfit hb => ?_⟩
  · simp [FieldRow.rawValue, h]
  · simp only [FieldRow.rawValue, h, if_true, signedOf, testBit_sign hw (r.rawBits_lt data)]
    split <;> simp_all
  · have horder : r.order = some .lsbFirst := by simp [FieldRow.order, ho, ByteOrder.ofCode]
    have hplace (k : Nat) : r.place k = r.byteOff + k := by simp [FieldRow.place, horder]
    refine ⟨?_, fun n => by rw [r.rawBits_testBit data hw n, hplace]⟩
    rw [r.isShort_iff]
    constructor
    · rintro ⟨k, hk, hle⟩
      rw [hplace] at hle
      omega
    · intro hle
      exact ⟨r.span - 1, by omega, by rw [hplace]; omega⟩
  · have horder : r.order = some .msbFirst := by simp [FieldRow.order, ho, ByteOrder.ofCode]
    have hplace (k : Nat) : r.place k = r.byteOff - k := by simp [FieldRow.place, horder]
    refine ⟨?_, fun n => by rw [r.rawBits_testBit data hw n, hplace]⟩
    rw [r.isShort_iff]
    constructor
    · rintro ⟨k, hk, hle⟩
      rw [hplace] at hle
      omega
    · intro hle
      exact ⟨0, by omega, by rw [hplace]; omega⟩

/-! ### The timers of a slot -/

theorem State.substitute_spec (s : State) (i : Fin 64) : s.substitute i = { s with
    slots := s.slots.set i { s.slots[i] with
      value := (s.slotRow i).substitute, status := .substituted, fresh := none, hold := none }
    flags := { s.flags with slotSubstituted := true }
    inFlight := s.inFlight ++ s.notified ⟨i, (s.slotRow i).substitute, .substituted⟩ } := by
  unfold State.substitute
  simp only [State.notify_spec]
  rw [State.notified_congr (s := s) (by simp)]
  rfl

/-- Settles O16. -/
theorem slotTimersAgeASlot : Obligations.SlotTimersAgeASlot := by
  intro s i row x substituted
  have hsub : s.substitute i = substituted := s.substitute_spec i
  refine ⟨fun hf hh => ?_, fun hf hh => ?_, fun hh => ?_, fun hf => ?_, fun hh => ?_⟩
  · change Host.Outcome.next (s.freshExpiry i) = _
    rw [State.freshExpiry, if_neg hf, if_neg hh]
    simp only [State.notify_spec]
    rw [State.notified_congr (s := s) (by simp)]
    rfl
  · change Host.Outcome.next (s.freshExpiry i) = _
    rw [State.freshExpiry, if_neg hf, if_pos hh, hsub]
  · change Host.Outcome.next (s.holdExpiry i) = _
    rw [State.holdExpiry, if_neg hh, hsub]
  · exact congrArg Host.Outcome.next (if_pos hf)
  · exact congrArg Host.Outcome.next (if_pos hh)

end Sys2Proof.Machine
end

section
/-! Proofs for section 8.6: a reply at the channels (R175, R176). -/

namespace Sys2Proof.Machine

/-- The channels that a reply acts on (R175). -/
def State.answersTo (s : State) (id : CanId) (c : Fin 24) : Bool :=
  (s.outputRow c).used && (s.outputRow c).replyId == id.toNat

/-- A channel after a reply, one that the reply does not name as it was. -/
def State.replied (s : State) (id : CanId) (status : Byte) (c : Fin 24) : Channel :=
  if s.answersTo id c = true then s.channels[c].reply (status == 0) else s.channels[c]

/-- Whether the reply makes channel c FAULTED that was READY (R175). -/
def State.newlyFaulted (s : State) (id : CanId) (status : Byte) (c : Fin 24) : Bool :=
  (s.replied id status c).faulted && !s.channels[c].faulted

/-- The push of a changed health to the allocator (R176). -/
def State.healthPush (s : State) (id : CanId) (status : Byte) (c : Fin 24) : List Instr :=
  if (s.replied id status c).faulted = s.channels[c].faulted then []
  else ((s.outputRow c).claimant.map Instr.capacityEvent).toList

theorem OutputRow.find_isFor (r : OutputRow) : (List.finRange 20).find? r.isFor = r.claimant := by
  have hf : ∀ k : Fin 20, ((List.finRange 20).find? fun j => some k == some j) = some k := by decide
  have hn : ((List.finRange 20).find? fun j => (none : Option (Fin 20)) == some j) = none := by decide
  have hfun : r.isFor = fun j => r.claimant == some j := funext r.isFor_spec
  rw [hfun]
  cases r.claimant with
  | none => exact hn
  | some k => exact hf k

/-- The part after a reply has acted on the first k channels. -/
def State.repliedUpTo (s : State) (id : CanId) (status : Byte) (k : Nat) : State := { s with
  channels := upTo k (s.replied id status) s.channels
  flags := if ((List.finRange 24).take k).any (s.newlyFaulted id status) = true then
    { s.flags with channelFaulted := true } else s.flags
  inFlight := s.inFlight ++ ((List.finRange 24).take k).flatMap (s.healthPush id status) }

theorem State.setHealth_eq (s : State) (c : Fin 24) (x : Channel) : s.setHealth c x = { s with
    channels := s.channels.set c x
    flags := if (x.faulted && !s.channels[c].faulted) = true then { s.flags with channelFaulted := true } else s.flags
    inFlight := s.inFlight ++ (if x.faulted = s.channels[c].faulted then []
      else ((s.outputRow c).claimant.map Instr.capacityEvent).toList) } := by
  have hraise : (s.setChannel c x).raiseIf (x.faulted && !s.channels[c].faulted) .channelFaulted = { s with
      channels := s.channels.set c x
      flags := if (x.faulted && !s.channels[c].faulted) = true then { s.flags with channelFaulted := true }
        else s.flags } := by
    unfold State.raiseIf
    split <;> rfl
  unfold State.setHealth
  dsimp only
  rw [hraise]
  cases (s.outputRow c).claimant with
  | none => simp
  | some k =>
    dsimp only
    by_cases h : x.faulted = s.channels[c].faulted
    · rw [if_pos h, if_pos h, List.append_nil]
    · rw [if_neg h, if_neg h]
      rfl

theorem State.repliedUpTo_succ (s : State) (id : CanId) (status : Byte) (c : Fin 24) :
    (if ((s.repliedUpTo id status c).outputRow c).used
        && ((s.repliedUpTo id status c).outputRow c).replyId == id.toNat then
      (s.repliedUpTo id status c).setHealth c ((s.repliedUpTo id status c).channels[c].reply (status == 0))
    else s.repliedUpTo id status c) = s.repliedUpTo id status (c + 1) := by
  have hrow : (s.repliedUpTo id status c).outputRow c = s.outputRow c := rfl
  have hch : (s.repliedUpTo id status c).channels[c] = s.channels[c] := upTo_get _ _ c
  have hstep : s.repliedUpTo id status (c + 1) = { s.repliedUpTo id status c with
      channels := (s.repliedUpTo id status c).channels.set c (s.replied id status c)
      flags := if s.newlyFaulted id status c = true then { (s.repliedUpTo id status c).flags with channelFaulted := true }
        else (s.repliedUpTo id status c).flags
      inFlight := (s.repliedUpTo id status c).inFlight ++ s.healthPush id status c } := by
    have hfl : ∀ a b : Bool, (if (a || b) = true then { s.flags with channelFaulted := true } else s.flags : EventFlags)
        = if b = true then { (if a = true then { s.flags with channelFaulted := true } else s.flags : EventFlags) with
            channelFaulted := true }
          else (if a = true then { s.flags with channelFaulted := true } else s.flags) := by
      intro a b
      cases a <;> cases b <;> rfl
    simp only [State.repliedUpTo, upTo_succ, flatMap_take_succ, List.append_assoc]
    rw [finRange_take_succ, List.any_append, List.any_cons, List.any_nil, Bool.or_false, hfl]
  rw [hrow, hch, hstep]
  change (if s.answersTo id c = true then _ else _) = _
  by_cases h : s.answersTo id c = true
  · rw [if_pos h, State.setHealth_eq, hch, hrow]
    simp only [State.newlyFaulted, State.healthPush, State.replied, if_pos h]
  · have hkeep : s.replied id status c = (s.repliedUpTo id status c).channels[c] := by
      rw [hch, State.replied, if_neg h]
    have hsame : s.replied id status c = s.channels[c] := hkeep.trans hch
    have hset : (s.repliedUpTo id status c).channels.set c (s.replied id status c)
        = (s.repliedUpTo id status c).channels := by
      rw [hkeep]
      exact Vector.set_getElem_self _
    rw [if_neg h, hset]
    simp [State.newlyFaulted, State.healthPush, hsame]

theorem State.takeReply_eq (s : State) (id : CanId) (status : Byte) (rest : List Byte) :
    s.takeReply id (status :: rest) = s.repliedUpTo id status 24 := by
  refine forEach_eq (s.repliedUpTo id status) _ (s.repliedUpTo_succ id status) ?_
  simp [State.repliedUpTo]

theorem State.answersTo_iff (s : State) (id : CanId) (c : Fin 24) :
    s.answersTo id c = true ↔ (s.outputRow c).used = true ∧ (s.outputRow c).replyId = id.toNat := by
  simp [State.answersTo]

theorem Channel.reply_eq (ch : Channel) (status : Byte) : ch.reply (status == 0) = { ch with
    replyWait := none, faulted := decide (status ≠ 0), misses := if status = 0 then 0 else ch.misses } := by
  unfold Channel.reply
  by_cases h : status = 0
  · simp only [h, beq_self_eq_true, if_true, ne_eq, not_true, decide_false]
  · simp only [beq_iff_eq, h, if_false, ne_eq, not_false_eq_true, decide_true]

theorem exec_reply {s : State} {id : CanId} {data : List Byte} (h : data.length ≤ 8) :
    exec (.reply id data) s = .next (s.takeReply id data) := if_pos h

theorem State.hit_reply {s : State} {r : FrameRow} (h : r.classCode = 3) (f : Frame) :
    s.hit r f = s.takeReply f.id f.data := by
  simp [State.hit, FrameRow.cls_of_code, h, FrameClass.ofCode]

theorem flatMap_toList {α β : Type} (g : α → Option β) (l : List α) :
    l.flatMap (fun a => (g a).toList) = l.filterMap g := by
  induction l with
  | nil => rfl
  | cons a l ih =>
    rw [List.flatMap_cons, ih, List.filterMap_cons]
    cases g a <;> rfl

theorem State.newlyFaulted_iff (s : State) (id : CanId) (status : Byte) (c : Fin 24) :
    s.newlyFaulted id status c = true ↔ status ≠ 0 ∧ (s.outputRow c).used = true ∧ (s.outputRow c).replyId = id.toNat
      ∧ s.channels[c].faulted = false := by
  by_cases h : s.answersTo id c = true
  · have ⟨hu, hr⟩ := (s.answersTo_iff id c).mp h
    simp only [State.newlyFaulted, State.replied, if_pos h, Channel.reply_eq, Bool.and_eq_true, decide_eq_true_eq,
      Bool.not_eq_true', hu, hr, true_and]
  · have hno := mt (s.answersTo_iff id c).mpr h
    simp only [State.newlyFaulted, State.replied, if_neg h, Bool.and_not_self, Bool.false_eq_true, false_iff]
    exact fun ⟨_, hu, hr, _⟩ => hno ⟨hu, hr⟩

theorem State.healthPush_eq (s : State) (id : CanId) (status : Byte) (c : Fin 24) :
    s.healthPush id status c = (if (s.outputRow c).used = true ∧ (s.outputRow c).replyId = id.toNat
        ∧ s.channels[c].faulted ≠ decide (status ≠ 0) then
      ((List.finRange 20).find? (s.outputRow c).isFor).map Instr.capacityEvent else none).toList := by
  rw [OutputRow.find_isFor, State.healthPush, State.replied]
  by_cases h : s.answersTo id c = true
  · have ⟨hu, hr⟩ := (s.answersTo_iff id c).mp h
    by_cases hf : s.channels[c].faulted = decide (status ≠ 0)
    · rw [if_pos h, Channel.reply_eq, if_pos hf.symm, if_neg (fun e => e.2.2 hf)]
      rfl
    · rw [if_pos h, Channel.reply_eq, if_neg (fun e => hf e.symm), if_pos ⟨hu, hr, hf⟩]
  · have hno := mt (s.answersTo_iff id c).mpr h
    rw [if_neg h, if_pos rfl, if_neg (fun e => hno ⟨e.1, e.2.1⟩)]
    rfl

/-- Settles O15, by the state after each channel of the walk. -/
theorem repliesSetHealth : Obligations.RepliesSetHealth := by
  refine ⟨fun s id status rest hl => ⟨rfl, s.repliedUpTo id status 24,
    (exec_reply (data := status :: rest) (Nat.succ_le_succ hl)).trans (congrArg _ (s.takeReply_eq id status rest)), rfl,
    fun c => ?_, ?_, ?_⟩, ?_⟩
  · have hall : (s.repliedUpTo id status 24).channels[c] = s.replied id status c := by simp [State.repliedUpTo]
    simp only [hall, State.replied, s.answersTo_iff, Channel.reply_eq]
  · have hany : ((List.finRange 24).take 24).any (s.newlyFaulted id status) = true ↔ status ≠ 0 ∧ ∃ c : Fin 24,
        (s.outputRow c).used = true ∧ (s.outputRow c).replyId = id.toNat ∧ s.channels[c].faulted = false := by
      simp only [finRange_take_all, List.any_eq_true, List.mem_finRange, true_and, s.newlyFaulted_iff, exists_and_left]
    simp only [State.repliedUpTo, hany]
  · simp only [State.repliedUpTo, finRange_take_all, ← flatMap_toList, ← s.healthPush_eq]
  · intro s f i hlink hl hi hits forwarded hhit hno hcls
    refine ⟨s.takeReply f.id f.data, exec_reply hl, ?_⟩
    rw [exec_frameArrival s hl, State.arrive_classify (p := .climate) hlink (fun e => nomatch e),
      State.classify_hit (State.lookup_first hi hhit hno), State.hit_reply hcls, State.offerForward_spec]
    dsimp only [forwarded]
    cases (s.frameRow i).forward <;> rfl

end Sys2Proof.Machine
end

section
/-! Proofs for section 2.3: the zone pass (R31 to R41). -/

namespace Sys2Proof.Machine

/-! ### The state after a pass -/

/-- What a pass leaves (R31, R41): the zone's record, ZONE_BLIND when the zone has become blind, and the hand-overs. -/
theorem State.zonePass_eq {s : State} {z : Fin 8} (h : s.zones[z].pass ≠ none) : s.zonePass z = { s with
    zones := s.zones.set z (s.passRecord z).1
    flags := if (s.passRecord z).2 = true then { s.flags with zoneBlind := true } else s.flags
    inFlight := s.inFlight ++ zoneHandOvers z (s.zoneRow z).sect (s.passRecord z).1 } := by
  unfold State.zonePass State.raiseIf
  rw [if_neg h]
  dsimp only
  split <;> rfl

/-! ### What a pass reads -/

theorem State.usableValue_eq (s : State) (i : Fin 64) : s.usableValue i
    = if (s.slotRow i).used = true ∧ (s.slots[i].status = .fresh ∨ s.slots[i].status = .held) then some s.slots[i].value
      else none := by
  unfold State.usableValue State.readSlot
  cases (s.slotRow i).used with
  | false => rfl
  | true => cases h : s.slots[i].status <;> simp [usableStatus]

/-- The draft weights, added as integers. -/
theorem State.draftSum_eq (s : State) (z : Fin 8) : (s.draftSum z : Int) = ((List.finRange 8).map fun d =>
    if (s.doorRow d).used = true ∧ (s.doorRow d).zoneCode = z.val ∧ s.doors[d].burst = .burst then
      ((s.doorRow d).draft : Int)
    else 0).sum := by
  have hzone : ∀ d, (s.doorRow d).zone = some z ↔ (s.doorRow d).zoneCode = z.val := by
    intro d
    unfold DoorRow.zone
    split
    · simp [Fin.ext_iff]
    · have := z.isLt
      simp only [reduceCtorEq, false_iff]
      omega
  have key : ∀ (l : List (Fin 8)) (n : Nat), ((l.foldl (fun sum d =>
      if (s.doorRow d).used && (s.doorRow d).zone == some z && s.doors[d].burst == .burst then
        sum + (s.doorRow d).draft
      else sum) n : Nat) : Int) = n + (l.map fun d =>
    if (s.doorRow d).used = true ∧ (s.doorRow d).zoneCode = z.val ∧ s.doors[d].burst = .burst then
      ((s.doorRow d).draft : Int)
    else 0).sum := by
    intro l
    induction l with
    | nil => intro n; simp
    | cons d l ih =>
      intro n
      rw [List.foldl_cons, ih, List.map_cons, List.sum_cons]
      simp only [Bool.and_eq_true, beq_iff_eq, hzone, and_assoc]
      split <;> push_cast <;> ring
  rw [State.draftSum, key]
  simp

theorem Overrides.applying_eq (o : Overrides) (kind : OverrideKind) (z : Fin 8) : o.applying kind z
    = match o.find kind (.one z), o.find kind .all with
      | some x, _ => some x
      | none, some x => some x
      | none, none => none := by
  unfold Overrides.applying
  cases o.find kind (.one z) <;> cases o.find kind .all <;> rfl

theorem ZoneRow.sect_eq_some (r : ZoneRow) (k : Fin 3) : r.sect = some k ↔ r.sectCode = k.val := by
  unfold ZoneRow.sect sectOfCode
  split
  · simp [Fin.ext_iff]
  · have := k.isLt
    simp only [reduceCtorEq, false_iff]
    omega

theorem State.coolingShort_iff (s : State) (r : ZoneRow) : s.coolingShort r = true ↔
    ∃ k : Fin 3, r.sectCode = k.val ∧ s.alloc.claims[coolClaim k].regular < s.alloc.claims[coolClaim k].posted := by
  simp only [← r.sect_eq_some, State.coolingShort]
  cases r.sect <;> simp

/-- Settles O17. -/
theorem zonePassFormsItsDemand : Obligations.ZonePassFormsItsDemand := by
  intro s z hpass r old es offset bias draft tz sz e short held f
  have hes : s.countedSensors r = es := by
    refine List.filterMap_congr fun j _ => ?_
    dsimp only
    by_cases hw : (s.listRow (r.listFirst + j)).weight = 0
    · rw [if_pos hw]
      split <;> simp [hw]
    · rw [if_neg hw, slotOfCode]
      split
      · rename_i hs
        simp only [Option.bind_some, s.usableValue_eq, ne_eq, hw, not_false_eq_true, true_and]
        split <;> rfl
      · rfl
  have hsz : s.setpoint z r = sz := by
    simp only [State.setpoint, Overrides.applying_eq, sz, offset, bias]
    congr 2
    · cases s.overrides.find .setpointOffset (.one z) <;> cases s.overrides.find .setpointOffset .all <;> rfl
    · cases r.sect <;> simp
  have hmean : s.sensorMean r = if es = [] then none else some
      (clamp (rounded (es.map fun (w : Int × Int) => w.1 * w.2).sum (es.map fun (w : Int × Int) => w.1).sum.toNat)
          (-400) 850) := by
    rw [State.sensorMean, hes]
  have hblind : (s.sensorMean r).isNone = decide (es = []) := by
    rw [hmean]
    by_cases h : es = [] <;> simp [h]
  have htz : (s.sensorMean r).getD (old.tz.getD r.base) = tz := by
    rw [hmean]
    by_cases h : es = [] <;> simp [h, tz]
  have hf : s.feedForward z sz = f := by
    simp only [State.feedForward, s.draftSum_eq]
    cases hv : s.roleValue .outsideAir with
    | none => simp only [f, hv]; rfl
    | some v =>
      simp only [f, hv]
      by_cases h1 : v < sz
      · rw [if_pos h1, if_pos h1]
      · rw [if_neg h1, if_neg h1]
        by_cases h2 : v ≤ sz + 20
        · rw [if_pos h2, if_neg (by omega)]
        · rw [if_neg h2, if_pos (by omega)]
  have hheld : s.integralHeld z r (decide (es = [])) e = true ↔ held := by
    have hshort : s.coolingShort r = true ↔ short := s.coolingShort_iff r
    simp only [State.integralHeld, Bool.or_eq_true, Bool.and_eq_true, decide_eq_true_eq, beq_iff_eq, hshort, held, or_assoc]
    rfl
  have he : clamp (s.setpoint z r - (s.sensorMean r).getD (old.tz.getD r.base)) (-200) 200 = e := by rw [hsz, htz]
  have hint : (s.passRecord z).1.integral = s.nextIntegral z r (decide (es = [])) e := by
    rw [← hblind, ← he]
    rfl
  have hlast : (s.passRecord z).1.lastR = if es = [] then clamp (r.fallback + f) (-1000) 1000
      else clamp (r.kp * e + (s.passRecord z).1.integral + f) (-1000) 1000 := by
    rw [hint, ← hf, ← he, ← hblind, ← hsz]
    have hb : es = [] ↔ (s.sensorMean r).isNone = true := by simp [hblind]
    simp only [hb]
    rfl
  have hset : (s.zones.set z (s.passRecord z).1)[z] = (s.passRecord z).1 := Vector.getElem_set_self _
  have hnew : (s.passRecord z).2 = true ↔ es = [] ∧ old.blind = false := by
    change ((s.sensorMean r).isNone && !old.blind) = true ↔ _
    simp [hblind]
  refine ⟨_, congrArg Host.Outcome.next (State.zonePass_eq hpass), ?_⟩
  dsimp only
  rw [hset]
  refine ⟨?_, congrArg some htz, hblind, hsz, fun h => ?_, fun h => ?_, hlast, ?_, rfl⟩
  · simp only [hnew, zoneHandOvers, List.append_assoc]
    rfl
  · rw [hint, State.nextIntegral, if_pos (hheld.mpr h)]
  · rw [hint, State.nextIntegral, if_neg (mt hheld.mp h)]
  · rw [← htz]
    rfl

/-! ### Mode, requests and air outputs -/

theorem all_ready_iff {α : Type} (l : List α) (p : α → Bool) :
    (!l.isEmpty && l.all fun i => !p i) = true ↔ ¬ (l = [] ∨ ∃ i ∈ l, p i = true) := by
  simp

theorem State.heaterCapacity_eq (s : State) (z : Fin 8) (r : ZoneRow) : s.heaterCapacity z r
    = if (List.finRange 24).filter (fun i => s.serves i (zoneClaim z)) = []
        ∨ ∃ i ∈ (List.finRange 24).filter (fun i => s.serves i (zoneClaim z)), s.channels[i].faulted = true then 0
      else r.heater := by
  have hmine : (List.finRange 24).filter (fun i => (s.outputRow i).used && (s.outputRow i).claimant == some (zoneClaim z))
      = (List.finRange 24).filter (fun i => s.serves i (zoneClaim z)) := by
    simp only [s.serves_spec]
  unfold State.heaterCapacity State.channelsReady
  rw [hmine]
  generalize (List.finRange 24).filter (fun i => s.serves i (zoneClaim z)) = mine
  dsimp only
  rw [if_congr (all_ready_iff mine fun i => s.channels[i].faulted) rfl rfl, ite_not]

theorem nextMode_zero (m : ZoneMode) (hyst : Nat) : nextMode m hyst 0 = .vent := rfl

theorem nextMode_warm {m : ZoneMode} {hyst : Nat} {r : Int} (h : 0 < r) : nextMode m hyst r
    = if (hyst : Int) ≤ r then .heat else if m = .heat then .heat else .vent := by
  rw [nextMode, if_neg (by omega), if_pos h]

theorem nextMode_cold {m : ZoneMode} {hyst : Nat} {r : Int} (h : r < 0) : nextMode m hyst r
    = if r ≤ -(hyst : Int) then .cool else if m = .cool then .cool else .vent := by
  rw [nextMode, if_neg (by omega), if_neg (by omega)]

/-- Only a demand that is not positive makes a zone cool, so that a zone in COOL asks for the amount of its demand. -/
theorem nextMode_cool_nonpos {m : ZoneMode} {hyst : Nat} {r : Int} (h : nextMode m hyst r = .cool) : r ≤ 0 := by
  by_contra hr
  rw [nextMode_warm (by omega)] at h
  split at h
  · cases h
  · split at h <;> cases h

/-- The band's floors at a zone, for a coupled one in a section. -/
theorem State.blowerFloorOf_eq (s : State) (r : ZoneRow) : s.blowerFloorOf r
    = max (max r.blowerFloor (match r.sect with
      | some k => if r.coupled = true then (s.profile k).2 else (0, 0)
      | none => (0, 0)).1) (if r.cab = true then (s.stageRow s.screen.stage).blowerFloor else 0) := by
  unfold State.blowerFloorOf State.stageNow
  cases r.sect <;> cases r.coupled <;> rfl

theorem State.freshOf_eq (s : State) (z : Fin 8) (r : ZoneRow) : s.freshOf z r
    = (let opened := if (s.overrides.applying .recirculate z).isSome then 0
        else max r.freshFloor (match r.sect with
          | some k => if r.coupled = true then (s.profile k).2 else (0, 0)
          | none => (0, 0)).2
      if r.cab then max opened (s.stageRow s.screen.stage).freshFloor else opened) := by
  unfold State.freshOf State.stageNow
  cases r.sect <;> cases r.coupled <;> rfl

theorem Overrides.applying_isSome (o : Overrides) (kind : OverrideKind) (z : Fin 8) :
    (o.applying kind z).isSome = true ↔ o.find kind (.one z) ≠ none ∨ o.find kind .all ≠ none := by
  unfold Overrides.applying
  cases o.find kind (.one z) <;> cases o.find kind .all <;> simp

/-- Settles O18. -/
theorem zonePassChoosesModeAndOutputs : Obligations.ZonePassChoosesModeAndOutputs := by
  intro s z hpass hmode r old mine capacity band stage fb boost closed
  refine ⟨_, congrArg Host.Outcome.next (State.zonePass_eq hpass), ?_⟩
  have hset : (s.zones.set z (s.passRecord z).1)[z] = (s.passRecord z).1 := Vector.getElem_set_self _
  dsimp only
  rw [hset]
  have hm : (s.passRecord z).1.mode = nextMode old.mode r.hyst (s.passRecord z).1.lastR := rfl
  have hq : ((s.passRecord z).1.qh, (s.passRecord z).1.qc)
      = requestsOf (s.passRecord z).1.mode (s.passRecord z).1.lastR capacity := by
    have hc : capacity = s.heaterCapacity z r := (s.heaterCapacity_eq z r).symm
    rw [hc]
    rfl
  have hb : (s.passRecord z).1.blower = s.blowerOf z r (s.passRecord z).1.lastR := rfl
  have hfr : (s.passRecord z).1.freshAir = s.freshOf z r := rfl
  generalize (s.passRecord z).1 = x at *
  have hclosed : (s.overrides.applying .recirculate z).isSome = true ↔ closed := s.overrides.applying_isSome _ z
  rw [s.freshOf_eq] at hfr
  refine ⟨fun h => ?_, fun h hy => ?_, fun h hy => ?_, fun h hy => ?_, fun h hy => ?_, ?_, ?_, ?_,
    fun hcab => ⟨fun hc => ?_, fun hc => ?_⟩, fun hcab => ⟨fun hc => ?_, fun hc => ?_⟩⟩
  · rw [hm, h, nextMode_zero]
  · rw [hm, nextMode_warm h, if_pos hy]
  · rw [hm, nextMode_warm h, if_neg (by omega)]
  · rw [hm, nextMode_cold h, if_pos hy]
  · rw [hm, nextMode_cold h, if_neg (by omega)]
  · rw [(Prod.mk.inj hq).1]
    cases x.mode <;> rfl
  · rw [(Prod.mk.inj hq).2]
    by_cases hc : x.mode = .cool
    · rw [if_pos hc, hc]
      have := nextMode_cool_nonpos (hm ▸ hc)
      change ((-x.lastR).toNat : Int) = -x.lastR
      omega
    · rw [if_neg hc]
      cases hx : x.mode with
      | cool => exact absurd hx hc
      | off => rfl
      | vent => rfl
      | heat => rfl
  · rw [hb]
    unfold State.blowerOf
    rw [s.blowerFloorOf_eq]
    dsimp only [boost]
    rw [Overrides.applying_eq]
    cases s.overrides.find .blowerBoost (.one z) <;> cases s.overrides.find .blowerBoost .all <;> rfl
  · rw [hfr, if_pos (hclosed.mpr hc), hcab]
    rfl
  · rw [hfr, if_neg (mt hclosed.mp hc), hcab]
    rfl
  · rw [hfr, if_pos (hclosed.mpr hc), hcab]
    exact Nat.zero_max _
  · rw [hfr, if_neg (mt hclosed.mp hc), hcab]
    rfl

end Sys2Proof.Machine
end

section
/-! Proofs for section 2.4: the cooling units of the sections (R42 to R47). -/

namespace Sys2Proof.Machine

/-! ### The request in per mille -/

theorem State.zoneIn_iff (s : State) (k : Fin 3) (z : Fin 8) :
    s.zoneIn k z = true ↔ (s.zoneRow z).used = true ∧ (s.zoneRow z).sectCode = k.val := by
  simp [State.zoneIn, ZoneRow.sect_eq_some]

/-- The largest entry of a list that meets a condition, and n. -/
theorem foldl_max_spec {α : Type} (p : α → Bool) (f : α → Nat) (l : List α) (n : Nat) :
    n ≤ l.foldl (fun m a => if p a then max m (f a) else m) n
      ∧ (∀ a ∈ l, p a = true → f a ≤ l.foldl (fun m a => if p a then max m (f a) else m) n)
      ∧ (l.foldl (fun m a => if p a then max m (f a) else m) n = n
        ∨ ∃ a ∈ l, p a = true ∧ l.foldl (fun m a => if p a then max m (f a) else m) n = f a) := by
  induction l generalizing n with
  | nil => exact ⟨le_rfl, by simp, Or.inl rfl⟩
  | cons a l ih =>
    obtain ⟨hn, hall, hone⟩ := ih (if p a then max n (f a) else n)
    rw [List.foldl_cons]
    generalize l.foldl (fun m a => if p a then max m (f a) else m) (if p a then max n (f a) else n) = m at *
    by_cases ha : p a = true
    · rw [if_pos ha] at hn hone
      refine ⟨by omega, fun b hb hpb => ?_, ?_⟩
      · obtain rfl | hb := List.mem_cons.mp hb
        · omega
        · exact hall b hb hpb
      · obtain h | ⟨b, hb, hpb, h⟩ := hone
        · obtain hm | hm := Nat.le_total n (f a)
          · exact Or.inr ⟨a, List.mem_cons_self, ha, by omega⟩
          · exact Or.inl (by omega)
        · exact Or.inr ⟨b, List.mem_cons_of_mem a hb, hpb, h⟩
    · rw [if_neg ha] at hn hone
      refine ⟨hn, fun b hb hpb => ?_, ?_⟩
      · obtain rfl | hb := List.mem_cons.mp hb
        · exact absurd hpb ha
        · exact hall b hb hpb
      · obtain h | ⟨b, hb, hpb, h⟩ := hone
        · exact Or.inl h
        · exact Or.inr ⟨b, List.mem_cons_of_mem a hb, hpb, h⟩

theorem State.dries_iff (s : State) (k : Fin 3) :
    (s.coolers[k].dry && s.cabZone.any fun z => (s.zoneRow z).sect == some k) = true ↔
      s.coolers[k].dry = true ∧ ∃ z, s.cabZone = some z ∧ (s.zoneRow z).sectCode = k.val := by
  cases s.cabZone <;> simp [ZoneRow.sect_eq_some]

/-- The request is the largest of the Qc that count and the dry floor that counts (R43). -/
theorem State.coolPerMille_spec (s : State) (k : Fin 3) :
    let mine (z : Fin 8) : Prop := (s.zoneRow z).used = true ∧ (s.zoneRow z).sectCode = k.val
    let dried : Prop := s.coolers[k].dry = true ∧ ∃ z, s.cabZone = some z ∧ (s.zoneRow z).sectCode = k.val
    (∀ z : Fin 8, mine z → s.coolers[k].qcs[z] ≤ s.coolPerMille k) ∧ (dried → s.coolers[k].dryFloor ≤ s.coolPerMille k)
      ∧ (s.coolPerMille k = 0 ∨ (∃ z : Fin 8, mine z ∧ s.coolPerMille k = s.coolers[k].qcs[z])
        ∨ (dried ∧ s.coolPerMille k = s.coolers[k].dryFloor)) := by
  intro mine dried
  obtain ⟨-, hall, hone⟩ := foldl_max_spec (s.zoneIn k) (fun z => s.coolers[k].qcs[z]) (List.finRange 8) 0
  simp only [s.zoneIn_iff k, List.mem_finRange, true_and, true_implies] at hall hone
  unfold State.coolPerMille
  simp only [s.zoneIn_iff k]
  generalize (List.finRange 8).foldl (fun m z =>
    if (s.zoneRow z).used = true ∧ (s.zoneRow z).sectCode = k.val then max m s.coolers[k].qcs[z] else m) 0 = m at *
  rw [if_congr (s.dries_iff k) rfl rfl]
  by_cases hd : dried
  · rw [if_pos hd]
    refine ⟨fun z hz => (hall z hz).trans (Nat.le_max_left _ _), fun _ => Nat.le_max_right _ _, ?_⟩
    obtain h | h := Nat.le_total m s.coolers[k].dryFloor
    · exact Or.inr (Or.inr ⟨hd, Nat.max_eq_right h⟩)
    · rw [Nat.max_eq_left h]
      exact hone.imp_right Or.inl
  · rw [if_neg hd]
    exact ⟨hall, fun h => absurd h hd, hone.imp_right Or.inl⟩

/-! ### A transition of a unit -/

/-- What a transition of unit k leaves, when the unit's record and the hand-overs in flight have been changed before. -/
theorem State.runCooler_of (s : State) (k : Fin 3) (u : Cooler) (es : List Instr) (f : CoolView → CoolRun → CoolRun) :
    State.runCooler { s with coolers := s.coolers.set k u, inFlight := es } k f = { s with
      coolers := s.coolers.set k (f (State.coolView { s with coolers := s.coolers.set k u } k) ⟨u, []⟩).unit
      inFlight := es ++ (f (State.coolView { s with coolers := s.coolers.set k u } k) ⟨u, []⟩).out } := by
  have hu : (s.coolers.set k u)[k] = u := Vector.getElem_set_self _
  change ({ s with
      coolers := (s.coolers.set k u).set k
        (f (State.coolView { s with coolers := s.coolers.set k u } k) ⟨(s.coolers.set k u)[k], []⟩).unit
      inFlight := es ++ (f (State.coolView { s with coolers := s.coolers.set k u } k) ⟨(s.coolers.set k u)[k], []⟩).out }
    : State) = _
  rw [hu, Vector.set_set]

section
variable (v : CoolView) (u : Cooler) (es : List Instr)

/-- The delivery of a demand that has changed (R47). -/
def CoolView.changed (v : CoolView) (before now : Nat) : List Instr :=
  if now = before then [] else [.sourceDelivery (.demand v.sec) now]

theorem CoolRun.setDemand_eq (d : Nat) :
    CoolRun.setDemand v d ⟨u, es⟩ = ⟨{ u with demand := d }, es ++ v.changed u.demand d⟩ := by
  unfold CoolRun.setDemand CoolView.changed
  by_cases h : d = u.demand
  · rw [if_pos h, if_pos h, List.append_nil]
    subst h
    rfl
  · rw [if_neg h, if_neg h]

/-- A unit that stops: in LOCKOUT, or in OFF when the minimum off time is 0 (R44 to R46). -/
def CoolView.stopped (v : CoolView) (x : Cooler) : Cooler :=
  if v.minOff = 0 then { x with state := .off, minOn := none, minOff := none, demand := 0, posted := v.raised }
  else { x with state := .lockout, minOn := none, minOff := some (1000 * v.minOff), demand := 0, posted := 0 }

/-- What a unit that stops hands on: its demand, a request of 0, and in OFF the request it has there. -/
def CoolView.stops (v : CoolView) (x : Cooler) : List Instr :=
  v.changed x.demand 0 ++ .claimPosting (coolClaim v.sec) 0
    :: (if v.minOff = 0 then [.claimPosting (coolClaim v.sec) v.raised] else [])

theorem CoolRun.enterLockout_eq : CoolRun.enterLockout v ⟨u, es⟩ = ⟨v.stopped u, es ++ v.stops u⟩ := by
  unfold CoolRun.enterLockout CoolView.stopped CoolView.stops startSeconds
  dsimp only
  rw [CoolRun.setDemand_eq]
  by_cases h : v.minOff = 0
  · simp [CoolRun.post, h]
  · simp [CoolRun.post, h, seconds]

theorem CoolRun.compute_lockout (h : u.state = .lockout) :
    CoolRun.compute v ⟨u, es⟩ = ⟨{ u with posted := 0 }, es ++ [.claimPosting (coolClaim v.sec) 0]⟩ := by
  cases u
  subst h
  rfl

theorem CoolRun.compute_posts (h : u.state = .off ∨ (u.state = .run ∧ (v.power ≠ 0 ∨ u.minOn ≠ none))) :
    CoolRun.compute v ⟨u, es⟩ = ⟨{ u with posted := v.raised }, es ++ [.claimPosting (coolClaim v.sec) v.raised]⟩ := by
  cases u
  obtain h | ⟨h, hp⟩ := h
  · subst h
    rfl
  · subst h
    exact if_neg (by tauto)

theorem CoolRun.compute_stops (h : u.state = .run) (hp : v.power = 0) (hm : u.minOn = none) :
    CoolRun.compute v ⟨u, es⟩ = ⟨v.stopped u, es ++ v.stops u⟩ := by
  simp only [CoolRun.compute, h]
  rw [if_pos ⟨hp, hm⟩, CoolRun.enterLockout_eq]

end

/-- Settles O19. -/
theorem coolingUnitsPostTheirRequest : Obligations.CoolingUnitsPostTheirRequest := by
  refine fun s k => ⟨s.coolPerMille_spec k, ?_⟩
  intro c u hc r power q leaves cut
  have hexec : exec c s = .next (State.runCooler { s with coolers := s.coolers.set k u, inFlight := s.inFlight.erase c } k
      CoolRun.compute) := by
    obtain ⟨z, qc, rfl, rfl⟩ | ⟨dry, fl, rfl, rfl⟩ := hc <;> rfl
  rw [State.runCooler_of] at hexec
  have hpower : (State.coolView { s with coolers := s.coolers.set k u } k).power = power := rfl
  have hraised : (State.coolView { s with coolers := s.coolers.set k u } k).raised = q := rfl
  have hoff : (State.coolView { s with coolers := s.coolers.set k u } k).minOff = r.minOff := rfl
  have hsec : (State.coolView { s with coolers := s.coolers.set k u } k).sec = k := rfl
  generalize State.coolView { s with coolers := s.coolers.set k u } k = v at *
  have hcut : v.changed u.demand 0 = cut := by
    simp only [CoolView.changed, hsec, cut, eq_comm]
  refine ⟨fun h => ?_, fun h => ?_, fun h hp hm hr => ?_, fun h hp hm hr => ?_⟩
  · rw [CoolRun.compute_lockout v u [] h, hsec] at hexec
    exact hexec
  · rw [CoolRun.compute_posts v u [] (hpower ▸ h), hsec, hraised] at hexec
    exact hexec
  · rw [CoolRun.compute_stops v u [] h (hpower.trans hp) hm] at hexec
    simp only [CoolView.stops, CoolView.stopped, hoff, hsec, if_neg hr, hcut, List.nil_append] at hexec
    dsimp only [leaves]
    rw [hm]
    exact hexec
  · rw [CoolRun.compute_stops v u [] h (hpower.trans hp) hm] at hexec
    have hq : q = 0 := if_pos hp
    simp only [CoolView.stops, CoolView.stopped, hoff, hsec, if_pos hr, hcut, List.nil_append, hraised, hq] at hexec
    dsimp only [leaves]
    rw [hm]
    exact hexec

/-! ### Grants and minimum times -/

theorem CoolRun.takeGrant_notes (v : CoolView) (u : Cooler) (g : Nat)
    (h : (u.state = .off ∧ (g = 0 ∨ u.posted = 0 ∨ v.rated = 0)) ∨ u.state = .lockout) :
    CoolRun.takeGrant v g ⟨u, []⟩ = ⟨{ u with grant := g }, []⟩ := by
  cases u
  obtain ⟨h, hg⟩ | h := h
  · subst h
    exact if_neg (by tauto)
  · subst h
    rfl

theorem CoolRun.takeGrant_starts (v : CoolView) (u : Cooler) {g : Nat} (h : u.state = .off) (hg : g ≠ 0) (hp : u.posted ≠ 0)
    (hr : v.rated ≠ 0) : CoolRun.takeGrant v g ⟨u, []⟩
    = CoolRun.compute v ⟨{ u with state := .run, minOn := startSeconds v.minOn, grant := g, demand := v.demandOf g },
        v.changed u.demand (v.demandOf g)⟩ := by
  have hset := CoolRun.setDemand_eq v { u with state := .run, minOn := startSeconds v.minOn, grant := g } [] (v.demandOf g)
  cases u
  subst h
  refine (if_pos ⟨hg, hp, hr⟩).trans ?_
  rw [hset, List.nil_append]

theorem CoolRun.takeGrant_runs (v : CoolView) (u : Cooler) {g : Nat} (h : u.state = .run)
    (hg : (g ≠ 0 ∧ v.minimum ≤ g) ∨ (g = 0 ∧ u.posted = 0)) : CoolRun.takeGrant v g ⟨u, []⟩
    = ⟨{ u with grant := g, demand := v.demandOf g }, v.changed u.demand (v.demandOf g)⟩ := by
  have hset := CoolRun.setDemand_eq v { u with grant := g } [] (v.demandOf g)
  cases u
  subst h
  refine (if_neg ?_).trans (hset.trans ?_)
  · obtain ⟨h0, hm⟩ | ⟨h0, hp⟩ := hg
    · exact not_or.mpr ⟨fun e => absurd e.2 (by omega), fun e => h0 e.1⟩
    · exact not_or.mpr ⟨fun e => e.1 h0, fun e => e.2 hp⟩
  · rw [List.nil_append]

theorem CoolRun.takeGrant_stops (v : CoolView) (u : Cooler) {g : Nat} (h : u.state = .run)
    (hg : (g ≠ 0 ∧ g < v.minimum) ∨ (g = 0 ∧ u.posted ≠ 0)) :
    CoolRun.takeGrant v g ⟨u, []⟩ = ⟨v.stopped { u with grant := g }, v.stops u⟩ := by
  have hl := CoolRun.enterLockout_eq v { u with grant := g } []
  cases u
  subst h
  exact (if_pos hg).trans hl

/-- Settles O20. -/
theorem coolingGrantsAndMinimumTimes : Obligations.CoolingGrantsAndMinimumTimes := by
  intro s k g r rated u minimum power q d changed posts stopped stops started granted leaves
  have hexec : exec (.coolingGrantDelivery k g) s = .next { s with
      coolers := s.coolers.set k (CoolRun.takeGrant (s.coolView k) g ⟨u, []⟩).unit
      inFlight := s.inFlight.erase (.coolingGrantDelivery k g) ++ (CoolRun.takeGrant (s.coolView k) g ⟨u, []⟩).out } := rfl
  have hoffExpiry : exec (.minimumOffExpiry k) s = .next { s with
      coolers := s.coolers.set k (CoolRun.minOffExpiry (s.coolView k) ⟨u, []⟩).unit
      inFlight := s.inFlight ++ (CoolRun.minOffExpiry (s.coolView k) ⟨u, []⟩).out } := rfl
  have honExpiry : exec (.minimumOnExpiry k) s = .next { s with
      coolers := s.coolers.set k (CoolRun.minOnExpiry (s.coolView k) ⟨u, []⟩).unit
      inFlight := s.inFlight ++ (CoolRun.minOnExpiry (s.coolView k) ⟨u, []⟩).out } := rfl
  have hsame : { s with coolers := s.coolers.set k u, inFlight := s.inFlight ++ [] } = s := by
    have hu : s.coolers.set k u = s.coolers := Vector.set_getElem_self _
    rw [hu, List.append_nil]
  have hpower : (s.coolView k).power = power := rfl
  have hraised : (s.coolView k).raised = q := rfl
  have hrated : (s.coolView k).rated = rated := rfl
  have hmin : (s.coolView k).minimum = minimum := rfl
  have hoff : (s.coolView k).minOff = r.minOff := rfl
  have hon : startSeconds (s.coolView k).minOn = if r.minOn = 0 then none else some (1000 * r.minOn) := rfl
  have hd : (s.coolView k).demandOf g = d := rfl
  have hchanged : (s.coolView k).changed = changed := rfl
  have hstopped : (s.coolView k).stopped = stopped := rfl
  have hstops : (s.coolView k).stops = stops := rfl
  have hsec : (s.coolView k).sec = k := rfl
  generalize s.coolView k = v at *
  refine ⟨fun h hg => ?_, fun h hg hp hr => ⟨fun hps => ?_, fun hp0 hm0 => ?_⟩, fun h hg => ?_, fun h hg => ?_, fun h => ?_,
    fun h hm => ?_, fun h hm hp => ?_, fun h hm hp => ?_, fun h => ?_, fun h => ?_⟩
  · rw [CoolRun.takeGrant_notes v u g (Or.inl ⟨h, hrated ▸ hg⟩)] at hexec
    exact hexec
  · rw [CoolRun.takeGrant_starts v u h hg hp (hrated ▸ hr), CoolRun.compute_posts _ _ _ (Or.inr ⟨rfl, ?_⟩), hd, hon, hraised,
      hchanged, hsec] at hexec
    · exact hexec
    · exact hps.imp (fun e => hpower ▸ e) fun e => by rw [hon, if_neg e]; exact Option.some_ne_none _
  · rw [CoolRun.takeGrant_starts v u h hg hp (hrated ▸ hr), CoolRun.compute_stops _ _ _ rfl (hpower.trans hp0) ?_, hd, hon,
      hchanged, hstopped, hstops] at hexec
    · exact hexec
    · exact hon.trans (if_pos hm0)
  · rw [CoolRun.takeGrant_runs v u h (hmin ▸ hg), hd, hchanged] at hexec
    exact hexec
  · rw [CoolRun.takeGrant_stops v u h (hmin ▸ hg), hstopped, hstops] at hexec
    exact hexec
  · rw [CoolRun.takeGrant_notes v u g (Or.inr h)] at hexec
    exact hexec
  · rw [CoolRun.minOffExpiry, if_neg (not_or.mpr ⟨hm, not_not.mpr h⟩), CoolRun.compute_posts _ _ _ (Or.inl rfl), hraised,
      hsec] at hoffExpiry
    exact hoffExpiry
  · rw [CoolRun.minOnExpiry, if_neg (not_or.mpr ⟨hm, not_not.mpr h⟩),
      CoolRun.compute_posts v { u with minOn := none } [] (Or.inr ⟨h, Or.inl (hpower ▸ hp)⟩), hraised, hsec] at honExpiry
    exact honExpiry
  · rw [CoolRun.minOnExpiry, if_neg (not_or.mpr ⟨hm, not_not.mpr h⟩), 
      CoolRun.compute_stops v { u with minOn := none } [] h (hpower.trans hp) rfl, hstopped, hstops] at honExpiry
    exact honExpiry
  · rw [CoolRun.minOffExpiry, if_pos h] at hoffExpiry
    exact hoffExpiry.trans (congrArg _ hsame)
  · rw [CoolRun.minOnExpiry, if_pos h] at honExpiry
    exact honExpiry.trans (congrArg _ hsame)

end Sys2Proof.Machine
end

section
/-! Proofs for chapter 7: the triggers of the power allocator, capacities, the budget and the pool (R140 to R155). -/

namespace Sys2Proof.Machine

/-! ### Triggers -/

theorem State.effectiveLevel_screen (s : State) :
    s.effectiveLevel screenClaim = if 0 < s.alloc.maxCount then 0 else (s.claimRow 19).level := by
  simp [State.effectiveLevel, screenClaim]

/-- Settles O23. -/
theorem allocatorTriggersRegrant : Obligations.AllocatorTriggersRegrant := by
  intro s
  refine ⟨fun z => congrArg Host.Outcome.next (State.recompute_regranted _), ?_, ?_⟩
  · intro c q hc noted
    have hmine : ¬ (8 ≤ c.val ∧ c.val < 16 ∨ c = screenClaim) := by
      have : c = screenClaim ↔ c.val = 19 := Fin.ext_iff
      omega
    change Host.Outcome.next (noted.refreshCapacities (if _ then [c] else []) (q != s.alloc.claims[c].posted)) = _
    rw [if_neg hmine]
    change Host.Outcome.next (if (q != s.alloc.claims[c].posted) = true then noted.recompute false else noted) = _
    rw [State.recompute_regranted]
    by_cases h : q = s.alloc.claims[c].posted <;> simp [h]
  · intro entered n noted
    change Host.Outcome.next (if (s.take (.maxCountNotice entered)).effectiveLevel screenClaim
      = noted.effectiveLevel screenClaim then noted else noted.recompute false) = _
    rw [State.recompute_regranted, State.effectiveLevel_screen, State.effectiveLevel_screen]
    have hmoved : (if 0 < s.alloc.maxCount then 0 else (s.claimRow 19).level)
        = (if 0 < n then 0 else (s.claimRow 19).level) ↔ ¬ ((s.claimRow 19).level ≠ 0 ∧ ¬ (n = 0 ↔ s.alloc.maxCount = 0)) := by
      split <;> split <;> omega
    exact congrArg _ ((if_congr hmoved rfl rfl).trans (ite_not _ _ _))

/-! ### Capacities -/

theorem State.cappedChannel_one (s : State) (c : Fin 20) (i : Fin 24) : s.cappedChannel [c] i
    = if s.usablePower c ≠ s.alloc.claims[c].capacity ∧ s.serves i c = true ∧ (c.val < 16 ∨ c.val = 19) then
        s.withCommand i (s.cappedValue i c) else s.channels[i] := by
  by_cases h : s.serves i c = true
  · rw [s.cappedChannel_serves [c] i c h]
    simp only [List.mem_singleton, true_and, h]
  · have hnone : (List.finRange 20).find? (fun k =>
        s.serves i k && (decide (k ∈ [c]) && s.usablePower k != s.alloc.claims[k].capacity)) = none := by
      refine List.find?_eq_none.mpr fun k _ hk => ?_
      simp only [Bool.and_eq_true, decide_eq_true_eq, List.mem_singleton] at hk
      obtain ⟨hs, rfl, -⟩ := hk
      exact h hs
    rw [State.cappedChannel, hnone, if_neg (fun e => h e.2.1)]

/-- A recomputation does not read the channels, and does not touch them. -/
theorem State.regranted_channels (s : State) (cs : Vector Channel 24) :
    State.regranted { s with channels := cs } = { s.regranted with channels := cs } := by
  unfold State.regranted
  split <;> rfl

/-- Settles O24. -/
theorem capacitiesFollowTheirOwners : Obligations.CapacitiesFollowTheirOwners := by
  intro s c e posted he old capacity noted
  let x : State := { s with
    inFlight := s.inFlight.erase e
    alloc := { s.alloc with claims := s.alloc.claims.set c { old with posted := posted } } }
  have hx : x.alloc.claims[c] = { old with posted := posted } := Vector.getElem_set_self _
  have hexec : exec e s = .next (x.refreshCapacities [c] (posted != old.posted)) := by
    obtain ⟨rfl, rfl⟩ | ⟨rfl, hc⟩ := he
    · have hset : s.alloc.claims.set c { old with posted := s.alloc.claims[c].posted } = s.alloc.claims :=
        Vector.set_getElem_self _
      dsimp only [x]
      rw [hset, bne_self_eq_false]
      rfl
    · have hmine : 8 ≤ c.val ∧ c.val < 16 ∨ c = screenClaim := hc.imp_right fun h => Fin.ext h
      exact congrArg (fun l => Host.Outcome.next (x.refreshCapacities l (posted != old.posted))) (if_pos hmine)
  have hcap : x.usablePower c = capacity := rfl
  have hset : x.setClaim c { x.alloc.claims[c] with capacity := x.usablePower c } = noted := by
    rw [hx, hcap]
    have hset : (s.alloc.claims.set c { old with posted := posted }).set c
        { old with posted := posted, capacity := capacity } = noted.alloc.claims := Vector.set_set _ c.isLt
    exact congrArg (fun cs => ({ x with alloc := { s.alloc with claims := cs } } : State)) hset
  have hclaims : x.cappedClaims [c] = noted.alloc.claims := by
    rw [← hset]
    refine Vector.ext fun k hk => ?_
    by_cases hkc : c.val = k
    · subst hkc
      simp [State.cappedClaims, State.setClaim]
    · have hne : (⟨k, hk⟩ : Fin 20) ≠ c := fun h => hkc (by rw [← h])
      simp [State.cappedClaims, State.setClaim, hkc, hne]
  have hcapped : x.capped [c] = { noted with channels := Vector.ofFn (x.cappedChannel [c]) } := by
    rw [State.capped, hclaims]
    rfl
  have hmoved : x.cappedClaims [c] ≠ x.alloc.claims ∨ (posted != old.posted) = true ↔
      posted ≠ old.posted ∨ capacity ≠ old.capacity := by
    rw [← State.capacityChanges_spec, bne_iff_ne, or_comm]
    refine or_congr_right ?_
    simp only [State.capacityChanges, List.any_cons, List.any_nil, Bool.or_false, bne_iff_ne, State.capacityNow_spec, hcap,
      hx]
  have hch : ∀ i : Fin 24, x.cappedChannel [c] i
      = if capacity ≠ old.capacity ∧ s.serves i c = true ∧ (c.val < 16 ∨ c.val = 19) then
          noted.withCommand i (noted.commandedValue i (old.regular + old.absorption))
        else s.channels[i] := by
    intro i
    rw [x.cappedChannel_one c i, State.cappedValue, hset, hx]
    rfl
  rw [State.refreshCapacities_capped x [c] (List.nodup_singleton c), hcapped, State.regranted_channels,
    if_congr hmoved rfl rfl] at hexec
  refine ⟨_, hexec, fun hp hcp => ?_, fun h => ?_, fun i => ?_⟩
  · rw [if_neg (not_or.mpr ⟨not_not.mpr hp, not_not.mpr hcp⟩)]
    have hv : Vector.ofFn (x.cappedChannel [c]) = s.channels := Vector.ext fun i hi => by
      rw [Vector.getElem_ofFn, hch, if_neg (fun e => e.1 hcp)]
      rfl
    rw [hv]
  · rw [if_pos h]
  · rw [← hch i]
    split <;> exact Vector.getElem_ofFn _

/-! ### The budget and the pool -/

/-- The part t is the part s with its grants formed anew, or not: nothing else differs but the flags and the deliveries,
and in STANDBY nothing at all. -/
def State.GrantedAnew (s t : State) : Prop :=
  t = { s with alloc := { s.alloc with claims := t.alloc.claims }, inFlight := t.inFlight, flags := t.flags }
    ∧ (∀ c : Fin 20, t.alloc.claims[c].posted = s.alloc.claims[c].posted
        ∧ t.alloc.claims[c].capacity = s.alloc.claims[c].capacity)
    ∧ (s.part = .standby → t = s)

theorem State.GrantedAnew.refl (s : State) : s.GrantedAnew s := ⟨rfl, fun _ => ⟨rfl, rfl⟩, fun _ => rfl⟩

theorem State.GrantedAnew.trans {s t u : State} (h : s.GrantedAnew t) (k : t.GrantedAnew u) : s.GrantedAnew u := by
  obtain ⟨ht, hc, hs⟩ := h
  obtain ⟨hu, kc, ks⟩ := k
  refine ⟨?_, fun c => ⟨(kc c).1.trans (hc c).1, (kc c).2.trans (hc c).2⟩, fun hp => ?_⟩
  · rw [ht] at hu
    exact hu
  · exact (ks ((congrArg State.part (hs hp)).trans hp)).trans (hs hp)

theorem State.regranted_grantedAnew (s : State) : s.GrantedAnew s.regranted ∧ s.regranted.flags = s.flags := by
  unfold State.regranted
  by_cases hp : s.part = .standby
  · rw [if_pos hp]
    exact ⟨.refl s, rfl⟩
  · rw [if_neg hp]
    refine ⟨⟨rfl, fun c => ?_, fun h => absurd h hp⟩, rfl⟩
    have hc := s.regrantedClaims_get c
    exact ⟨(congrArg Claim.posted hc :), (congrArg Claim.capacity hc :)⟩

theorem State.regrantedByFall_grantedAnew (s : State) : s.GrantedAnew s.regrantedByFall := by
  unfold State.regrantedByFall
  obtain ⟨⟨ht, hc, hs⟩, -⟩ := s.regranted_grantedAnew
  split
  · rename_i h
    refine ⟨?_, hc, fun hp => absurd (h.1.symm.trans hp) nofun⟩
    rw [ht]
  · exact ⟨ht, hc, hs⟩

/-- The target budget, Beff and the ramp timer once the target budget is T (R142). -/
def Alloc.aimed (a : Alloc) (T : Nat) : Alloc :=
  { a with target := T, beff := min T a.beff, ramp := if T ≤ a.beff then none else some (a.ramp.getD 1000) }

/-- The target budget of the line state and the permitted power as they stand (R141). -/
def State.limitNow (s : State) : Nat :=
  min (s.budgetRow s.alloc.line).base (s.alloc.permitted.getD (s.budgetRow s.alloc.line).base)

/-- The absorption pool of the line state and the surplus as they stand (R152). -/
def State.poolSize (s : State) : Nat :=
  if s.alloc.line = .wired then min (s.alloc.surplus.getD 0) (s.budgetRow .wired).cap else 0

theorem State.targeted_grantedAnew (s : State) :
    State.GrantedAnew { s with alloc := s.alloc.aimed s.limitNow } s.targeted := by
  unfold State.targeted Alloc.aimed State.limitNow
  dsimp only
  generalize min (s.budgetRow s.alloc.line).base (s.alloc.permitted.getD (s.budgetRow s.alloc.line).base) = T
  by_cases h : T < s.alloc.beff
  · rw [if_pos h, Nat.min_eq_left (by omega), if_pos (by omega)]
    exact State.regrantedByFall_grantedAnew _
  · have he : (T = s.alloc.beff) = (T ≤ s.alloc.beff) := propext ⟨fun e => e.le, fun e => by omega⟩
    rw [if_neg h, Nat.min_eq_right (by omega), if_congr (iff_of_eq he) rfl rfl]
    exact .refl _

theorem State.pooled_grantedAnew (s : State) : 
    State.GrantedAnew { s with alloc := { s.alloc with pool := s.poolSize } } s.pooled ∧ s.pooled.flags = s.flags := by
  unfold State.pooled State.poolSize
  dsimp only
  generalize (if s.alloc.line = .wired then min (s.alloc.surplus.getD 0) (s.budgetRow .wired).cap else 0) = p
  by_cases h : p = s.alloc.pool
  · rw [if_pos h, h]
    exact ⟨.refl s, rfl⟩
  · rw [if_neg h]
    exact State.regranted_grantedAnew _

/-- What the terms of the statement say of a notification whose allocator is `b` before any grant is formed. -/
theorem State.GrantedAnew.others {s t : State} {e : Instr} {b : Alloc}
    (h : State.GrantedAnew { s with inFlight := s.inFlight.erase e, alloc := b } t) (hm : b.maxCount = s.alloc.maxCount)
    (hc : b.claims = s.alloc.claims) :
    t = { s with alloc := t.alloc, inFlight := t.inFlight, flags := t.flags } ∧ t.alloc.maxCount = s.alloc.maxCount
      ∧ (∀ c : Fin 20, t.alloc.claims[c].posted = s.alloc.claims[c].posted
          ∧ t.alloc.claims[c].capacity = s.alloc.claims[c].capacity)
      ∧ (s.part = .standby → t.alloc.claims = s.alloc.claims ∧ t.flags = s.flags ∧ t.inFlight = s.inFlight.erase e) := by
  obtain ⟨ht, hk, hs⟩ := h
  refine ⟨?_, ?_, fun c => ?_, fun hp => ?_⟩
  · rw [ht]
  · exact (congrArg (·.alloc.maxCount) ht).trans hm
  · have := hk c
    rw [hc] at this
    exact this
  · rw [hs hp]
    exact ⟨hc, rfl, rfl⟩

theorem State.GrantedAnew.withPool {s t : State} (h : s.GrantedAnew t) (p : Nat) :
    State.GrantedAnew { s with alloc := { s.alloc with pool := p } } { t with alloc := { t.alloc with pool := p } } := by
  obtain ⟨ht, hc, hs⟩ := h
  refine ⟨?_, hc, fun hp => ?_⟩
  · rw [ht]
  · rw [hs hp]

/-- A recomputation of the target budget and then of the pool (R140). -/
theorem State.targeted_pooled_grantedAnew (s : State) : State.GrantedAnew
    { s with alloc := { s.alloc.aimed s.limitNow with pool := s.poolSize } } s.targeted.pooled := by
  have h := s.targeted_grantedAnew
  have hpool : s.targeted.poolSize = s.poolSize := by
    rw [h.1]
    rfl
  exact (h.withPool s.poolSize).trans (hpool ▸ s.targeted.pooled_grantedAnew.1)

theorem exec_lineStateNotification (s : State) (n : SlotNote) : exec (.lineStateNotification n) s
    = .next (if s.designated .lineState = some n.slot ∧ lineOf n ≠ s.alloc.line then
        (State.targeted { s with
          inFlight := s.inFlight.erase (.lineStateNotification n), alloc := { s.alloc with line := lineOf n } }).pooled
      else { s with inFlight := s.inFlight.erase (.lineStateNotification n) }) := by
  refine congrArg Host.Outcome.next ?_
  change (if s.designated .lineState = some n.slot then (if lineOf n = s.alloc.line then _ else _) else _) = _
  rw [State.retarget_targeted, State.repool_pooled]
  by_cases hd : s.designated .lineState = some n.slot
  · by_cases hl : lineOf n = s.alloc.line
    · rw [if_pos hd, if_pos hl, if_neg (fun e => e.2 hl)]
      rfl
    · rw [if_pos hd, if_neg hl, if_pos ⟨hd, hl⟩]
      rfl
  · rw [if_neg hd, if_neg (fun e => hd e.1)]
    rfl

theorem exec_permittedPowerNotification (s : State) (n : SlotNote) : exec (.permittedPowerNotification n) s
    = .next (if s.designated .permittedPower = some n.slot then
        State.targeted { s with
          inFlight := s.inFlight.erase (.permittedPowerNotification n)
          alloc := { s.alloc with permitted := permittedAfter s.alloc.permitted n } }
      else { s with inFlight := s.inFlight.erase (.permittedPowerNotification n) }) := by
  refine congrArg Host.Outcome.next ?_
  rw [State.retarget_targeted]
  rfl

theorem exec_surplusNotification (s : State) (n : SlotNote) : exec (.surplusNotification n) s
    = .next (if s.designated .surplus = some n.slot then
        State.pooled { s with
          inFlight := s.inFlight.erase (.surplusNotification n), alloc := { s.alloc with surplus := surplusAfter n } }
      else { s with inFlight := s.inFlight.erase (.surplusNotification n) }) := by
  refine congrArg Host.Outcome.next ?_
  rw [State.repool_pooled]
  rfl

theorem permittedAfter_eq (before : Option Nat) (n : SlotNote) : permittedAfter before n
    = if n.status = .fresh then some n.value.toNat else if n.status = .held then before else none := by
  unfold permittedAfter
  cases n.status <;> rfl

/-- Settles O25. -/
theorem powerSlotsSetTheBudget : Obligations.PowerSlotsSetTheBudget := by
  intro s n a line permitted surplus target pool budget others
  refine ⟨?_, ?_, ?_⟩
  · rw [exec_lineStateNotification]
    by_cases h : s.designated .lineState = some n.slot ∧ lineOf n ≠ s.alloc.line
    · rw [if_pos h]
      let x : State := { s with
        inFlight := s.inFlight.erase (.lineStateNotification n), alloc := { s.alloc with line := lineOf n } }
      have h1 := x.targeted_pooled_grantedAnew
      have ht := h1.1
      refine ⟨_, rfl, State.GrantedAnew.others h1 rfl rfl, congrArg (·.alloc.permitted) ht, congrArg (·.alloc.surplus) ht,
        fun _ _ => ⟨congrArg (·.alloc.line) ht, ⟨congrArg (·.alloc.target) ht, congrArg (·.alloc.beff) ht,
          congrArg (·.alloc.ramp) ht⟩, congrArg (·.alloc.pool) ht⟩, fun hno => ?_⟩
      exact absurd h (fun e => hno.elim (fun k => k e.1) (fun k => e.2 k))
    · rw [if_neg h]
      have hno : s.designated .lineState ≠ some n.slot ∨ line = a.line := by tauto
      refine ⟨_, rfl, State.GrantedAnew.others (b := a) (.refl _) rfl rfl, rfl, rfl, fun hd hl => absurd ⟨hd, hl⟩ h,
        fun _ => ⟨rfl, rfl, rfl⟩⟩
  · rw [exec_permittedPowerNotification]
    by_cases h : s.designated .permittedPower = some n.slot
    · rw [if_pos h]
      let x : State := { s with
        inFlight := s.inFlight.erase (.permittedPowerNotification n)
        alloc := { s.alloc with permitted := permittedAfter s.alloc.permitted n } }
      have h1 : State.GrantedAnew { x with alloc := x.alloc.aimed x.limitNow } x.targeted := x.targeted_grantedAnew
      have ht := h1.1
      have hp : permittedAfter a.permitted n = permitted := permittedAfter_eq _ n
      have hlim : x.limitNow = target a.line permitted := congrArg (target a.line) hp
      refine ⟨_, rfl, State.GrantedAnew.others h1 rfl rfl, congrArg (·.alloc.line) ht, congrArg (·.alloc.surplus) ht,
        congrArg (·.alloc.pool) ht, fun _ => ⟨?_, ?_, ?_, ?_⟩, fun e => absurd h e⟩
      · exact (congrArg (·.alloc.permitted) ht).trans hp
      · exact (congrArg (·.alloc.target) ht).trans hlim
      · exact (congrArg (·.alloc.beff) ht).trans (congrArg (min · a.beff) hlim)
      · exact (congrArg (·.alloc.ramp) ht).trans
          (congrArg (fun T => if T ≤ a.beff then none else some (a.ramp.getD 1000)) hlim)
    · rw [if_neg h]
      exact ⟨_, rfl, State.GrantedAnew.others (b := a) (.refl _) rfl rfl, rfl, rfl, rfl, fun e => absurd e h,
        fun _ => ⟨rfl, rfl, rfl⟩⟩
  · rw [exec_surplusNotification]
    by_cases h : s.designated .surplus = some n.slot
    · rw [if_pos h]
      let x : State := { s with
        inFlight := s.inFlight.erase (.surplusNotification n), alloc := { s.alloc with surplus := surplusAfter n } }
      obtain ⟨h1, hf⟩ := x.pooled_grantedAnew
      have ht := h1.1
      exact ⟨_, rfl, State.GrantedAnew.others h1 rfl rfl, hf, congrArg (·.alloc.line) ht, congrArg (·.alloc.permitted) ht,
        congrArg (·.alloc.target) ht, congrArg (·.alloc.beff) ht, congrArg (·.alloc.ramp) ht,
        fun _ => ⟨congrArg (·.alloc.surplus) ht, congrArg (·.alloc.pool) ht, rfl⟩, fun e => absurd h e⟩
    · rw [if_neg h]
      exact ⟨_, rfl, State.GrantedAnew.others (b := a) (.refl _) rfl rfl, rfl, rfl, rfl, rfl, rfl, rfl,
        fun e => absurd e h, fun _ => ⟨rfl, rfl⟩⟩

/-- Settles O26. -/
theorem beffRisesByTheRampAndShedsOnAFall : Obligations.BeffRisesByTheRampAndShedsOnAFall := by
  intro s
  refine ⟨?_, ?_⟩
  · intro rate b risen
    refine ⟨fun h => congrArg Host.Outcome.next (if_pos h), fun h => congrArg Host.Outcome.next ((if_neg h).trans ?_)⟩
    change (if b = s.alloc.beff then risen else risen.recompute false) = _
    rw [State.recompute_regranted]
  · intro n line permitted taken limit fallen lowered after
    have hafter : ∀ e l p, (taken e { s.alloc with line := l, permitted := p }).targeted
        = after e { s.alloc with line := l, permitted := p } := by
      intro e l p
      generalize ha : ({ s.alloc with line := l, permitted := p } : Alloc) = a
      have htarget : (taken e a).targeted = if limit a < a.beff then (fallen e a).regrantedByFall
          else taken e { a with
            target := limit a, ramp := if limit a = a.beff then none else some (a.ramp.getD 1000) } := rfl
      have hfall : (fallen e a).regrantedByFall = if s.part = .running ∧ lowered e a then
          { (fallen e a).regranted with flags := { s.flags with budgetShed := true } }
        else (fallen e a).regranted := by
        subst ha
        rfl
      have hb : a.beff = s.alloc.beff := by rw [← ha]
      have hr : a.ramp = s.alloc.ramp := by rw [← ha]
      rw [htarget, hfall]
      dsimp only [after]
      by_cases h : s.alloc.beff ≤ limit a
      · rw [if_neg (by omega), if_pos h, hb, hr]
      · rw [if_pos (by omega), if_neg h]
    refine ⟨fun hd => ?_, fun hd hl => ?_⟩
    · rw [exec_permittedPowerNotification, if_pos hd, permittedAfter_eq]
      exact congrArg _ (hafter (.permittedPowerNotification n) s.alloc.line permitted)
    · rw [exec_lineStateNotification, if_pos ⟨hd, hl⟩]
      have h := hafter (.lineStateNotification n) line s.alloc.permitted
      exact congrArg (fun t : State => Host.Outcome.next t.pooled) h

end Sys2Proof.Machine
end

section
/-! Proofs for chapter 3: the burst machine of a door, in the terms of its working record (R56 to R75). -/

namespace Sys2Proof.Machine

/-! ### Burst modes by their code -/

section
variable (w : BurstFields)

theorem BurstFields.mode_whileOpen : w.mode = some .whileOpen ↔ w.modeCode = 2 := by
  unfold BurstFields.mode BurstMode.ofCode
  split <;> simp_all

theorem BurstFields.mode_everyNth : w.mode = some .everyNth ↔ w.modeCode = 3 := by
  unfold BurstFields.mode BurstMode.ofCode
  split <;> simp_all

theorem BurstFields.mode_accumulate : w.mode = some .accumulate ↔ w.modeCode = 4 := by
  unfold BurstFields.mode BurstMode.ofCode
  split <;> simp_all

theorem BurstFields.mode_repeating : w.mode = some .repeating ↔ w.modeCode = 5 := by
  unfold BurstFields.mode BurstMode.ofCode
  split <;> simp_all

end

theorem Door.mode_of {x : Door} {w : BurstFields} (h : x.working = some w) : x.mode = w.mode := by
  simp [Door.mode, h]

theorem Door.param_of {x : Door} {w : BurstFields} (h : x.working = some w) (f : BurstFields → Nat) : x.param f = f w := by
  simp [Door.param, h]

/-! ### Postings join those made before -/

/-- A door in the course of an event, with postings made before the event. -/
def DoorRun.after (ps : List Nat) (r : DoorRun) : DoorRun := { r with posts := ps ++ r.posts }

/-- A transition posts what it posts, whatever has been posted before. -/
def Posts (f : DoorRun → DoorRun) : Prop := ∀ ps r, f (r.after ps) = (f r).after ps

theorem posts_modify (g : Door → Door) : Posts (DoorRun.modify g) := fun _ _ => rfl

theorem posts_post (q : Nat) : Posts (DoorRun.post q) := fun ps r => by
  simp [DoorRun.post, DoorRun.after]

theorem posts_leaveBurst : Posts DoorRun.leaveBurst := fun ps r => by
  unfold DoorRun.leaveBurst
  by_cases h : r.door.burst = .burst
  · rw [if_pos h, if_pos (show (r.after ps).door.burst = _ from h), posts_post 0 ps r]
  · rw [if_neg h, if_neg (show ¬ (r.after ps).door.burst = _ from h)]

theorem posts_settle : Posts DoorRun.settle := posts_modify _

theorem posts_enterBurst : Posts DoorRun.enterBurst := fun ps r =>
  posts_post (r.door.param (·.curtain)) ps (r.modify fun d => match d.mode with
    | some .repeating => { d with burst := .burst, timer := seconds d.burstSeconds, series := min 255 (d.series + 1) }
    | some .accumulate => { d with
        burst := .burst, timer := seconds d.burstSeconds, accum := 0, pv := d.param (·.n), openMs := 0 }
    | _ => { d with burst := .burst, timer := seconds d.burstSeconds })

section
variable {toIdle : DoorRun → DoorRun} (h : Posts toIdle)
include h

theorem posts_enterRecovery : Posts (DoorRun.enterRecovery toIdle) := fun ps r => by
  unfold DoorRun.enterRecovery
  dsimp only
  rw [posts_leaveBurst]
  by_cases hr : r.leaveBurst.door.param (·.recovery) = 0
  · rw [if_pos hr, if_pos (show (r.leaveBurst.after ps).door.param (·.recovery) = 0 from hr), h]
  · rw [if_neg hr, if_neg (show ¬ (r.leaveBurst.after ps).door.param (·.recovery) = 0 from hr)]
    rfl

theorem posts_endDelay : Posts (DoorRun.endDelay toIdle) := fun ps r => by
  unfold DoorRun.endDelay
  by_cases hr : r.door.mode = some .whileOpen ∧ r.door.isOpen = false
  · rw [if_pos hr, if_pos (show (r.after ps).door.mode = _ ∧ (r.after ps).door.isOpen = _ from hr), posts_enterRecovery h]
  · rw [if_neg hr, if_neg (show ¬ ((r.after ps).door.mode = _ ∧ (r.after ps).door.isOpen = _) from hr), posts_enterBurst]

theorem posts_startActivity : Posts (DoorRun.startActivity toIdle) := fun ps r => by
  unfold DoorRun.startActivity
  dsimp only
  rw [posts_modify]
  generalize DoorRun.modify _ r = q
  by_cases hr : q.door.param (·.delay) = 0
  · rw [if_pos hr, if_pos (show (q.after ps).door.param (·.delay) = 0 from hr), posts_endDelay h]
  · rw [if_neg hr, if_neg (show ¬ (q.after ps).door.param (·.delay) = 0 from hr)]
    rfl

theorem posts_idleTrigger (group : Bool) : Posts (DoorRun.idleTrigger group toIdle) := fun ps r => by
  unfold DoorRun.idleTrigger
  rw [show (r.after ps).door = r.door from rfl, posts_startActivity h]
  split
  · rfl
  · split
    · split
      · rfl
      · rw [posts_modify, posts_startActivity h]
    · rfl

theorem posts_idleWith (group : Bool) : Posts (DoorRun.idleWith group toIdle) := fun ps r => by
  unfold DoorRun.idleWith
  dsimp only
  rw [posts_settle]
  generalize r.settle = q
  rw [show (q.after ps).door = q.door from rfl]
  split
  · rw [posts_modify, posts_idleTrigger h]
  · rfl

end

theorem posts_enterIdle (group : Bool) : Posts (DoorRun.enterIdle group) := posts_idleWith posts_settle group

/-! ### The burst machine on a door with a working record -/

/-- A door as it enters BURST, by the mode of its working record (R68, R69, R72). -/
def Door.bursting (w : BurstFields) (x : Door) : Door :=
  if w.modeCode = 4 then
    { x with
      burst := .burst, timer := some (1000 * max 1 (min w.tmax (x.accum * w.gain / 16)))
      accum := 0, pv := w.n, openMs := 0 }
  else if w.modeCode = 5 then { x with burst := .burst, timer := some (1000 * w.tb), series := min 255 (x.series + 1) }
  else { x with burst := .burst, timer := some (1000 * (if w.modeCode = 2 then w.tmax else w.tb)) }

/-- A door whose activity starts: EVERY_NTH reloads PV, REPEAT begins a series (R66). -/
def Door.starting (w : BurstFields) (x : Door) : Door :=
  if w.modeCode = 3 then { x with pv := w.n }
  else if w.modeCode = 5 then { x with series := 0, ending := false } else x

/-- A door in RECOVERY (R74). -/
def Door.recovering (w : BurstFields) (x : Door) : Door := { x with burst := .recovery, timer := some (1000 * w.recovery) }

/-- A door in DELAY (R66). -/
def Door.delaying (w : BurstFields) (x : Door) : Door := { x with burst := .delay, timer := some (1000 * w.delay) }

theorem DoorRun.leaveBurst_of (x : Door) (ps : List Nat) (dr : Bool) :
    DoorRun.leaveBurst ⟨x, ps, dr⟩ = ⟨x, ps ++ (if x.burst = .burst then [0] else []), dr⟩ := by
  unfold DoorRun.leaveBurst
  by_cases h : x.burst = .burst <;> simp [h, DoorRun.post]

theorem DoorRun.idleTrigger_masked {x : Door} (ps : List Nat) (dr : Bool) {group : Bool} (hm : x.masked group = true) (toIdle : DoorRun → DoorRun) :
    DoorRun.idleTrigger group toIdle ⟨x, ps, dr⟩ = ⟨{ x with latch := true }, ps, dr⟩ := if_pos hm

section
variable {x : Door} {w : BurstFields} (hw : x.working = some w) (ps : List Nat) (dr : Bool)
include hw

theorem DoorRun.enterBurst_of : DoorRun.enterBurst ⟨x, ps, dr⟩ = ⟨x.bursting w, ps ++ [w.curtain], dr⟩ := by
  have hmode := x.mode_of hw
  unfold DoorRun.enterBurst Door.bursting Door.burstSeconds Door.burstLength
  simp only [hmode, x.param_of hw, BurstFields.mode]
  generalize w.modeCode = m
  rcases m with _ | _ | _ | _ | _ | _ | m <;> simp [BurstMode.ofCode, DoorRun.post, DoorRun.modify, seconds]

theorem DoorRun.enterRecovery_of (toIdle : DoorRun → DoorRun) : DoorRun.enterRecovery toIdle ⟨x, ps, dr⟩
    = if w.recovery = 0 then toIdle ⟨x, ps ++ (if x.burst = .burst then [0] else []), dr⟩
      else ⟨x.recovering w, ps ++ (if x.burst = .burst then [0] else []), dr⟩ := by
  unfold DoorRun.enterRecovery
  dsimp only
  rw [DoorRun.leaveBurst_of]
  simp only [x.param_of hw]
  split
  · rfl
  · simp [DoorRun.modify, Door.recovering, x.param_of hw, seconds]

theorem DoorRun.endDelay_of (toIdle : DoorRun → DoorRun) : DoorRun.endDelay toIdle ⟨x, ps, dr⟩
    = if w.modeCode = 2 ∧ x.isOpen = false then DoorRun.enterRecovery toIdle ⟨x, ps, dr⟩
      else ⟨x.bursting w, ps ++ [w.curtain], dr⟩ := by
  unfold DoorRun.endDelay
  rw [DoorRun.enterBurst_of hw]
  simp only [x.mode_of hw, w.mode_whileOpen]

theorem DoorRun.startActivity_of (toIdle : DoorRun → DoorRun) : DoorRun.startActivity toIdle ⟨x, ps, dr⟩
    = (let y := if w.modeCode = 5 then { x with series := 0, ending := false } else x
      if w.delay = 0 then DoorRun.endDelay toIdle ⟨y, ps, dr⟩ else ⟨y.delaying w, ps, dr⟩) := by
  have hd : ∀ y : Door, y.working = some w → (if y.param (·.delay) = 0 then DoorRun.endDelay toIdle ⟨y, ps, dr⟩
      else DoorRun.modify (fun d => { d with burst := .delay, timer := seconds (d.param (·.delay)) }) ⟨y, ps, dr⟩)
      = if w.delay = 0 then DoorRun.endDelay toIdle ⟨y, ps, dr⟩ else ⟨y.delaying w, ps, dr⟩ := by
    intro y hy
    simp only [y.param_of hy, DoorRun.modify, Door.delaying, seconds]
  unfold DoorRun.startActivity
  simp only [DoorRun.modify, x.mode_of hw, w.mode_repeating]
  exact hd _ (by split <;> exact hw)

theorem DoorRun.idleTrigger_counts {group : Bool} (hm : x.masked group = false) (hc : w.modeCode = 3) (hp : 1 < x.pv)
    (toIdle : DoorRun → DoorRun) :
    DoorRun.idleTrigger group toIdle ⟨x, ps, dr⟩ = ⟨{ x with pv := x.pv - 1 }, ps, dr⟩ := by
  unfold DoorRun.idleTrigger
  rw [if_neg (by simp [hm]), if_pos ((x.mode_of hw).trans (w.mode_everyNth.mpr hc)), if_pos hp]
  rfl

theorem DoorRun.idleTrigger_starts {group : Bool} (hm : x.masked group = false) (hc : w.modeCode ≠ 3 ∨ x.pv ≤ 1)
    (toIdle : DoorRun → DoorRun) : DoorRun.idleTrigger group toIdle ⟨x, ps, dr⟩
    = if w.delay = 0 then DoorRun.endDelay toIdle ⟨x.starting w, ps, dr⟩ else ⟨(x.starting w).delaying w, ps, dr⟩ := by
  unfold DoorRun.idleTrigger Door.starting
  rw [if_neg (by simp [hm])]
  by_cases h3 : w.modeCode = 3
  · have hp : ¬ 1 < x.pv := by omega
    rw [if_pos ((x.mode_of hw).trans (w.mode_everyNth.mpr h3)), if_neg hp, if_pos h3]
    simp only [DoorRun.modify, x.param_of hw]
    have h5 : ¬ w.modeCode = 5 := by omega
    rw [DoorRun.startActivity_of (w := w) (by exact hw)]
    simp only [if_neg h5]
  · rw [if_neg (fun e => h3 (w.mode_everyNth.mp ((x.mode_of hw).symm.trans e))), if_neg h3,
      DoorRun.startActivity_of hw]

end

/-! ### The entry to IDLE -/

/-- A door in IDLE, its staged record installed (R75 step 1). -/
def Door.settled (w : BurstFields) (x : Door) : Door := { x with
  burst := .idle, timer := none, working := some (x.staged.getD w), staged := none
  pv := if x.staged ≠ none ∧ ((x.staged.getD w).modeCode = 3 ∨ (x.staged.getD w).modeCode = 4) then (x.staged.getD w).n
    else x.pv }

theorem countsPv_iff (w : BurstFields) : countsPv w.mode = true ↔ w.modeCode = 3 ∨ w.modeCode = 4 := by
  simp [countsPv, w.mode_everyNth, w.mode_accumulate]

theorem DoorRun.settle_of {x : Door} {w : BurstFields} (hw : x.working = some w) (ps : List Nat) (dr : Bool) :
    DoorRun.settle ⟨x, ps, dr⟩ = ⟨x.settled w, ps, dr⟩ := by
  unfold DoorRun.settle DoorRun.modify Door.install Door.settled
  cases hs : x.staged with
  | none => simp [hs, hw]
  | some b => simp [hs, countsPv_iff]

theorem Door.masked_iff (x : Door) (group : Bool) :
    x.masked group = true ↔ x.serviceMask = true ∨ x.overrideMask = true ∨ group = true := by
  simp [Door.masked, or_assoc]

theorem Door.settled_of_burst (x : Door) (w : BurstFields) (b : BurstState) (t : Timer) :
    ({ x with burst := b, timer := t } : Door).settled w = x.settled w := rfl

theorem DoorRun.enterIdle_of_burst (x : Door) (ps : List Nat) (dr group : Bool) (b : BurstState) (t : Timer) :
    DoorRun.enterIdle group ⟨{ x with burst := b, timer := t }, ps, dr⟩ = DoorRun.enterIdle group ⟨x, ps, dr⟩ := rfl

section
variable {x : Door} {w : BurstFields} (hw : x.working = some w) (ps : List Nat) (dr : Bool)
include hw

theorem DoorRun.idleWith_rests {group : Bool} (h : x.latch = false ∨ x.masked group = true) (again : DoorRun → DoorRun) :
    DoorRun.idleWith group again ⟨x, ps, dr⟩ = ⟨x.settled w, ps, dr⟩ := by
  unfold DoorRun.idleWith
  rw [DoorRun.settle_of hw]
  refine if_neg fun e => ?_
  have he : (x.latch && !x.masked group) = true := e
  rcases h with h | h <;> simp [h] at he

theorem DoorRun.idleWith_latched {group : Bool} (hl : x.latch = true) (hm : x.masked group = false)
    (again : DoorRun → DoorRun) : DoorRun.idleWith group again ⟨x, ps, dr⟩
    = DoorRun.idleTrigger group again ⟨{ x.settled w with latch := false }, ps, dr⟩ := by
  unfold DoorRun.idleWith
  rw [DoorRun.settle_of hw]
  have he : (x.latch && !x.masked group) = true := by simp [hl, hm]
  exact if_pos he

/-- A delay that ends at its start ends as one that its timer ends: the burst state and the timer do not matter, nor, once
the latch is clear, which of the two entries to IDLE takes the door there. -/
theorem DoorRun.endDelay_unlatched (group : Bool) (hl : x.latch = false) :
    DoorRun.endDelay DoorRun.settle ⟨x, ps, dr⟩ = DoorRun.endDelay (DoorRun.enterIdle group) ⟨x, ps, dr⟩ := by
  rw [DoorRun.endDelay_of hw, DoorRun.endDelay_of hw, DoorRun.enterRecovery_of hw, DoorRun.enterRecovery_of hw,
    DoorRun.settle_of hw, DoorRun.enterIdle, DoorRun.idleWith_rests hw _ _ (Or.inl hl)]

theorem DoorRun.endDelay_of_burst (group : Bool) (hb : x.burst ≠ .burst) (t : Timer) :
    DoorRun.endDelay (DoorRun.enterIdle group) ⟨{ x with burst := .delay, timer := t }, ps, dr⟩
      = DoorRun.endDelay (DoorRun.enterIdle group) ⟨x, ps, dr⟩ := by
  have hw' : ({ x with burst := .delay, timer := t } : Door).working = some w := hw
  rw [DoorRun.endDelay_of hw, DoorRun.endDelay_of hw', DoorRun.enterRecovery_of hw, DoorRun.enterRecovery_of hw',
    if_neg hb, if_neg (nofun : ¬ BurstState.delay = .burst)]
  unfold Door.bursting
  rfl

end

/-! ### The state after a door's event -/

/-- The part with door d as x, and the requests posted for its claimant. -/
def State.doorAt (s : State) (d : Fin 8) (x : Door) (posts : List Nat) : State := { s with
  doors := s.doors.set d x, inFlight := s.inFlight ++ posts.map fun q => .claimPosting (curtainClaim d) q }

theorem State.finishDoor_quiet (s : State) (d : Fin 8) (x : Door) (posts : List Nat) :
    s.finishDoor d ⟨x, posts, false⟩ = s.doorAt d x posts := rfl

theorem State.doorAt_nil (s : State) (d : Fin 8) (x : Door) : s.doorAt d x [] = { s with doors := s.doors.set d x } := by
  simp [State.doorAt]

theorem State.doorAt_self (s : State) (d : Fin 8) : s.doorAt d s.doors[d] [] = s := by
  have h : s.doors.set d s.doors[d] = s.doors := Vector.set_getElem_self _
  rw [State.doorAt_nil, h]

theorem State.finishDoor_drop (s : State) (d : Fin 8) (x : Door) :
    s.finishDoor d ⟨x, [], true⟩ = { s with doors := s.doors.set d x, flags := { s.flags with doorDropped := true } } := by
  unfold State.finishDoor State.setDoor State.emit
  rw [List.map_nil, List.append_nil]
  rfl

/-- A further transition of a door whose event has not yet ended. -/
theorem State.runDoor_doorAt (s : State) (d : Fin 8) (x : Door) (posts : List Nat) (f : DoorView → DoorRun → DoorRun) :
    (s.doorAt d x posts).runDoor d f = s.finishDoor d ((f (s.doorView d) ⟨x, [], false⟩).after posts) := by
  have hd : (s.doorAt d x posts).doors[d] = x := Vector.getElem_set_self _
  unfold State.runDoor
  rw [hd, show (s.doorAt d x posts).doorView d = s.doorView d from rfl]
  generalize f (s.doorView d) ⟨x, [], false⟩ = r
  unfold State.finishDoor State.setDoor State.emit State.doorAt DoorRun.after
  dsimp only
  rw [Vector.set_set, List.map_append, List.append_assoc]

theorem State.doorView_active (s : State) (d : Fin 8) :
    (s.doorView d).active = true ↔ s.part = .running ∧ (s.doorRow d).used = true := by
  simp [State.doorView]

end Sys2Proof.Machine
end

section
/-! Proofs for chapter 3: the events at a door (R58 to R75). -/

namespace Sys2Proof.Machine

/-! ### The debounce -/

theorem slotOfCode_eq_some {n : Nat} {i : Fin 64} (h : n = i.val) : slotOfCode n = some i := by
  subst h
  simp [slotOfCode]

theorem exec_doorStateNotification {s : State} {d : Fin 8} {n : SlotNote} (hu : (s.doorRow d).used = true)
    (hn : (s.doorRow d).stateSlot = n.slot.val) : exec (.doorStateNotification d n) s
    = .next ((s.take (.doorStateNotification d n)).doorNote d n) :=
  congrArg Host.Outcome.next (if_pos ⟨hu, slotOfCode_eq_some hn⟩)

theorem State.doorNote_report {s : State} {d : Fin 8} {n : SlotNote} (h : n.status = .fresh ∨ n.status = .substituted) :
    s.doorNote d n = s.runDoor d fun v r => r.report v (s.doorRow d).debounce (n.value != 0) := by
  unfold State.doorNote
  obtain h | h := h <;> rw [h]

theorem State.runDoor_accept (s : State) (d : Fin 8) (x : Door) (isOpen : Bool) (t : Timer) (ht : t ≠ none) :
    (s.doorAt d { x with candidate := some isOpen, debounce := t } []).runDoor d DoorRun.debounceExpiry
      = s.finishDoor d (DoorRun.accept (s.doorView d) isOpen ⟨x, [], false⟩) := by
  rw [s.runDoor_doorAt d _ [] DoorRun.debounceExpiry]
  obtain ⟨n, rfl⟩ := Option.ne_none_iff_exists'.mp ht
  rfl

/-- Settles O27. -/
theorem doorReportsAreDebounced : Obligations.DoorReportsAreDebounced := by
  intro s d n hu hn x reported e taken leaves
  have hexec : exec e s = .next (taken.doorNote d n) := exec_doorStateNotification hu hn
  refine ⟨fun h => ?_, fun h => ?_, fun h => ?_⟩
  · rw [State.doorNote_report h] at hexec
    have hrun : exec e s = .next (taken.finishDoor d
        (DoorRun.report (taken.doorView d) (s.doorRow d).debounce (n.value != 0) ⟨x, [], false⟩)) := hexec
    have hrep : (n.value != 0) = reported := by
      simp [reported, bne, BEq.beq]
    rw [hrep] at hrun
    have hleaves : ∀ y, DoorRun.report (taken.doorView d) (s.doorRow d).debounce reported ⟨x, [], false⟩ = ⟨y, [], false⟩ →
        leaves y := by
      intro y hy
      rw [hy, State.finishDoor_quiet, State.doorAt_nil] at hrun
      exact hrun
    refine ⟨fun ha => hleaves _ (if_pos ha), fun ha hc => hleaves _ ((if_neg ha).trans (if_pos hc)), fun ha hc hd => ?_,
      fun ha hc hd => ?_⟩
    · exact hleaves _ ((if_neg ha).trans ((if_neg (not_not.mpr hc)).trans (if_neg hd)))
    · have haccept : DoorRun.report (taken.doorView d) (s.doorRow d).debounce reported ⟨x, [], false⟩
          = DoorRun.accept (taken.doorView d) reported ⟨x, [], false⟩ :=
        (if_neg ha).trans ((if_neg (not_not.mpr hc)).trans (if_pos hd))
      rw [hrun, haccept, ← taken.runDoor_accept d x reported (some 0) nofun, State.doorAt_nil]
      rfl
  · refine hexec.trans ?_
    unfold State.doorNote
    rw [h]
    rfl
  · rw [hexec]
    unfold State.doorNote
    rw [h]

/-! ### Door events -/

theorem exec_debounceExpiry {s : State} {d : Fin 8} {isOpen : Bool} (h : s.doors[d].debounce ≠ none)
    (hc : s.doors[d].candidate = some isOpen) : exec (.debounceExpiry d) s
    = .next (s.finishDoor d (DoorRun.accept (s.doorView d) isOpen ⟨s.doors[d], [], false⟩)) := by
  obtain ⟨n, hn⟩ := Option.ne_none_iff_exists'.mp h
  change Host.Outcome.next (s.finishDoor d (DoorRun.debounceExpiry (s.doorView d) ⟨s.doors[d], [], false⟩)) = _
  unfold DoorRun.debounceExpiry
  rw [hn, hc]

theorem not_masked {x : Door} {group : Bool}
    (h : ¬ (x.serviceMask = true ∨ x.overrideMask = true ∨ group = true)) : x.masked group = false :=
  Bool.eq_false_iff.mpr (mt (x.masked_iff group).mp h)

section
variable {x : Door} {w : BurstFields} (hw : x.working = some w)

theorem DoorRun.opened_still {v : DoorView} (h : v.active = false) : DoorRun.opened v ⟨x, [], false⟩ = ⟨x, [], false⟩ := by
  unfold DoorRun.opened
  rw [h]
  rfl

theorem DoorRun.trigger_recovery (h : x.burst = .recovery) (group : Bool) :
    DoorRun.trigger group ⟨x, [], false⟩ = ⟨{ x with latch := true }, [], false⟩ := by
  cases x
  subst h
  rfl

theorem DoorRun.trigger_idle (h : x.burst = .idle) (group : Bool) :
    DoorRun.trigger group ⟨x, [], false⟩ = DoorRun.idleTrigger group (DoorRun.enterIdle group) ⟨x, [], false⟩ := by
  unfold DoorRun.trigger
  rw [h]

theorem DoorRun.trigger_drops (h : x.burst = .delay ∨ x.burst = .burst ∨ x.burst = .gap) (group : Bool) :
    DoorRun.trigger group ⟨x, [], false⟩ = ⟨{ x with dropped := min 255 (x.dropped + 1) }, [], true⟩ := by
  cases x
  rcases h with h | h | h <;> subst h <;> rfl

include hw

theorem DoorRun.opened_accumulate {v : DoorView} (h : v.active = true) (hm : w.modeCode = 4) :
    DoorRun.opened v ⟨x, [], false⟩ = ⟨{ x with openMs := 0 }, [], false⟩ := by
  unfold DoorRun.opened
  rw [if_pos h]
  exact if_pos ((Door.mode_of hw).trans (w.mode_accumulate.mpr hm))

theorem DoorRun.opened_triggers {v : DoorView} (h : v.active = true) (hm : w.modeCode ≠ 4) :
    DoorRun.opened v ⟨x, [], false⟩ = DoorRun.trigger v.group ⟨{ x with openMs := 0 }, [], false⟩ := by
  unfold DoorRun.opened
  rw [if_pos h]
  exact if_neg fun e => hm (w.mode_accumulate.mp ((Door.mode_of hw).symm.trans e))

end

theorem Door.starting_keeps (x : Door) (w : BurstFields) : (x.starting w).working = x.working
    ∧ (x.starting w).isOpen = x.isOpen ∧ (x.starting w).latch = x.latch ∧ (x.starting w).burst = x.burst := by
  unfold Door.starting
  split
  · exact ⟨rfl, rfl, rfl, rfl⟩
  · split <;> exact ⟨rfl, rfl, rfl, rfl⟩

/-- Settles O28. -/
theorem openedEventAtADoor : Obligations.OpenedEventAtADoor := by
  intro s d w hb hc hw x shut y masked runs leaves started
  have hexec := exec_debounceExpiry hb hc
  have hshut : shut.working = some w := hw
  have hy : y.working = some w := hw
  have hruns : (s.doorView d).active = true ↔ runs := s.doorView_active d
  have haccept : DoorRun.accept (s.doorView d) true ⟨x, [], false⟩ = DoorRun.opened (s.doorView d) ⟨shut, [], false⟩ := rfl
  rw [haccept] at hexec
  have hleaves : ∀ z, DoorRun.opened (s.doorView d) ⟨shut, [], false⟩ = ⟨z, [], false⟩ → leaves z := by
    intro z hz
    rw [hz, State.finishDoor_quiet, State.doorAt_nil] at hexec
    exact hexec
  refine ⟨fun hr => ?_, fun hr hm => ?_, fun hr hm => ?_⟩
  · exact hleaves _ (DoorRun.opened_still (Bool.eq_false_iff.mpr (mt hruns.mp hr)))
  · exact hleaves _ (DoorRun.opened_accumulate hshut (hruns.mpr hr) hm)
  · have htrig := DoorRun.opened_triggers hshut (hruns.mpr hr) hm
    have hidle : x.burst = .idle → DoorRun.opened (s.doorView d) ⟨shut, [], false⟩
        = DoorRun.idleTrigger s.groupMask (DoorRun.enterIdle s.groupMask) ⟨y, [], false⟩ :=
      fun h => htrig.trans (DoorRun.trigger_idle (x := y) h _)
    have hstarted : y.starting w = started := rfl
    refine ⟨fun h hk => ?_, fun h hk h3 hp => ?_, fun h hk h3 hd => ?_, fun h hk h3 hd => ?_, fun h => ?_, fun h => ?_⟩
    · exact hleaves _ ((hidle h).trans (DoorRun.idleTrigger_masked _ _ ((y.masked_iff _).mpr hk) _))
    · exact hleaves _ ((hidle h).trans (DoorRun.idleTrigger_counts hy _ _ (not_masked hk) h3 hp _))
    · refine hleaves _ ((hidle h).trans ((DoorRun.idleTrigger_starts hy _ _ (not_masked hk) h3 _).trans (if_neg hd)))
    · have hgo : (y.starting w).working = some w := (Door.starting_keeps y w).1.trans hw
      have hopen : ¬ (w.modeCode = 2 ∧ (y.starting w).isOpen = false) := fun e =>
        nomatch (Door.starting_keeps y w).2.1.symm.trans e.2
      have hburst : (y.starting w).bursting w = { started with
          burst := .burst
          timer := some (1000 * (if w.modeCode = 2 then w.tmax else w.tb))
          series := if w.modeCode = 5 then 1 else x.series } := by
        rw [hstarted]
        unfold Door.bursting
        rw [if_neg hm]
        by_cases h5 : w.modeCode = 5
        · simp [started, h5]
        · have hs : started.series = x.series := by
            dsimp only [started]
            rw [if_neg h5]
            split <;> rfl
          rw [if_neg h5, if_neg h5, ← hs]
      rw [hexec, hidle h, DoorRun.idleTrigger_starts hy _ _ (not_masked hk) h3, if_pos hd, DoorRun.endDelay_of hgo,
        if_neg hopen, hburst]
      rfl
    · exact hleaves _ (htrig.trans (DoorRun.trigger_recovery (x := y) h _))
    · rw [hexec, htrig, DoorRun.trigger_drops (x := y) h, State.finishDoor_drop]

/-- A door whose current open time joins the accumulator (R61). -/
def Door.banked (x : Door) : Door := { x with accum := min 65535 (x.accum + x.openMs / 1000), openMs := 0 }

theorem DoorRun.closed_still {x : Door} {v : DoorView} (h : v.active = false) :
    DoorRun.closed v ⟨x, [], false⟩ = ⟨x, [], false⟩ := by
  unfold DoorRun.closed
  rw [h]
  rfl

section
variable {x : Door} {w : BurstFields} (hw : x.working = some w) {v : DoorView} (h : v.active = true)
include hw h

theorem DoorRun.closed_banks (hm : w.modeCode = 1 ∨ w.modeCode = 3) :
    DoorRun.closed v ⟨x, [], false⟩ = ⟨x.banked, [], false⟩ := by
  have hmode : x.banked.mode = some .standard ∨ x.banked.mode = some .everyNth := by
    refine hm.imp (fun e => ?_) fun e => (Door.mode_of (x := x.banked) hw).trans (w.mode_everyNth.mpr e)
    rw [Door.mode_of (x := x.banked) hw, BurstFields.mode, e]
    rfl
  unfold DoorRun.closed
  rw [if_pos h]
  change (match x.banked.mode with
    | some .accumulate => _
    | some .whileOpen => _
    | some .repeating => _
    | _ => (⟨x.banked, [], false⟩ : DoorRun)) = _
  rcases hmode with e | e <;> rw [e]

theorem DoorRun.closed_whileOpen (hm : w.modeCode = 2) : DoorRun.closed v ⟨x, [], false⟩
    = if x.burst = .burst then DoorRun.enterRecovery (DoorRun.enterIdle v.group) ⟨x.banked, [], false⟩
      else ⟨x.banked, [], false⟩ := by
  have hmode := (Door.mode_of (x := x.banked) hw).trans (w.mode_whileOpen.mpr hm)
  unfold DoorRun.closed
  rw [if_pos h]
  change (match x.banked.mode with
    | some .accumulate => _
    | some .whileOpen => _
    | some .repeating => _
    | _ => (⟨x.banked, [], false⟩ : DoorRun)) = _
  rw [hmode]
  rfl

theorem DoorRun.closed_repeating (hm : w.modeCode = 5) : DoorRun.closed v ⟨x, [], false⟩
    = ⟨{ x.banked with ending := if x.burst = .burst ∨ x.burst = .gap then true else x.ending }, [], false⟩ := by
  have hmode := (Door.mode_of (x := x.banked) hw).trans (w.mode_repeating.mpr hm)
  unfold DoorRun.closed
  rw [if_pos h]
  change (match x.banked.mode with
    | some .accumulate => _
    | some .whileOpen => _
    | some .repeating => _
    | _ => (⟨x.banked, [], false⟩ : DoorRun)) = _
  rw [hmode]
  by_cases hb : x.burst = .burst ∨ x.burst = .gap
  · rw [if_pos hb]
    exact if_pos hb
  · rw [if_neg hb]
    exact if_neg hb

theorem DoorRun.closed_accumulate (hm : w.modeCode = 4) : DoorRun.closed v ⟨x, [], false⟩
    = if 1 < x.pv then ⟨{ x.banked with pv := x.pv - 1 }, [], false⟩
      else DoorRun.trigger v.group ⟨{ x.banked with pv := w.n }, [], false⟩ := by
  have hmode := (Door.mode_of (x := x.banked) hw).trans (w.mode_accumulate.mpr hm)
  have hn := Door.param_of (x := x.banked) hw (·.n)
  unfold DoorRun.closed
  rw [if_pos h]
  change (match x.banked.mode with
    | some .accumulate => if 1 < x.pv then (⟨{ x.banked with pv := x.pv - 1 }, [], false⟩ : DoorRun)
        else DoorRun.trigger v.group ⟨{ x.banked with pv := x.banked.param (·.n) }, [], false⟩
    | some .whileOpen => _
    | some .repeating => _
    | _ => (⟨x.banked, [], false⟩ : DoorRun)) = _
  rw [hmode, hn]

end

theorem exec_recoveryExpiry_doorAt (s : State) (d : Fin 8) (x : Door) (posts : List Nat) :
    exec (.recoveryExpiry d) (s.doorAt d { x with burst := .recovery, timer := some 0 } posts)
      = .next (s.finishDoor d (DoorRun.enterIdle s.groupMask ⟨x, posts, false⟩)) := by
  have h := posts_enterIdle s.groupMask posts ⟨x, [], false⟩
  refine congrArg Host.Outcome.next ((s.runDoor_doorAt d _ posts _).trans ?_)
  refine congrArg (s.finishDoor d) (Eq.trans ?_ (h.symm.trans ?_))
  · rfl
  · simp [DoorRun.after]

theorem exec_delayExpiry_doorAt (s : State) (d : Fin 8) {x : Door} {w : BurstFields} (hw : x.working = some w)
    (hb : x.burst ≠ .burst) : exec (.delayExpiry d) (s.doorAt d { x with burst := .delay, timer := some 0 } [])
      = .next (s.finishDoor d (DoorRun.endDelay (DoorRun.enterIdle s.groupMask) ⟨x, [], false⟩)) := by
  refine congrArg Host.Outcome.next ((s.runDoor_doorAt d _ [] _).trans (congrArg (s.finishDoor d) ?_))
  exact DoorRun.endDelay_of_burst hw [] false s.groupMask hb (some 0)

/-- Settles O29. -/
theorem closedEventAtADoor : Obligations.ClosedEventAtADoor := by
  intro s d w hb hc hw x shut y masked runs leaves
  have hexec := exec_debounceExpiry hb hc
  have hshut : shut.working = some w := hw
  have hruns : (s.doorView d).active = true ↔ runs := s.doorView_active d
  have haccept : DoorRun.accept (s.doorView d) false ⟨x, [], false⟩ = DoorRun.closed (s.doorView d) ⟨shut, [], false⟩ := rfl
  rw [haccept] at hexec
  have hleaves : ∀ z, DoorRun.closed (s.doorView d) ⟨shut, [], false⟩ = ⟨z, [], false⟩ → leaves z := by
    intro z hz
    rw [hz, State.finishDoor_quiet, State.doorAt_nil] at hexec
    exact hexec
  have hrest : runs → w.modeCode = 2 → x.burst = .burst → DoorRun.closed (s.doorView d) ⟨shut, [], false⟩
      = if w.recovery = 0 then DoorRun.enterIdle s.groupMask ⟨y, [0], false⟩ else ⟨y.recovering w, [0], false⟩ := by
    intro hr hm hx
    have hbk : shut.banked.working = some w := hw
    have hburst : shut.banked.burst = .burst := hx
    rw [DoorRun.closed_whileOpen hshut (hruns.mpr hr) hm, if_pos (show shut.burst = .burst from hx),
      DoorRun.enterRecovery_of hbk, if_pos hburst]
    rfl
  refine ⟨fun hr => ?_, fun hr hm => ?_, fun hr hm hx => ?_, fun hr hm hx h0 => ?_, fun hr hm hx h0 => ?_, fun hr hm => ?_,
    fun hr hm hp => ?_, fun hr hm hp => ?_⟩
  · exact hleaves _ (DoorRun.closed_still (Bool.eq_false_iff.mpr (mt hruns.mp hr)))
  · exact hleaves _ (DoorRun.closed_banks hshut (hruns.mpr hr) hm)
  · exact hleaves _ ((DoorRun.closed_whileOpen hshut (hruns.mpr hr) hm).trans (if_neg hx))
  · rw [hexec, hrest hr hm hx, if_neg h0]
    rfl
  · rw [hexec, hrest hr hm hx, if_pos h0]
    exact (exec_recoveryExpiry_doorAt s d y [0]).symm
  · exact hleaves _ (DoorRun.closed_repeating hshut (hruns.mpr hr) hm)
  · exact hleaves _ ((DoorRun.closed_accumulate hshut (hruns.mpr hr) hm).trans (if_pos hp))
  · have htrig := (DoorRun.closed_accumulate hshut (hruns.mpr hr) hm).trans (if_neg (Nat.not_lt.mpr hp))
    let z : Door := { y with pv := w.n }
    have hz : z.working = some w := hw
    have hidle : x.burst = .idle → DoorRun.closed (s.doorView d) ⟨shut, [], false⟩
        = DoorRun.idleTrigger s.groupMask (DoorRun.enterIdle s.groupMask) ⟨z, [], false⟩ :=
      fun h => htrig.trans (DoorRun.trigger_idle (x := z) h _)
    have hnot3 : w.modeCode ≠ 3 ∨ z.pv ≤ 1 := Or.inl (by omega)
    have hstart : z.starting w = z := by
      unfold Door.starting
      rw [if_neg (by omega), if_neg (by omega)]
    refine ⟨fun h hk => ?_, fun h hk hd => ?_, fun h hk hd => ?_, fun h => ?_, fun h => ?_⟩
    · exact hleaves _ ((hidle h).trans (DoorRun.idleTrigger_masked _ _ ((z.masked_iff _).mpr hk) _))
    · refine hleaves _ ((hidle h).trans ((DoorRun.idleTrigger_starts hz _ _ (not_masked hk) hnot3 _).trans ?_))
      rw [if_neg hd, hstart]
      rfl
    · have hnb : z.burst ≠ .burst := by
        rw [show z.burst = .idle from h]
        nofun
      rw [hexec, hidle h, DoorRun.idleTrigger_starts hz _ _ (not_masked hk) hnot3, if_pos hd, hstart,
        ← exec_delayExpiry_doorAt s d hz hnb, State.doorAt_nil]
    · exact hleaves _ (htrig.trans (DoorRun.trigger_recovery (x := z) h _))
    · rw [hexec, htrig.trans (DoorRun.trigger_drops (x := z) (h.imp_right Or.inl) _), State.finishDoor_drop]

/-! ### The door timer -/

theorem DoorRun.timerExpiry_of {x : Door} (ht : x.timer ≠ none) {b : BurstState} (hb : x.burst = b)
    (f : DoorRun → DoorRun) : DoorRun.timerExpiry b f ⟨x, [], false⟩ = f ⟨x, [], false⟩ := if_pos ⟨ht, hb⟩

theorem State.runDoor_misfit (s : State) (d : Fin 8) {b : BurstState} (hb : s.doors[d].burst ≠ b)
    (g : DoorView → DoorRun → DoorRun) : s.runDoor d (fun v r => r.timerExpiry b (g v)) = s := by
  have h : DoorRun.timerExpiry b (g (s.doorView d)) ⟨s.doors[d], [], false⟩ = ⟨s.doors[d], [], false⟩ :=
    if_neg fun e => hb e.2
  unfold State.runDoor
  dsimp only
  rw [h, State.finishDoor_quiet, State.doorAt_self]

theorem Door.seriesGoesOn_iff {x : Door} {w : BurstFields} (hw : x.working = some w) : x.seriesGoesOn = true ↔
    x.isOpen = true ∧ x.ending = false ∧ x.staged = none ∧ (w.n = 0 ∨ x.series < w.n) := by
  simp [Door.seriesGoesOn, Door.param_of hw, and_assoc]

theorem Door.starting_eq (x : Door) (w : BurstFields) : x.starting w = { x with
    pv := if w.modeCode = 3 then w.n else x.pv
    series := if w.modeCode = 5 then 0 else x.series
    ending := if w.modeCode = 5 then false else x.ending } := by
  unfold Door.starting
  by_cases h3 : w.modeCode = 3
  · have h5 : ¬ w.modeCode = 5 := by omega
    rw [if_pos h3, if_pos h3, if_neg h5, if_neg h5]
  · by_cases h5 : w.modeCode = 5
    · rw [if_neg h3, if_neg h3, if_pos h5, if_pos h5, if_pos h5]
    · rw [if_neg h3, if_neg h3, if_neg h5, if_neg h5, if_neg h5]

section
variable {w : BurstFields} (x : Door)

theorem Door.bursting_plain (h : w.modeCode = 1 ∨ w.modeCode = 3) :
    x.bursting w = { x with burst := .burst, timer := some (1000 * w.tb) } := by
  unfold Door.bursting
  rw [if_neg (by omega), if_neg (by omega), if_neg (by omega)]

theorem Door.bursting_whileOpen (h : w.modeCode = 2) :
    x.bursting w = { x with burst := .burst, timer := some (1000 * w.tmax) } := by
  unfold Door.bursting
  rw [if_neg (by omega), if_neg (by omega), if_pos h]

theorem Door.bursting_repeating (h : w.modeCode = 5) : x.bursting w
    = { x with burst := .burst, timer := some (1000 * w.tb), series := min 255 (x.series + 1) } := by
  unfold Door.bursting
  rw [if_neg (by omega), if_pos h]

theorem Door.bursting_accumulate (h : w.modeCode = 4) : x.bursting w = { x with
    burst := .burst, timer := some (1000 * max 1 (min w.tmax (x.accum * w.gain / 16)))
    accum := 0, pv := w.n, openMs := 0 } := if_pos h

end

section
variable {x : Door} {w : BurstFields} (hw : x.working = some w) (v : DoorView)
include hw

theorem DoorRun.endBurst_repeats (hb : x.burst = .burst) (hm : w.modeCode = 5) :
    DoorRun.endBurst v ⟨x, [], false⟩ = ⟨{ x with burst := .gap, timer := some (1000 * w.gap) }, [0], false⟩ := by
  unfold DoorRun.endBurst
  rw [if_pos ((Door.mode_of hw).trans (w.mode_repeating.mpr hm)), DoorRun.leaveBurst_of, if_pos hb]
  simp only [DoorRun.modify, Door.param_of hw, List.nil_append, seconds]

theorem DoorRun.endBurst_rests (hm : w.modeCode ≠ 5) :
    DoorRun.endBurst v ⟨x, [], false⟩ = DoorRun.enterRecovery (DoorRun.enterIdle v.group) ⟨x, [], false⟩ :=
  if_neg fun e => hm (w.mode_repeating.mp ((Door.mode_of hw).symm.trans e))

end

/-- Settles O30. -/
theorem doorTimersEndTheirStates : Obligations.DoorTimersEndTheirStates := by
  intro s d w ht hw x masked after leaves rests on next idle
  have hdelay : x.burst = .delay → exec (.delayExpiry d) s
      = .next (s.finishDoor d (DoorRun.endDelay (DoorRun.enterIdle s.groupMask) ⟨x, [], false⟩)) := fun h =>
    congrArg (fun r => Host.Outcome.next (s.finishDoor d r)) (DoorRun.timerExpiry_of (x := x) ht h _)
  have hburst : x.burst = .burst → exec (.burstExpiry d) s
      = .next (s.finishDoor d (DoorRun.endBurst (s.doorView d) ⟨x, [], false⟩)) := fun h =>
    congrArg (fun r => Host.Outcome.next (s.finishDoor d r)) (DoorRun.timerExpiry_of (x := x) ht h _)
  have hgap : x.burst = .gap → exec (.gapExpiry d) s
      = .next (s.finishDoor d (DoorRun.endGap (s.doorView d) ⟨x, [], false⟩)) := fun h =>
    congrArg (fun r => Host.Outcome.next (s.finishDoor d r)) (DoorRun.timerExpiry_of (x := x) ht h _)
  have hrecovery : x.burst = .recovery → exec (.recoveryExpiry d) s
      = .next (s.finishDoor d (DoorRun.enterIdle s.groupMask ⟨x, [], false⟩)) := fun h =>
    congrArg (fun r => Host.Outcome.next (s.finishDoor d r)) (DoorRun.timerExpiry_of (x := x) ht h _)
  have hrests : ∀ e, exec e s = .next (s.finishDoor d
      (DoorRun.enterRecovery (DoorRun.enterIdle s.groupMask) ⟨x, [], false⟩)) →
      rests e (if x.burst = .burst then [0] else []) := by
    intro e he
    rw [DoorRun.enterRecovery_of hw] at he
    refine ⟨fun h => ?_, fun h => ?_⟩
    · rw [if_neg h] at he
      exact he
    · rw [if_pos h] at he
      exact he.trans (exec_recoveryExpiry_doorAt s d x _).symm
  have hleaves : ∀ {e z ps r}, exec e s = .next (s.finishDoor d r) → r = ⟨z, ps, false⟩ → leaves e z ps := by
    intro e z ps r he hr
    rw [hr] at he
    exact he
  have hbursts : ∀ {z}, x.burst = .delay → ¬ (w.modeCode = 2 ∧ x.isOpen = false) → x.bursting w = z →
      leaves (.delayExpiry d) z [w.curtain] := by
    intro z h hno hz
    exact hleaves (hdelay h) ((DoorRun.endDelay_of hw _ _ _).trans ((if_neg hno).trans (by rw [hz]; rfl)))
  have hidle : x.settled w = idle := rfl
  have hlatched : x.latch = true → ¬ masked → DoorRun.enterIdle s.groupMask ⟨x, [], false⟩
      = DoorRun.idleTrigger s.groupMask DoorRun.settle ⟨{ idle with latch := false }, [], false⟩ := fun hl hk =>
    DoorRun.idleWith_latched hw [] false hl (not_masked hk) _
  have hnext : ({ idle with latch := false } : Door).working = some next := rfl
  refine ⟨fun h hm ho => ?_, fun h hm ho => ?_, fun h hm => ?_, fun h hm => ?_, fun h hm => ?_, fun h hm => ?_, fun h hm => ?_,
    fun h hm hon => ?_, fun h hon => ?_, fun h hl => ?_, fun h hl hk h3 hp => ?_, fun h hl hk h3 hd => ?_,
    fun h hl hk h3 hd => ?_, fun h => ?_, fun h => ?_, fun h => ?_, fun h => ?_⟩
  · have := hrests (.delayExpiry d) (by rw [hdelay h, DoorRun.endDelay_of hw, if_pos ⟨hm, ho⟩])
    rwa [if_neg (by rw [h]; nofun)] at this
  · exact hbursts h (fun e => nomatch ho.symm.trans e.2) (x.bursting_whileOpen hm)
  · exact hbursts h (by omega) (x.bursting_plain hm)
  · exact hbursts h (by omega) (x.bursting_repeating hm)
  · exact hbursts h (by omega) (x.bursting_accumulate hm)
  · exact hleaves (hburst h) (DoorRun.endBurst_repeats hw _ h hm)
  · have := hrests (.burstExpiry d) (by rw [hburst h, DoorRun.endBurst_rests hw _ hm]; rfl)
    rwa [if_pos h] at this
  · refine hleaves (hgap h) ((if_pos ((Door.seriesGoesOn_iff hw).mpr hon)).trans ?_)
    rw [DoorRun.enterBurst_of hw, x.bursting_repeating hm]
    rfl
  · have hno : ¬ x.seriesGoesOn = true := mt (Door.seriesGoesOn_iff hw).mp hon
    have := hrests (.gapExpiry d) ((hgap h).trans (congrArg (fun r => Host.Outcome.next (s.finishDoor d r)) (if_neg hno)))
    rwa [if_neg (by rw [h]; nofun)] at this
  · exact hleaves (hrecovery h) (DoorRun.idleWith_rests hw [] false (hl.imp_right (x.masked_iff _).mpr) _)
  · exact hleaves (hrecovery h) ((hlatched hl hk).trans
      (DoorRun.idleTrigger_counts hnext [] false (not_masked (x := x) hk) h3 hp _))
  · refine hleaves (hrecovery h) ((hlatched hl hk).trans
      ((DoorRun.idleTrigger_starts hnext [] false (not_masked (x := x) hk) h3 _).trans ((if_neg hd).trans ?_)))
    rw [Door.starting_eq]
    rfl
  · intro y
    have hgo : (({ idle with latch := false } : Door).starting next).working = some next := (Door.starting_keeps _ next).1
    have hlatch := (Door.starting_keeps ({ idle with latch := false } : Door) next).2.2.1
    have hnb : (({ idle with latch := false } : Door).starting next).burst ≠ .burst := by
      rw [(Door.starting_keeps _ next).2.2.2]
      nofun
    rw [hrecovery h, hlatched hl hk, DoorRun.idleTrigger_starts hnext [] false (not_masked (x := x) hk) h3, if_pos hd,
      DoorRun.endDelay_unlatched hgo [] false s.groupMask hlatch, ← exec_delayExpiry_doorAt s d hgo hnb, Door.starting_eq]
    rfl
  · exact congrArg Host.Outcome.next (s.runDoor_misfit d h _)
  · exact congrArg Host.Outcome.next (s.runDoor_misfit d h _)
  · exact congrArg Host.Outcome.next (s.runDoor_misfit d h _)
  · exact congrArg Host.Outcome.next (s.runDoor_misfit d h _)

end Sys2Proof.Machine
end

section
/-! Proofs for sections 3.3 and 3.4: masks and count slots (R60 to R63). -/

namespace Sys2Proof.Machine

/-! ### One door at a change of masks -/

/-- The conditions under which a change of masks makes a door take its latched trigger (R63). -/
def Door.takesLatch (v : DoorView) (was byStop : Bool) (y : Door) : Prop :=
  v.active = true ∧ was = true ∧ y.masked v.group = false ∧ byStop = false ∧ y.latch = true ∧ y.burst = .idle

theorem DoorRun.maskChanged_keeps {v : DoorView} {was byStop : Bool} {y : Door} (h : ¬ y.takesLatch v was byStop) :
    DoorRun.maskChanged v was byStop ⟨y, [], false⟩ = ⟨y, [], false⟩ := by
  unfold DoorRun.maskChanged
  refine if_neg fun e => h ?_
  simpa [Door.takesLatch, and_assoc] using e

theorem DoorRun.maskChanged_takes {v : DoorView} {was byStop : Bool} {y : Door} (h : y.takesLatch v was byStop) :
    DoorRun.maskChanged v was byStop ⟨y, [], false⟩
      = DoorRun.idleTrigger v.group (DoorRun.enterIdle v.group) ⟨{ y with latch := false }, [], false⟩ := by
  unfold DoorRun.maskChanged
  refine if_pos ?_
  simpa [Door.takesLatch, and_assoc] using h

/-- A door that takes a latched trigger in DELAY with its activity begun (R63, R66). -/
def Door.begun (w : BurstFields) (t : Timer) (y : Door) : Door :=
  { ({ y with latch := false } : Door).starting w with burst := .delay, timer := t }

section
variable {v : DoorView} {was byStop : Bool} {y : Door} (h : y.takesLatch v was byStop) {w : BurstFields}
  (hw : y.working = some w)
include h hw

theorem DoorRun.maskChanged_counts (hm : w.modeCode = 3) (hp : 1 < y.pv) :
    DoorRun.maskChanged v was byStop ⟨y, [], false⟩ = ⟨{ y with latch := false, pv := y.pv - 1 }, [], false⟩ := by
  have hk : ({ y with latch := false } : Door).masked v.group = false := h.2.2.1
  rw [DoorRun.maskChanged_takes h]
  exact DoorRun.idleTrigger_counts (x := { y with latch := false }) hw [] false hk hm hp _

theorem DoorRun.maskChanged_delays (hm : w.modeCode ≠ 3 ∨ y.pv ≤ 1) (hd : w.delay ≠ 0) :
    DoorRun.maskChanged v was byStop ⟨y, [], false⟩ = ⟨y.begun w (some (1000 * w.delay)), [], false⟩ := by
  have hk : ({ y with latch := false } : Door).masked v.group = false := h.2.2.1
  rw [DoorRun.maskChanged_takes h]
  exact (DoorRun.idleTrigger_starts (x := { y with latch := false }) hw [] false hk hm _).trans (if_neg hd)

theorem DoorRun.maskChanged_bursts (hm : w.modeCode ≠ 3 ∨ y.pv ≤ 1) (hd : w.delay = 0) :
    DoorRun.maskChanged v was byStop ⟨y, [], false⟩ = DoorRun.endDelay (DoorRun.enterIdle v.group)
      ⟨({ y with latch := false } : Door).starting w, [], false⟩ := by
  have hk : ({ y with latch := false } : Door).masked v.group = false := h.2.2.1
  rw [DoorRun.maskChanged_takes h]
  exact (DoorRun.idleTrigger_starts (x := { y with latch := false }) hw [] false hk hm _).trans (if_pos hd)

/-- A delay of 0 s that a latched trigger starts ends as its timer would end it. -/
theorem exec_delayExpiry_begun (s : State) (d : Fin 8) :
    exec (.delayExpiry d) (s.doorAt d (y.begun w (some 0)) []) = .next (s.finishDoor d
      (DoorRun.endDelay (DoorRun.enterIdle s.groupMask) ⟨({ y with latch := false } : Door).starting w, [], false⟩)) := by
  have hk := Door.starting_keeps ({ y with latch := false } : Door) w
  refine exec_delayExpiry_doorAt s d (hk.1.trans hw) ?_
  rw [hk.2.2.2, show ({ y with latch := false } : Door).burst = .idle from h.2.2.2.2.2]
  nofun

end

theorem Door.begun_eq (w : BurstFields) (t : Timer) (y : Door) : y.begun w t = { y with
    latch := false, burst := .delay, timer := t
    pv := if w.modeCode = 3 then w.n else y.pv
    series := if w.modeCode = 5 then 0 else y.series
    ending := if w.modeCode = 5 then false else y.ending } := by
  rw [Door.begun, Door.starting_eq]

/-- A change of a door's own mask clears the effective mask when no other mask is set. -/
theorem Door.takesLatch_own (x : Door) (a g mask byStop : Bool) :
    ({ x with overrideMask := mask } : Door).takesLatch ⟨a, g⟩ (x.masked g) byStop ↔ a = true ∧ mask = false
      ∧ x.overrideMask = true ∧ x.serviceMask = false ∧ g = false ∧ byStop = false ∧ x.latch = true ∧ x.burst = .idle := by
  constructor
  · rintro ⟨ha, hwas, hm, hb, hl, hi⟩
    simp only [Door.masked, Bool.or_eq_false_iff] at hm
    obtain ⟨⟨hs, hmask⟩, hg⟩ := hm
    simp only [Door.masked, hs, hg, Bool.false_or, Bool.or_false] at hwas
    exact ⟨ha, hmask, hwas, hs, hg, hb, hl, hi⟩
  · rintro ⟨ha, hmask, ho, hs, hg, hb, hl, hi⟩
    exact ⟨ha, by simp [Door.masked, ho], by simp [Door.masked, hs, hmask, hg], hb, hl, hi⟩

/-- A change of the group mask clears the effective mask when no mask of the door's own is set. -/
theorem Door.takesLatch_group (x : Door) (a g mask byStop : Bool) :
    x.takesLatch ⟨a, mask⟩ (x.masked g) byStop ↔ a = true ∧ mask = false ∧ g = true
      ∧ x.serviceMask = false ∧ x.overrideMask = false ∧ byStop = false ∧ x.latch = true ∧ x.burst = .idle := by
  constructor
  · rintro ⟨ha, hwas, hm, hb, hl, hi⟩
    simp only [Door.masked, Bool.or_eq_false_iff] at hm
    obtain ⟨⟨hs, ho⟩, hmask⟩ := hm
    simp only [Door.masked, hs, ho, Bool.false_or] at hwas
    exact ⟨ha, hmask, hwas, hs, ho, hb, hl, hi⟩
  · rintro ⟨ha, hmask, hg, hs, ho, hb, hl, hi⟩
    exact ⟨ha, by simp [Door.masked, hg], by simp [Door.masked, hs, ho, hmask], hb, hl, hi⟩

/-! ### The group mask -/

theorem State.doorMask_eq (s : State) (d : Fin 8) (was byStop : Bool) : s.doorMask d was byStop
    = s.finishDoor d (DoorRun.maskChanged (s.doorView d) was byStop ⟨s.doors[d], [], false⟩) := rfl

/-- Door d after a change of the group mask. -/
def State.groupMasked (s : State) (on byStop : Bool) (d : Fin 8) : DoorRun :=
  DoorRun.maskChanged ⟨s.part == .running && (s.doorRow d).used, on⟩ (s.doors[d].masked s.groupMask) byStop
    ⟨s.doors[d], [], false⟩

theorem State.maskNotice_all_doors (s : State) (on byStop : Bool) :
    (s.maskNotice .all on byStop).groupMask = on
      ∧ ∀ d : Fin 8, (s.maskNotice .all on byStop).doors[d] = (s.groupMasked on byStop d).door := by
  have key := forEach_progress (n := 8)
    (fun k t => t.part = s.part ∧ t.active = s.active ∧ t.groupMask = on
      ∧ t.doors = upTo k (fun d => (s.groupMasked on byStop d).door) s.doors)
    (fun d t => t.doorMask d (t.doors[d].masked s.groupMask) byStop) { s with groupMask := on } ?_ ?_
  · obtain ⟨-, -, hg, hd⟩ := key
    refine ⟨hg, fun d => ?_⟩
    rw [upTo_all] at hd
    exact (congrArg (fun v : Vector Door 8 => v[d]) hd).trans (Vector.getElem_ofFn d.isLt)
  · rintro d t ⟨hp, ha, hg, hd⟩
    have hold : t.doors[d] = s.doors[d] := by
      rw [hd]
      exact upTo_get _ _ d
    have hview : t.doorView d = ⟨s.part == .running && (s.doorRow d).used, on⟩ := by
      simp only [State.doorView, State.doorRow, hp, ha, hg]
    have hdoor : (DoorRun.maskChanged (t.doorView d) (t.doors[d].masked s.groupMask) byStop ⟨t.doors[d], [], false⟩)
        = s.groupMasked on byStop d := by
      rw [hview, hold]
      rfl
    rw [State.doorMask_eq, hdoor]
    refine ⟨?_, ?_, ?_, ?_⟩
    · simpa [State.finishDoor] using hp
    · simpa [State.finishDoor] using ha
    · simpa [State.finishDoor] using hg
    · rw [State.finishDoor_doors, hd]
      exact upTo_succ _ _ d
  · exact ⟨rfl, rfl, rfl, (upTo_zero _ _).symm⟩

theorem State.doorMask_unlatched {s : State} {d : Fin 8} (h : s.doors[d].latch = false) (was byStop : Bool) :
    s.doorMask d was byStop = s := by
  have hno : ¬ Door.takesLatch (s.doorView d) was byStop s.doors[d] := fun e =>
    nomatch h.symm.trans e.2.2.2.2.1
  rw [State.doorMask_eq, DoorRun.maskChanged_keeps hno, State.finishDoor_quiet, State.doorAt_self]

theorem State.maskNotice_unlatched {s : State} (h : ∀ c : Fin 8, s.doors[c].latch = false) (on byStop : Bool) :
    s.maskNotice .all on byStop = { s with groupMask := on } := by
  refine forEach_invariant (fun t => t = { s with groupMask := on }) _ _ (fun d t ht => ?_) rfl
  rw [ht]
  exact State.doorMask_unlatched (s := { s with groupMask := on }) (h d) _ _

/-! ### Count slots -/

theorem State.doorSection_of {s : State} {d z : Fin 8} {k : Fin 3} (hz : (s.doorRow d).zoneCode = z.val)
    (hk : (s.zoneRow z).sectCode = k.val) : s.doorSection d = if (s.zoneRow z).used = true then some k else none := by
  have hzone : (s.doorRow d).zone = some z := by
    unfold DoorRow.zone
    rw [dif_pos (by omega)]
    exact congrArg some (Fin.ext hz)
  rw [State.doorSection, hzone, Option.bind_some, ((s.zoneRow z).sect_eq_some k).mpr hk]

theorem clamp_eq_min_max (v : Int) : clamp v 0 255 = min 255 (max 0 v) := by
  unfold clamp
  split
  · omega
  · split <;> omega

theorem State.countNote_of {s : State} {d z : Fin 8} {k : Fin 3} (hz : (s.doorRow d).zoneCode = z.val)
    (hk : (s.zoneRow z).sectCode = k.val) (dir : CountDir) (n : SlotNote) : s.countNote d dir n
    = s.emit (if (n.status = .fresh ∨ n.status = .substituted) ∧ (s.zoneRow z).used = true then
        [match dir with
          | .boarded => .boarding k (min 255 (max 0 n.value)).toNat
          | .alighted => .alighting k (min 255 (max 0 n.value)).toNat]
      else []) := by
  unfold State.countNote
  rw [State.doorSection_of hz hk, clamp_eq_min_max]
  by_cases hs : n.status = .fresh ∨ n.status = .substituted
  · rw [if_pos hs]
    by_cases hu : (s.zoneRow z).used = true
    · rw [if_pos hu, if_pos ⟨hs, hu⟩] <;> rfl
    · rw [if_neg hu, if_neg (fun e => hu e.2), State.emit_nil]
  · rw [if_neg hs, if_neg (fun e => hs e.1), State.emit_nil]

/-- Settles O31. -/
theorem maskAndCountNoticesAtADoor : Obligations.MaskAndCountNoticesAtADoor := by
  refine ⟨?_, ?_⟩
  · intro s d mask byStop x y e leaves started takes
    let s1 : State := { s with inFlight := s.inFlight.erase e }
    have hexec : exec e s = .next (s1.finishDoor d
        (DoorRun.maskChanged (s1.doorView d) (x.masked s.groupMask) byStop ⟨y, [], false⟩)) := by
      have h := s1.runDoor_doorAt d y [] fun v r => r.maskChanged v (x.masked s.groupMask) byStop
      rw [State.doorAt_nil] at h
      exact congrArg Host.Outcome.next h
    have hleaves : ∀ z, DoorRun.maskChanged (s1.doorView d) (x.masked s.groupMask) byStop ⟨y, [], false⟩ = ⟨z, [], false⟩ →
        leaves z := by
      intro z hz
      rw [hz, State.finishDoor_quiet, State.doorAt_nil] at hexec
      exact hexec
    have htakes : y.takesLatch (s1.doorView d) (x.masked s.groupMask) byStop ↔ takes := by
      refine (x.takesLatch_own _ s.groupMask mask byStop).trans ?_
      simp only [Bool.and_eq_true, beq_iff_eq, and_assoc, takes]
      rfl
    have hstarted : ∀ (z : Door) (w : BurstFields), z.pv = x.pv → z.series = x.series → z.ending = x.ending →
        z.begun w (some (1000 * w.delay)) = started z w := by
      intro z w h1 h2 h3
      rw [Door.begun_eq, h1, h2, h3]
    refine ⟨fun h => ?_, fun h w hw => ⟨fun hm hd => ?_, fun hm hd => ?_, fun hm hp => ?_⟩, fun h => ?_, ?_⟩
    · exact hleaves _ (DoorRun.maskChanged_keeps (mt htakes.mp h))
    · rw [← hstarted y w rfl rfl rfl]
      exact hleaves _ (DoorRun.maskChanged_delays (htakes.mpr h) hw hm hd)
    · rw [hexec, DoorRun.maskChanged_bursts (htakes.mpr h) hw hm hd, ← hstarted y w rfl rfl rfl, hd]
      have := exec_delayExpiry_begun (htakes.mpr h) hw s1 d
      rw [State.doorAt_nil] at this
      exact this.symm
    · exact hleaves _ (DoorRun.maskChanged_counts (htakes.mpr h) hw hm hp)
    · exact congrArg Host.Outcome.next (State.maskNotice_unlatched (s := s.take (.maskChange .all mask byStop)) h _ _)
    · intro clears
      let s0 : State := s.take (.maskChange .all mask byStop)
      obtain ⟨hg, hdoor⟩ := s0.maskNotice_all_doors mask byStop
      have hd := hdoor d
      have hclears : x.takesLatch ⟨s.part == .running && (s.doorRow d).used, mask⟩ (x.masked s.groupMask) byStop ↔ clears := by
        refine (x.takesLatch_group _ s.groupMask mask byStop).trans ?_
        simp only [Bool.and_eq_true, beq_iff_eq, and_assoc, clears]
      refine ⟨_, rfl, hg, fun h => ?_, fun h w hw => ⟨fun hm hd0 => ?_, fun hm hd0 => ?_, fun hm hp => ?_⟩⟩
      · exact hd.trans (congrArg DoorRun.door (DoorRun.maskChanged_keeps (mt hclears.mp h)))
      · rw [← hstarted x w rfl rfl rfl]
        exact hd.trans (congrArg DoorRun.door (DoorRun.maskChanged_delays (hclears.mpr h) hw hm hd0))
      · have hx := exec_delayExpiry_begun (hclears.mpr h) hw { s with groupMask := false } d
        rw [State.doorAt_nil] at hx
        rw [← hstarted x w rfl rfl rfl, hd0]
        refine ⟨_, hx, ?_⟩
        have hmask : mask = false := h.2.2.1
        have hrun := DoorRun.maskChanged_bursts (hclears.mpr h) hw hm hd0
        subst hmask
        rw [State.finishDoor_doors]
        refine (hd.trans (congrArg DoorRun.door hrun)).trans ?_
        exact (Vector.getElem_set_self _).symm
      · exact hd.trans (congrArg DoorRun.door (DoorRun.maskChanged_counts (hclears.mpr h) hw hm hp))
  · intro s d n z k dir hu hslot hz hk e v handed
    have hcount : (s.doorRow d).countSlot dir = n.slot.val := by
      rw [← hslot]
      cases dir <;> rfl
    refine congrArg Host.Outcome.next ((if_pos ⟨hu, slotOfCode_eq_some hcount⟩).trans ?_)
    refine (State.countNote_of (s := s.take e) hz hk dir n).trans ?_
    cases dir <;> rfl

end Sys2Proof.Machine
end

section
/-! Proofs for chapter 4: section counts, bands and the terminus mark (R83 to R93). -/

namespace Sys2Proof.Machine

/-! ### Counting -/

theorem Load.counted_eq (x : Load) (result : Int) (most : Nat) : x.counted result most = { x with
    count := (max 0 (min result most)).toNat
    isOver := x.isOver || decide ((most : Int) < result), isUnder := x.isUnder || decide (result < 0) } := by
  unfold Load.counted
  by_cases h1 : (most : Int) < result
  · rw [if_pos h1, show (max 0 (min result (most : Int))).toNat = most by omega, decide_eq_true h1,
      decide_eq_false (by omega : ¬ result < 0), Bool.or_true, Bool.or_false]
  · by_cases h2 : result < 0
    · rw [if_neg h1, if_pos h2, show (max 0 (min result (most : Int))).toNat = 0 by omega, decide_eq_false h1,
        decide_eq_true h2, Bool.or_true, Bool.or_false]
    · rw [if_neg h1, if_neg h2, show (max 0 (min result (most : Int))).toNat = result.toNat by omega, decide_eq_false h1,
        decide_eq_false h2, Bool.or_false, Bool.or_false]

theorem State.bandOf_eq_some (s : State) (count i : Nat) : s.bandOf count = some i ↔ i < 8
    ∧ ((s.bandRow i).used = true ∧ (s.bandRow i).lower ≤ count ∧ count ≤ (s.bandRow i).upper)
    ∧ ∀ j < i, ¬ ((s.bandRow j).used = true ∧ (s.bandRow j).lower ≤ count ∧ count ≤ (s.bandRow j).upper) := by
  unfold State.bandOf
  rw [List.find?_range_eq_some]
  simp only [Bool.and_eq_true, decide_eq_true_eq, and_assoc, List.mem_range, Bool.not_eq_true', ← Bool.not_eq_true]
  tauto

/-- What a count event leaves (R85, R88). -/
theorem State.countEvent_eq (s : State) (k : Fin 3) (change : Int) : s.countEvent k change = (
    let result := s.loads[k].count + change
    let counted := s.loads[k].counted result (s.capacityOf k)
    { s with
      flags := if (s.capacityOf k : Int) < result ∨ result < 0 then { s.flags with countSaturated := true } else s.flags
      loads := s.loads.set k (counted.lookup (s.bandOf counted.count) s.bandDwell) }) := by
  unfold State.countEvent State.raiseIf
  simp only [Bool.or_eq_true, decide_eq_true_eq]
  split <;> rfl

/-- Settles O32. -/
theorem boardingsAndAlightingsCount : Obligations.BoardingsAndAlightingsCount := by
  intro s k v e result he x most count covers counted
  refine ⟨s.bandOf count, fun i => s.bandOf_eq_some count i, ?_⟩
  have hexec : ∃ change : Int, exec e s = .next ((s.take e).countEvent k change) ∧ result = x.count + change := by
    obtain ⟨rfl, hr⟩ | ⟨rfl, hr⟩ := he
    · exact ⟨v, rfl, hr⟩
    · exact ⟨-v, rfl, hr.trans (Int.sub_eq_add_neg)⟩
  obtain ⟨change, hexec, hr⟩ := hexec
  have hcounted : x.counted result most = counted := x.counted_eq result most
  rw [hexec, State.countEvent_eq]
  change Host.Outcome.next ({ s with
    inFlight := s.inFlight.erase e
    flags := if (most : Int) < x.count + change ∨ x.count + change < 0 then { s.flags with countSaturated := true } else s.flags
    loads := s.loads.set k ((x.counted (x.count + change) most).lookup
      (s.bandOf (x.counted (x.count + change) most).count) s.bandDwell) } : State) = _
  rw [← hr, hcounted]
  rfl

/-! ### The dwell and the terminus mark -/

theorem State.terminusMark_level {s : State} {n : SlotNote} (h : (marksHigh n && !s.markHigh) = false) :
    s.terminusMark n = { s with markHigh := marksHigh n } := by
  unfold State.terminusMark
  dsimp only
  rw [h]
  exact forEach_invariant (fun t => t = { s with markHigh := marksHigh n }) _ _ (fun k t ht => ht) rfl

theorem State.terminusMark_rise {s : State} {n : SlotNote} (h : marksHigh n = true) (hm : s.markHigh = false) :
    s.terminusMark n = { s with
      markHigh := true
      loads := Vector.ofFn fun k : Fin 3 => if s.loads[k].armed = true then ⟨0, false, false, false, s.bandOf 0, none, none⟩
        else s.loads[k] } := by
  unfold State.terminusMark
  dsimp only
  rw [h, hm]
  let new (k : Fin 3) : Load :=
    if s.loads[k].armed = true then ⟨0, false, false, false, s.bandOf 0, none, none⟩ else s.loads[k]
  refine (forEach_eq (fun i => { s with markHigh := true, loads := upTo i new s.loads }) _ (fun k => ?_) ?_).trans ?_
  · have hold : (upTo k.val new s.loads)[k] = s.loads[k] := upTo_get _ _ k
    dsimp only
    rw [hold]
    have hstep : ({ s with markHigh := true, loads := upTo (k + 1) new s.loads } : State)
        = { s with markHigh := true, loads := (upTo k new s.loads).set k (new k) } := by rw [upTo_succ]
    rw [hstep]
    by_cases ha : s.loads[k].armed = true
    · rw [if_pos (show (true && !false && s.loads[k].armed) = true from ha)]
      have hnew : new k = ⟨0, false, false, false, s.bandOf 0, none, none⟩ := if_pos ha
      rw [hnew]
      rfl
    · rw [if_neg (show ¬ (true && !false && s.loads[k].armed) = true from ha)]
      have hnew : new k = (upTo k.val new s.loads)[k] := (if_neg ha).trans hold.symm
      have hset : (upTo k.val new s.loads).set k (new k) = upTo k.val new s.loads := by
        rw [hnew]
        exact Vector.set_getElem_self _
      rw [hset]
  · rw [upTo_zero]
  · rw [upTo_all]

theorem exec_terminusMarkNotification {s : State} {n : SlotNote} (hd : s.designated .terminusMark = some n.slot)
    (h : n.status ≠ .held) : exec (.terminusMarkNotification n) s
    = .next ((s.take (.terminusMarkNotification n)).terminusMark n) := congrArg Host.Outcome.next (if_pos ⟨hd, h⟩)

/-- Settles O33. -/
theorem dwellAndTerminusMark : Obligations.DwellAndTerminusMark := by
  intro s
  refine ⟨fun k band hd hp => ?_, ?_⟩
  · obtain ⟨t, ht⟩ := Option.ne_none_iff_exists'.mp hd
    refine congrArg Host.Outcome.next ?_
    unfold State.dwellExpiry
    rw [ht, hp]
    rfl
  · intro n hn taken
    have hhigh : n.status = .fresh → n.value ≠ 0 → marksHigh n = true := by
      intro h hv
      simp [marksHigh, h, hv]
    refine ⟨fun h => ?_, fun h hv hm => ?_, fun h hv hm => ?_, fun h hv => ?_⟩
    · exact congrArg Host.Outcome.next (if_neg fun e => e.2 h)
    · have hexec := exec_terminusMarkNotification hn (by rw [h]; nofun)
      exact ⟨_, hexec.trans (congrArg _ (State.terminusMark_rise (s := taken) (hhigh h hv) hm)), rfl,
        fun k => Vector.getElem_ofFn k.isLt⟩
    · have hexec := exec_terminusMarkNotification hn (by rw [h]; nofun)
      have hlow : (marksHigh n && !taken.markHigh) = false := by simp [taken, hm]
      refine (hexec.trans (congrArg _ (State.terminusMark_level (s := taken) hlow))).trans (congrArg _ ?_)
      rw [hhigh h hv, ← hm]
    · have hlevel : marksHigh n = false := by
        rcases hv with hv | hv <;> simp [marksHigh, hv]
      have hlow : (marksHigh n && !taken.markHigh) = false := by rw [hlevel]; rfl
      rw [exec_terminusMarkNotification hn h]
      exact congrArg Host.Outcome.next ((State.terminusMark_level (s := taken) hlow).trans (by rw [hlevel]))

end Sys2Proof.Machine
end

section
/-! Proofs for chapter 5: the screen pass, the stages and maximum defrost (R102 to R111). -/

namespace Sys2Proof.Machine

/-! ### The flap and the entry to a stage -/

/-- The delivery of a flap value that has changed (R108). -/
def Screen.flapDelivery (c : Screen) (f : Nat) : List Instr := if f = c.flap then [] else [.sourceDelivery .flap f]

theorem State.flapNow_eq (s : State) : s.flapNow = s.flapOf s.screen.stage s.screen.posted s.screen.grant := by
  simp [State.flapNow, State.flapOf, Screen.short, State.stageNow]

/-- The flap formed and delivered (R108). -/
theorem State.formFlap_eq (s : State) : s.formFlap = { s with
    screen := { s.screen with flap := s.flapOf s.screen.stage s.screen.posted s.screen.grant }
    inFlight := s.inFlight ++ s.screen.flapDelivery (s.flapOf s.screen.stage s.screen.posted s.screen.grant) } := by
  unfold State.formFlap Screen.flapDelivery
  rw [s.flapNow_eq]
  by_cases h : s.flapOf s.screen.stage s.screen.posted s.screen.grant = s.screen.flap
  · rw [if_pos h, if_pos h, List.append_nil, h]
  · rw [if_neg h, if_neg h]
    rfl

/-- The claim that a stage posts: a stage that stays keeps the claim posted (R106, R107). -/
def State.stagePosted (s : State) (stage : Stage) : Nat :=
  if stage = s.screen.stage then s.screen.posted else (s.stageRow stage).request

/-- The hand-overs of a stage change, the flap apart (R107). -/
def State.stageNotices (s : State) (stage : Stage) : List Instr :=
  if stage = s.screen.stage then []
  else .claimPosting screenClaim (s.stageRow stage).request
    :: (List.finRange 3).map fun k => .stageNotice k (s.stageRow stage).dry (s.stageRow stage).dryFloor

/-- The part after the entry to a stage, with the step pointer where it is left and the flap formed. -/
def State.entered (s : State) (stage : Stage) (dwell : Nat) (pointer : Option Nat) : State := { s with
  screen := { s.screen with
    stage := stage, stageMs := 0, entryDwell := dwell, pointer := pointer, posted := s.stagePosted stage
    flap := s.flapOf stage (s.stagePosted stage) s.screen.grant }
  inFlight := s.inFlight ++ s.stageNotices stage
    ++ s.screen.flapDelivery (s.flapOf stage (s.stagePosted stage) s.screen.grant) }

/-- A stage change hands over the new stage's parameters and forms the flap. -/
theorem State.enterStage_new {s : State} {stage : Stage} (h : stage ≠ s.screen.stage) (dwell : Nat) :
    s.enterStage stage dwell = s.entered stage dwell s.screen.pointer := by
  unfold State.enterStage State.entered State.stagePosted State.stageNotices
  rw [if_neg h, if_neg h, if_neg h]
  exact State.handStage_spec _

theorem State.enterStage_formFlap (s : State) (stage : Stage) (dwell : Nat) (p : Option Nat) :
    ((s.enterStage stage dwell).setPointer p).formFlap = s.entered stage dwell p := by
  rw [State.formFlap_eq]
  by_cases h : stage = s.screen.stage
  · have he : s.enterStage stage dwell
        = { s with screen := { s.screen with stage := stage, stageMs := 0, entryDwell := dwell } } := if_pos h
    rw [he]
    unfold State.entered State.stagePosted State.stageNotices
    rw [if_pos h, if_pos h, List.append_nil]
    rfl
  · rw [State.enterStage_new h]
    unfold State.entered
    refine Eq.trans (congrArg (fun es : List Instr => ({ s with
      screen := { s.screen with
        stage := stage, stageMs := 0, entryDwell := dwell, pointer := p, posted := s.stagePosted stage
        flap := s.flapOf stage (s.stagePosted stage) s.screen.grant }
      inFlight := es } : State)) (?_ : _ ++ Screen.flapDelivery _ _ = _)) rfl
    exact (congrArg _ (if_pos rfl)).trans (List.append_nil _)

/-! ### The step list -/

theorem State.stepList_find (s : State) (p : Nat → Bool) :
    s.stepList.find? p = (List.range 12).find? fun i => (s.stepRow i).used && p i := by
  rw [State.stepList, List.find?_filter]
  simp

/-- The first used step that meets a condition. -/
theorem State.stepList_find_some (s : State) (p : Nat → Bool) (i : Nat) : s.stepList.find? p = some i ↔
    i < 12 ∧ ((s.stepRow i).used = true ∧ p i = true) ∧ ∀ j < i, (s.stepRow j).used = true → p j = false := by
  rw [State.stepList_find, List.find?_range_eq_some]
  simp only [Bool.and_eq_true, List.mem_range, Bool.not_eq_true', ← Bool.not_eq_true]
  constructor
  · rintro ⟨hp, hi, hno⟩
    exact ⟨hi, hp, fun j hj hu hpj => hno j hj ⟨hu, hpj⟩⟩
  · rintro ⟨hi, hp, hno⟩
    exact ⟨hp, hi, fun j hj e => hno j hj e.1 e.2⟩

theorem State.stepList_find_none (s : State) (p : Nat → Bool) :
    s.stepList.find? p = none ↔ ∀ i < 12, (s.stepRow i).used = true → p i = false := by
  rw [State.stepList_find, List.find?_eq_none]
  simp only [List.mem_range, Bool.and_eq_true, not_and, Bool.not_eq_true]

theorem State.firstStep_eq (s : State) : s.firstStep = s.stepList.find? fun _ => true := by
  unfold State.firstStep
  cases s.stepList <;> rfl

theorem State.firstStep_some (s : State) (i : Nat) :
    s.firstStep = some i ↔ i < 12 ∧ (s.stepRow i).used = true ∧ ∀ j < i, (s.stepRow j).used = false := by
  rw [s.firstStep_eq, s.stepList_find_some]
  simp only [and_true, Bool.true_eq_false, imp_false, Bool.not_eq_true]

theorem State.firstStep_none (s : State) : s.firstStep = none ↔ ∀ i < 12, (s.stepRow i).used = false := by
  rw [s.firstStep_eq, s.stepList_find_none]
  simp only [Bool.true_eq_false, imp_false, Bool.not_eq_true]

/-- The step that follows row i: the lowest above it, else the first of the list. -/
theorem State.nextStep_some {s : State} {i j : Nat} (h : s.nextStep i = some j) : j < 12 ∧ (s.stepRow j).used = true
    ∧ (i < j → ∀ m < j, i < m → (s.stepRow m).used = false)
    ∧ (j ≤ i → (∀ m < 12, i < m → (s.stepRow m).used = false) ∧ ∀ m < j, (s.stepRow m).used = false) := by
  unfold State.nextStep at h
  cases hf : s.stepList.find? fun j => decide (i < j) with
  | some k =>
    rw [hf, Option.some_or] at h
    obtain rfl := Option.some.inj h
    obtain ⟨hk, ⟨hu, hi⟩, hno⟩ := (s.stepList_find_some _ _).mp hf
    have hi := of_decide_eq_true hi
    refine ⟨hk, hu, fun _ m hm him => ?_, fun hle => absurd hi (by omega)⟩
    by_contra hum
    exact of_decide_eq_false (hno m hm (Bool.not_eq_false _ ▸ hum)) him
  | none =>
    rw [hf, Option.none_or] at h
    have hno := (s.stepList_find_none _).mp hf
    have habove : ∀ m < 12, i < m → (s.stepRow m).used = false := fun m hm him => by
      by_contra hum
      exact of_decide_eq_false (hno m hm (Bool.not_eq_false _ ▸ hum)) him
    obtain ⟨hj, hu, hbelow⟩ := (s.firstStep_some j).mp h
    exact ⟨hj, hu, fun _ m hm him => habove m (by omega) him, fun _ => ⟨habove, hbelow⟩⟩

theorem State.nextStep_none {s : State} {i : Nat} (h : s.nextStep i = none) : ∀ m < 12, (s.stepRow m).used = false := by
  unfold State.nextStep at h
  exact (s.firstStep_none).mp (Option.or_eq_none_iff.mp h).2

/-! ### The pass -/

/-- What a pass decides with a margin: to stay, or to enter a stage with an entry dwell and a step pointer (R104, R105). -/
def State.screenMove (s : State) (margin : Option Int) : Option (Stage × Nat × Option Nat) :=
  match s.screen.stage, margin with
  | .max, _ => none
  | .off, _ => none
  | .demist, none => none
  | _, none => some (.demist, 0, s.screen.pointer)
  | stage, some m =>
    match s.screen.pointer with
    | none => if stage = .watch then none else some (.watch, 0, none)
    | some i =>
      if (s.stepRow i).met m ∧ 1000 * s.screen.entryDwell ≤ s.screen.stageMs then
        (stepStageOfCode (s.stepRow i).stageCode).map fun stage => (stage, (s.stepRow i).dwell, s.nextStep i)
      else none

/-- The part after a pass that has decided. -/
def State.moved (s : State) : Option (Stage × Nat × Option Nat) → State
  | none => s.formFlap
  | some (stage, dwell, pointer) => s.entered stage dwell pointer

/-- The part as a pass finds it, with the timer restarted and the margin formed. -/
def State.sighted (s : State) : State := { s with
  screen := { s.screen with
    pass := seconds s.screenInterval, margin := s.marginNow, blind := s.marginNow.isNone } }

theorem State.setPointer_same {s : State} {p : Option Nat} (h : s.screen.pointer = p) : s.setPointer p = s := by
  subst h
  rfl

theorem State.enterStage_pointer (s : State) (stage : Stage) (dwell : Nat) :
    (s.enterStage stage dwell).screen.pointer = s.screen.pointer := by
  by_cases h : stage = s.screen.stage
  · rw [State.enterStage, if_pos h]
  · rw [State.enterStage_new h]
    rfl

theorem State.enterStage_formFlap_same {s : State} {stage : Stage} {dwell : Nat} {p : Option Nat}
    (h : s.screen.pointer = p) : (s.enterStage stage dwell).formFlap = s.entered stage dwell p := by
  rw [← s.enterStage_formFlap stage dwell p, State.setPointer_same ((s.enterStage_pointer stage dwell).trans h)]

/-- What a pass decides with a margin known, in a stage that evaluates the step (R105). -/
theorem State.screenMove_known {s : State} {m : Int}
    (h : s.screen.stage = .watch ∨ s.screen.stage = .demist ∨ s.screen.stage = .clear) :
    s.screenMove (some m) = match s.screen.pointer with
      | none => if s.screen.stage = .watch then none else some (.watch, 0, none)
      | some i =>
        if (s.stepRow i).met m ∧ 1000 * s.screen.entryDwell ≤ s.screen.stageMs then
          (stepStageOfCode (s.stepRow i).stageCode).map fun stage => (stage, (s.stepRow i).dwell, s.nextStep i)
        else none := by
  unfold State.screenMove
  rcases h with h | h | h <;> rw [h]

theorem State.evaluateStep_formFlap {s : State} {m : Int}
    (h : s.screen.stage = .watch ∨ s.screen.stage = .demist ∨ s.screen.stage = .clear) :
    (s.evaluateStep m).formFlap = s.moved (s.screenMove (some m)) := by
  rw [State.screenMove_known h]
  unfold State.evaluateStep
  cases hp : s.screen.pointer with
  | none =>
    dsimp only
    by_cases hw : s.screen.stage = .watch
    · rw [if_pos hw, if_pos hw]
      rfl
    · rw [if_neg hw, if_neg hw]
      exact State.enterStage_formFlap_same hp
  | some i =>
    dsimp only
    split
    · cases stepStageOfCode (s.stepRow i).stageCode with
      | none => rfl
      | some stage => exact s.enterStage_formFlap stage _ _
    · rfl

theorem State.takeScreenPass_eq {s : State} (h : s.screen.pass ≠ none) :
    s.takeScreenPass = s.sighted.moved (s.sighted.screenMove s.marginNow) := by
  have hbody : s.takeScreenPass = (match s.sighted.screen.stage, s.marginNow with
    | .max, _ => s.sighted
    | .off, _ => s.sighted
    | .demist, none => s.sighted
    | _, none => s.sighted.enterStage .demist 0
    | _, some v => s.sighted.evaluateStep v).formFlap := if_neg h
  rw [hbody]
  have hknown := fun m => State.evaluateStep_formFlap (s := s.sighted) (m := m)
  cases hs : s.sighted.screen.stage with
  | off => unfold State.screenMove; rw [hs]; rfl
  | max => unfold State.screenMove; rw [hs]; rfl
  | watch =>
    cases s.marginNow with
    | none => unfold State.screenMove; rw [hs]; exact State.enterStage_formFlap_same rfl
    | some m => exact hknown m (Or.inl hs)
  | demist =>
    cases s.marginNow with
    | none => unfold State.screenMove; rw [hs]; rfl
    | some m => exact hknown m (Or.inr (Or.inl hs))
  | clear =>
    cases s.marginNow with
    | none => unfold State.screenMove; rw [hs]; exact State.enterStage_formFlap_same rfl
    | some m => exact hknown m (Or.inr (Or.inr hs))

theorem stageNotices_eq (s : State) (stage : Stage) : s.stageNotices stage
    = if stage = s.screen.stage then [] else
      .claimPosting screenClaim (s.stagePosted stage)
        :: (List.finRange 3).map fun k => .stageNotice k (s.stageRow stage).dry (s.stageRow stage).dryFloor := by
  unfold State.stageNotices State.stagePosted
  split <;> rfl

/-- What every pass leaves, whatever it has decided (R103, R104, R107, R108). -/
theorem State.sighted_moved (s : State) (move : Option (Stage × Nat × Option Nat)) :
    let t := s.sighted.moved move
    let c := s.screen
    let x := t.screen
    t = { s with screen := x, inFlight := t.inFlight }
      ∧ x.margin = s.marginNow ∧ x.blind = s.marginNow.isNone ∧ x.pass = some (1000 * s.screenInterval)
      ∧ x.maxCount = c.maxCount ∧ x.grant = c.grant ∧ x.flap = s.flapOf x.stage x.posted x.grant
      ∧ x.posted = (if x.stage = c.stage then c.posted else (s.stageRow x.stage).request)
      ∧ t.inFlight = s.inFlight
          ++ (if x.stage = c.stage then [] else
            .claimPosting screenClaim x.posted
              :: (List.finRange 3).map fun k => .stageNotice k (s.stageRow x.stage).dry (s.stageRow x.stage).dryFloor)
          ++ (if x.flap = c.flap then [] else [.sourceDelivery .flap x.flap]) := by
  cases move with
  | none =>
    have h : s.sighted.moved none = _ := s.sighted.formFlap_eq
    rw [h]
    refine ⟨rfl, rfl, rfl, rfl, rfl, rfl, rfl, (if_pos rfl).symm, ?_⟩
    dsimp only
    rw [if_pos (show s.sighted.screen.stage = s.screen.stage from rfl), List.append_nil]
    rfl
  | some m =>
    obtain ⟨stage, dwell, pointer⟩ := m
    refine ⟨rfl, rfl, rfl, rfl, rfl, rfl, rfl, rfl, ?_⟩
    change s.inFlight ++ s.sighted.stageNotices stage ++ _ = _
    rw [stageNotices_eq]
    rfl

/-- A pass that stays in its stage. -/
theorem State.moved_none (s : State) : (s.moved none).screen.stage = s.screen.stage
    ∧ (s.moved none).screen.stageMs = s.screen.stageMs ∧ (s.moved none).screen.entryDwell = s.screen.entryDwell
    ∧ (s.moved none).screen.pointer = s.screen.pointer := by
  have h : s.moved none = _ := s.formFlap_eq
  rw [h]
  exact ⟨rfl, rfl, rfl, rfl⟩

theorem StepRow.met_iff (r : StepRow) (m : Int) :
    r.met m = true ↔ if r.rising = true then r.threshold ≤ m else m ≤ r.threshold := by
  unfold StepRow.met
  split <;> exact decide_eq_true_iff

/-- Settles O34. -/
theorem screenPassWalksTheSteps : Obligations.ScreenPassWalksTheSteps := by
  intro s hpass c margin row
  have hexec : exec .screenPass s = .next (s.sighted.moved (s.sighted.screenMove s.marginNow)) :=
    congrArg Host.Outcome.next (State.takeScreenPass_eq hpass)
  obtain ⟨hframe, hm, hb, hp, hmax, hgrant, hflap, hposted, hflight⟩ :=
    s.sighted_moved (s.sighted.screenMove s.marginNow)
  have hblind : s.marginNow.isNone = decide (margin = none) := by
    change margin.isNone = _
    cases margin <;> rfl
  have hstays : s.sighted.screenMove s.marginNow = none → (s.sighted.moved (s.sighted.screenMove s.marginNow)).screen.stage
      = c.stage ∧ (s.sighted.moved (s.sighted.screenMove s.marginNow)).screen.stageMs = c.stageMs
      ∧ (s.sighted.moved (s.sighted.screenMove s.marginNow)).screen.entryDwell = c.entryDwell
      ∧ (s.sighted.moved (s.sighted.screenMove s.marginNow)).screen.pointer = c.pointer := by
    intro h
    rw [h]
    exact s.sighted.moved_none
  have hmoves : ∀ {stage dwell pointer}, s.sighted.screenMove s.marginNow = some (stage, dwell, pointer) →
      s.sighted.moved (s.sighted.screenMove s.marginNow) = s.sighted.entered stage dwell pointer := by
    intro stage dwell pointer h
    rw [h]
    rfl
  refine ⟨_, hexec, hframe, hm, hb.trans hblind, hp, hmax, hgrant, hflap, hposted, hflight, fun h => hstays ?_,
    fun hn h => hstays ?_, fun hn h => ?_, ?_⟩
  · unfold State.screenMove
    rcases h with h | h <;> rw [show s.sighted.screen.stage = _ from h]
  · unfold State.screenMove
    rw [show s.sighted.screen.stage = _ from h, show s.marginNow = none from hn]
  · have hmove : s.sighted.screenMove s.marginNow = some (.demist, 0, c.pointer) := by
      unfold State.screenMove
      rcases h with h | h <;> rw [show s.sighted.screen.stage = _ from h, show s.marginNow = none from hn] <;> rfl
    rw [hmoves hmove]
    exact ⟨⟨rfl, rfl, rfl⟩, rfl⟩
  · intro m hn h met
    have hknown : s.sighted.screenMove s.marginNow = match c.pointer with
        | none => if c.stage = .watch then none else some (.watch, 0, none)
        | some i =>
          if (s.stepRow i).met m ∧ 1000 * c.entryDwell ≤ c.stageMs then
            (stepStageOfCode (s.stepRow i).stageCode).map fun stage => (stage, (s.stepRow i).dwell, s.nextStep i)
          else none := by
      rw [show s.marginNow = some m from hn]
      exact State.screenMove_known (s := s.sighted) h
    refine ⟨fun hp hw => hstays ?_, fun hp hw => ?_, fun hp hno => hstays ?_, fun i stage hp hmet hdwell hcode => ?_⟩
    · rw [hknown, hp]
      exact if_pos hw
    · rw [hp] at hknown
      rw [hmoves (hknown.trans (if_neg hw))]
      exact ⟨⟨rfl, rfl, rfl⟩, rfl⟩
    · obtain ⟨i, hi⟩ := Option.ne_none_iff_exists'.mp hp
      have hrow : row = s.stepRow i := by simp only [row, hi, Option.getD_some]
      rw [hknown, hi]
      refine if_neg fun e => ?_
      have hyes : met := by
        dsimp only [met]
        rw [hrow]
        exact ((s.stepRow i).met_iff m).mp e.1
      exact hno.elim (fun k => k hyes) fun k => by omega
    · have hrow : row = s.stepRow i := by simp only [row, hp, Option.getD_some]
      have hmet' : (s.stepRow i).met m = true := by
        dsimp only [met] at hmet
        rw [hrow] at hmet
        exact ((s.stepRow i).met_iff m).mpr hmet
      rw [hp] at hknown
      have hmove := hknown.trans (if_pos ⟨hmet', hdwell⟩)
      rw [← hrow, hcode] at hmove
      rw [hmoves hmove]
      exact ⟨⟨rfl, rfl, rfl⟩, fun j hj => State.nextStep_some hj, fun hj => State.nextStep_none hj⟩

/-! ### Maximum defrost -/

/-- The part after a stage change, written out. -/
theorem State.entered_new {s : State} {stage : Stage} (h : stage ≠ s.screen.stage) (dwell : Nat) (p : Option Nat) :
    s.entered stage dwell p = { s with
      screen := { s.screen with
        stage := stage, stageMs := 0, entryDwell := dwell, pointer := p, posted := (s.stageRow stage).request
        flap := s.flapOf stage (s.stageRow stage).request s.screen.grant }
      inFlight := s.inFlight ++ (.claimPosting screenClaim (s.stageRow stage).request
          :: (List.finRange 3).map fun k => .stageNotice k (s.stageRow stage).dry (s.stageRow stage).dryFloor)
        ++ s.screen.flapDelivery (s.flapOf stage (s.stageRow stage).request s.screen.grant) } := by
  unfold State.entered State.stagePosted State.stageNotices
  rw [if_neg h, if_neg h]

theorem State.leaveMax_rising {s : State} {i : Nat} (h : s.firstRising = some i) :
    s.leaveMax = (s.setPointer (some i)).enterStage .clear 0 := by
  simp only [State.leaveMax, h]

theorem State.leaveMax_falling {s : State} (h : s.firstRising = none) :
    s.leaveMax = (s.setPointer s.firstStep).enterStage .watch 0 := by
  simp only [State.leaveMax, h]

/-- Settles O35. -/
theorem screenGrantAndMaximumDefrost : Obligations.ScreenGrantAndMaximumDefrost := by
  intro s c flapOf flapped changed counted
  have hrun : ∀ {t : State} {e stage count p}, stage ≠ c.stage →
      t = { s with
        inFlight := s.inFlight.erase e, screen := { c with maxCount := count, pointer := p } } →
      exec e s = .next (t.enterStage stage 0) → changed e count stage p := by
    intro t e stage count p hst ht hexec
    subst ht
    refine hexec.trans (congrArg Host.Outcome.next ((State.enterStage_new ?_ 0).trans ?_))
    · exact hst
    · exact State.entered_new (s := { s with
        inFlight := s.inFlight.erase e, screen := { c with maxCount := count, pointer := p } }) hst 0 p
  let x : State := { s with
    inFlight := s.inFlight.erase .screenMaxDepartureNotice, screen := { c with maxCount := c.maxCount - 1 } }
  have hleave : s.part = .running → c.maxCount = 1 → exec .screenMaxDepartureNotice s = .next x.leaveMax :=
    fun hr h1 => congrArg Host.Outcome.next (if_pos ⟨hr, h1⟩)
  refine ⟨fun g => ?_, fun hr h0 hm => ?_, fun h => ?_, fun hr h1 hm => ⟨fun i hi hu hris hno => ?_, fun hno =>
    ⟨fun i hi hu hbelow => ?_, fun hnone => ?_⟩⟩, fun h => ?_⟩
  · exact congrArg Host.Outcome.next (State.formFlap_eq _)
  · refine hrun (t := { s with
      inFlight := s.inFlight.erase .screenMaxEntryNotice, screen := { c with maxCount := c.maxCount + 1 } }) hm.symm ?_
      (congrArg Host.Outcome.next (if_pos ⟨hr, h0⟩))
    rw [h0]
  · refine congrArg Host.Outcome.next (if_neg fun e => ?_)
    exact h.elim (fun k => nomatch e.1.symm.trans k) fun k => by
      have h0 : c.maxCount = 0 := e.2
      omega
  · have hfirst : x.firstRising = some i := (x.stepList_find_some _ i).mpr ⟨hi, ⟨hu, hris⟩, hno⟩
    rw [State.leaveMax_rising hfirst] at hleave
    refine hrun (by rw [hm]; nofun) ?_ (hleave hr h1)
    dsimp only [x, State.setPointer]
    rw [h1]
  · have hfirst : x.firstRising = none := (x.stepList_find_none _).mpr hno
    have hstep : x.firstStep = some i := (x.firstStep_some i).mpr ⟨hi, hu, hbelow⟩
    rw [State.leaveMax_falling hfirst, hstep] at hleave
    refine hrun (by rw [hm]; nofun) ?_ (hleave hr h1)
    dsimp only [x, State.setPointer]
    rw [h1]
  · have hfirst : x.firstRising = none := (x.stepList_find_none _).mpr hno
    have hstep : x.firstStep = none := x.firstStep_none.mpr hnone
    rw [State.leaveMax_falling hfirst, hstep] at hleave
    refine hrun (by rw [hm]; nofun) ?_ (hleave hr h1)
    dsimp only [x, State.setPointer]
    rw [h1]
  · refine congrArg Host.Outcome.next (if_neg fun e => ?_)
    exact h.elim (fun k => nomatch e.1.symm.trans k) fun k => k e.2

end Sys2Proof.Machine
end

section
/-! Proofs for chapter 6: records that leave the table, and the timers of the override unit (R127 to R133). -/

namespace Sys2Proof.Machine

/-! ### Records that leave -/

/-- The override unit once the records that are gone have left. -/
def Overrides.without (o : Overrides) (gone : Record → Bool) : Overrides :=
  if o.table.any gone = true then { o with table := o.table.filter (fun r => !gone r), seq := o.nextSeq } else o

theorem filter_of_not_any {α : Type} {p : α → Bool} {l : List α} (h : ¬ l.any p = true) : l.filter p = [] := by
  rw [List.filter_eq_nil_iff]
  exact fun a ha hp => h (List.any_eq_true.mpr ⟨a, ha, hp⟩)

/-- Every record that is gone leaves with its notices (R118, R129, R132). -/
theorem State.removeRecords_eq (s : State) (gone : Record → Bool) : s.removeRecords gone = { s with
    overrides := s.overrides.without gone
    inFlight := s.inFlight ++ (s.overrides.table.filter gone).flatMap departureNotices } := by
  unfold State.removeRecords Overrides.without
  by_cases h : s.overrides.table.any gone = true
  · rw [if_pos h, if_pos h]
    rfl
  · rw [if_neg h, if_neg h, filter_of_not_any h]
    simp

/-! ### The status frame -/

theorem Overrides.maxRemaining_eq (o : Overrides) : o.maxRemaining
    = ((o.table.filter fun r => r.kind == .screenMax).map fun r => r.remaining.getD 0 / 1000).foldl max 0 := by
  rw [List.foldl_map]
  rfl

theorem State.offerStatus_on {s : State} (h : s.vehicle.link = .on)
    (hb : ∀ x, s.vehicle.onBus = some x → x.src ≠ .panelStatus) (f : Frame) :
    s.offerStatus f = { s with panelStatus := some f } := by
  have hbus : (s.vehicle.onBus.map fun t => if t.src = .panelStatus then { t with src := .detached } else t)
      = s.vehicle.onBus := by
    cases hx : s.vehicle.onBus with
    | none => rfl
    | some x => exact congrArg some (if_neg (hb x hx))
  unfold State.offerStatus
  dsimp only
  rw [if_pos h, hbus]

/-- Settles O38. -/
theorem overrideTimersExpire : Obligations.OverrideTimersExpire := by
  intro s kind target o cleared notices spent lost mode tz kinds longest status again
  have hspent : (fun r : Record => r.hasKey kind target && r.remaining.isSome) = spent := by
    funext r
    cases h : r.remaining <;> simp [spent, Record.hasKey, h]
  refine ⟨fun h => ?_, fun h => ?_, fun ht hp => ?_, fun ht hp => ?_, fun h => ?_, fun ht h => ?_, fun ht hu hl hb => ?_,
    fun h => ?_⟩
  · refine congrArg Host.Outcome.next ((if_pos h).trans ?_)
    rw [hspent, State.removeRecords_eq]
    rfl
  · exact congrArg Host.Outcome.next (if_neg (by rw [h]; nofun))
  · refine congrArg Host.Outcome.next ((if_neg ht).trans ((if_pos hp).trans ?_))
    rw [State.removeRecords_eq]
    rfl
  · refine congrArg Host.Outcome.next ((if_neg ht).trans ((if_neg (by rw [hp]; nofun)).trans ?_))
    rw [← hp]
  · exact congrArg Host.Outcome.next (if_pos h)
  · refine congrArg Host.Outcome.next ((if_neg ht).trans ?_)
    change (if s.sys.used = true then again.offerStatus s.statusFrame else again) = again
    rcases h with h | h
    · exact if_neg (by rw [h]; nofun)
    · split
      · exact if_neg (by rw [show again.vehicle.link = _ from h]; nofun)
      · rfl
  · have hframe : s.statusFrame = status := by
      unfold State.statusFrame Overrides.kindsPresent flagBit
      dsimp only
      rewrite [Overrides.maxRemaining_eq, Nat.add_comm (if s.overrides.present = true then 1 else 0)]
      rfl
    refine congrArg Host.Outcome.next ((if_neg ht).trans ((if_pos hu).trans ?_))
    rw [hframe]
    exact State.offerStatus_on (s := again) hl hb status
  · exact congrArg Host.Outcome.next (if_pos h)

/-! ### Answers -/

/-- The kind and the target that a request names, as its acknowledgement reports them (R121, R208). -/
def ackNames (kind target : Byte) : Nat :=
  (match targetOfCode target.toNat with
    | some (.one n) => n.val
    | some .all => 8
    | none => 0)
  + 16 * (match kindOfCode kind.toNat with
    | some k => kindCode k
    | none => 0)

theorem State.ackFrame_eq (s : State) (code : Nat) (tag kind target : Byte) (r : Report) :
    s.ackFrame code tag kind target r = ⟨canId s.sys.panelAckId,
      [byteOf (code + 8 * r.result.code : Nat), tag, byteOf (ackNames kind target : Nat)]
        ++ le16 (r.value % 1024 + 1024 * (r.place : Nat)) ++ [byteOf r.duration, byteOf r.seq, byteOf s.overrides.seq]⟩ := by
  have hv : ((ackValue r.value + 1024 * r.place : Nat) : Int) = r.value % 1024 + 1024 * (r.place : Nat) := by
    unfold ackValue
    omega
  unfold State.ackFrame
  rw [← hv]
  rfl

theorem State.ackFrame_only (s : State) (code : Nat) (tag kind target : Byte) (r : Result) :
    s.ackFrame code tag kind target (Report.only r) = ⟨canId s.sys.panelAckId,
      [byteOf (code + 8 * r.code : Nat), tag, byteOf (ackNames kind target : Nat), 0, 0, 0, 0, byteOf s.overrides.seq]⟩ := by
  have hzero : le16 (((0 : Int) % 1024) + 1024 * ((0 : Nat) : Int)) = [0, 0] := by decide
  rw [State.ackFrame_eq]
  unfold Report.only
  rw [hzero]
  rfl

theorem State.offerAck_eq (s : State) (f : Frame) : s.offerAck f = { s with
    acks := if s.vehicle.link = .on ∧ s.acks.length < 4 then s.acks ++ [f] else s.acks } := by
  unfold State.offerAck
  split <;> rfl

/-- An override request of the service side, taken with room in the response queue (R134, R207). -/
theorem State.serveOverride {s : State} (hroom : s.responses.length < 16) (hlink : s.vehicle.link = .on) (code : Nat)
    {t : State} {r : Report} (ht : t.vehicle = s.vehicle) (f : State → State × Report) (hf : f s = (t, r)) :
    (s.serveOne code fun u => ((f u).1, (f u).2.result, (f u).1.overrideContent (f u).2)) = { t with
      draws := t.draws + 1
      responses := t.responses ++ [⟨canId (0x6E1 + 2 * t.node.val),
        [byteOf (code + 32 : Nat), byteOf (1 + 8 * r.result.code : Nat)] ++ le16 r.value
          ++ [byteOf r.duration, byteOf r.seq, byteOf r.place, byteOf t.overrides.seq]⟩] } := by
  rw [State.serveOne_room hroom]
  dsimp only
  rw [hf, State.answer_one (by rw [ht]; exact hlink) _ _ (t.overrideContent_length r).le]
  rfl

/-! ### Releases, heartbeats and trip ends -/

theorem Record.hasKey_eq (r : Record) (k : OverrideKind) (t : Target) :
    r.hasKey k t = (some r.kind == some k && some r.target == some t) := rfl

theorem Overrides.find_isSome (o : Overrides) (k : OverrideKind) (t : Target) :
    (o.find k t).isSome = o.table.any fun r => r.hasKey k t := by
  rw [Bool.eq_iff_iff, Overrides.find, List.find?_isSome, List.any_eq_true]

theorem State.releaseOverride_eq (s : State) (kind target : Byte) (key : Record → Bool) (result : Nat)
    (hkey : key = fun r => some r.kind == kindOfCode kind.toNat && some r.target == targetOfCode target.toNat)
    (hresult : result = if s.part = .standby then 5 else if kindOfCode kind.toNat = none then 16
      else if targetOfCode target.toNat = none then 17 else if s.overrides.table.any key = true then 14 else 15) :
    ∃ r : Result, r.code = result ∧ s.releaseOverride kind target = ({ s with
      overrides := if result = 14 then
        { s.overrides with table := s.overrides.table.filter fun r => !key r, seq := s.overrides.nextSeq } else s.overrides
      inFlight := s.inFlight ++ (if result = 14 then (s.overrides.table.filter key).flatMap departureNotices else []) },
      Report.only r) := by
  have hstay : ∀ r : Result, r.code = result → r.code ≠ 14 → s.releaseOverride kind target = (s, Report.only r) →
      ∃ r : Result, r.code = result ∧ s.releaseOverride kind target = ({ s with
        overrides := if result = 14 then
          { s.overrides with table := s.overrides.table.filter fun r => !key r, seq := s.overrides.nextSeq }
          else s.overrides
        inFlight := s.inFlight ++ (if result = 14 then (s.overrides.table.filter key).flatMap departureNotices else []) },
        Report.only r) := by
    intro r hr hne h
    rw [hr] at hne
    refine ⟨r, hr, ?_⟩
    rw [h, if_neg hne, if_neg hne, List.append_nil]
  by_cases hs : s.part = .standby
  · rw [if_pos hs] at hresult
    exact hstay .notRunning hresult.symm nofun (if_pos hs)
  rw [if_neg hs] at hresult
  unfold State.releaseOverride at hstay ⊢
  simp only [if_neg hs] at hstay ⊢
  cases hk : kindOfCode kind.toNat with
  | none =>
    rw [if_pos hk] at hresult
    rw [hk] at hstay
    exact hstay .unknown hresult.symm nofun rfl
  | some k =>
    cases ht : targetOfCode target.toNat with
    | none =>
      rw [if_neg (by rw [hk]; nofun), if_pos ht] at hresult
      rw [hk, ht] at hstay
      exact hstay .target hresult.symm nofun rfl
    | some t =>
      rw [if_neg (by rw [hk]; nofun), if_neg (by rw [ht]; nofun)] at hresult
      rw [hk, ht] at hstay hkey
      have hfun : (fun r : Record => r.hasKey k t) = key := hkey.symm
      have hheld : (s.overrides.find k t).isSome = s.overrides.table.any key := by
        rw [Overrides.find_isSome, hfun]
      by_cases hh : s.overrides.table.any key = true
      · rw [if_pos hh] at hresult
        refine ⟨.released, hresult.symm, ?_⟩
        dsimp only
        rw [if_pos (hheld.trans hh), hfun, State.removeRecords_eq, if_pos hresult, if_pos hresult, Overrides.without,
          if_pos hh]
      · rw [if_neg hh] at hresult
        exact hstay .absent hresult.symm nofun (if_neg (by rw [hheld]; exact hh))

theorem State.panelRelease_eq {s : State} (hu : s.sys.used = true) (tag kind target : Byte) {o : Overrides}
    {es : List Instr} {r : Result} (h : s.panelAlive.releaseOverride kind target
      = ({ s.panelAlive with overrides := o, inFlight := es }, Report.only r)) :
    s.panelRelease tag kind target = { s with
      overrides := o, inFlight := es
      acks := if s.vehicle.link = .on ∧ s.acks.length < 4 then s.acks ++ [⟨canId s.sys.panelAckId,
        [byteOf (2 + 8 * r.code : Nat), tag, byteOf (ackNames kind target : Nat), 0, 0, 0, 0, byteOf o.seq]⟩]
        else s.acks } := by
  unfold State.panelRelease
  rw [if_pos hu]
  dsimp only
  rw [h, State.offerAck_eq, State.ackFrame_only]
  rfl

/-- TRIP_END arms every section (R126). -/
theorem State.armAll_eq (s : State) : s.armAll = { s with loads := s.loads.map fun l => { l with armed := true } } := by
  let S : Nat → State := fun k => { s with
    loads := upTo k (fun i : Fin 3 => { s.loads[i] with armed := true }) s.loads }
  have hwalk : s.armAll = S 3 := by
    refine forEach_eq S _ (fun i => ?_) (by simp [S])
    simp only [S, State.setArm, State.setLoad, upTo_get, upTo_succ]
  rw [hwalk]
  simp only [S, upTo_all]
  congr 1
  refine Vector.ext fun j hj => ?_
  simp

/-- Settles O37. -/
theorem releasesHeartbeatsAndTripEnds : Obligations.ReleasesHeartbeatsAndTripEnds := by
  refine ⟨?_, ?_⟩
  · intro s tag kind target o kd tg key result after notices names ack response
    refine ⟨fun hu => ?_, fun hroom hlink => ?_⟩
    · obtain ⟨r, hr, h⟩ := s.panelAlive.releaseOverride_eq kind target key result rfl rfl
      have hpanel : (if result = 14 then
          { s.panelAlive.overrides with
            table := s.panelAlive.overrides.table.filter fun r => !key r, seq := s.panelAlive.overrides.nextSeq }
          else s.panelAlive.overrides) = { after with present := true, panelTimer := some (1000 * s.sys.panelTimeout) } := by
        by_cases hres : result = 14
        · simp only [after, if_pos hres]
          rfl
        · simp only [after, if_neg hres]
          rfl
      rw [hpanel] at h
      refine congrArg Host.Outcome.next ((State.panelRelease_eq hu tag kind target h).trans ?_)
      rw [hr]
      rfl
    · obtain ⟨r, hr, h⟩ := s.releaseOverride_eq kind target key result rfl rfl
      refine congrArg Host.Outcome.next ((State.serveOverride (t := { s with
        overrides := after, inFlight := s.inFlight ++ notices }) hroom hlink 27 rfl
        (fun u => u.releaseOverride kind target) h).trans ?_)
      rw [show (Report.only r).result.code = result from hr]
      rfl
  · intro s tag alive acked hu
    refine ⟨?_, fun hs => ?_, fun hr => ?_⟩
    · refine congrArg Host.Outcome.next ((if_pos hu).trans ?_)
      rw [State.offerAck_eq]
      rfl
    · refine congrArg Host.Outcome.next ((if_pos hu).trans ((if_neg ?_).trans ?_))
      · exact fun h => nomatch hs.symm.trans h
      rw [State.offerAck_eq]
      rfl
    · refine congrArg Host.Outcome.next ((if_pos hu).trans ((if_pos hr).trans ?_))
      rw [State.offerAck_eq, State.armAll_eq]
      rfl

/-! ### Sets -/

/-- The checks of a SET (R122): it is refused and changes nothing, or it names a kind and a target and enters its record. -/
theorem State.setOverride_checked (x : State) (kind target : Byte) (usedTarget : Bool) (key : Record → Bool)
    (refusal : Nat)
    (hused : ∀ k t, kindOfCode kind.toNat = some k → targetOfCode target.toNat = some t → usedTarget = x.targetUsed k t)
    (hkey : key = fun r => some r.kind == kindOfCode kind.toNat && some r.target == targetOfCode target.toNat)
    (hrefusal : refusal = if x.part = .standby then 5 else if kindOfCode kind.toNat = none then 16
      else if targetOfCode target.toNat = none ∨ usedTarget = false then 17
      else if x.overrides.table.any key = false ∧ 16 ≤ x.overrides.table.length then 18 else 0) :
    (refusal ≠ 0 ∧ ∃ r : Result, r.code = refusal
        ∧ ∀ v d origin, x.setOverride kind target v d origin = (x, Report.only r))
      ∨ (refusal = 0 ∧ ∃ k t, kindOfCode kind.toNat = some k ∧ targetOfCode target.toNat = some t
          ∧ (fun r : Record => r.hasKey k t) = key ∧ (x.overrides.table.any key = true ∨ x.overrides.table.length < 16)
          ∧ ∀ v d origin, x.setOverride kind target v d origin = x.enterRecord k t v.toInt d.toNat origin) := by
  unfold State.setOverride
  by_cases hs : x.part = .standby
  · rw [if_pos hs] at hrefusal
    exact .inl ⟨by omega, .notRunning, hrefusal.symm, fun v d origin => if_pos hs⟩
  rw [if_neg hs] at hrefusal
  simp only [if_neg hs]
  cases hk : kindOfCode kind.toNat with
  | none =>
    rw [if_pos hk] at hrefusal
    exact .inl ⟨by omega, .unknown, hrefusal.symm, fun v d origin => rfl⟩
  | some k =>
    rw [if_neg (by rw [hk]; nofun)] at hrefusal
    cases ht : targetOfCode target.toNat with
    | none =>
      rw [if_pos (.inl ht)] at hrefusal
      exact .inl ⟨by omega, .target, hrefusal.symm, fun v d origin => rfl⟩
    | some t =>
      have hfun : (fun r : Record => r.hasKey k t) = key := by
        rw [hkey, hk, ht]
        rfl
      dsimp only
      by_cases hu : x.targetUsed k t = true
      · rw [if_neg (by rw [hused k t hk ht, hu, ht]; rintro (h | h) <;> cases h)] at hrefusal
        simp only [if_pos hu]
        by_cases hfull : x.overrides.table.any key = false ∧ 16 ≤ x.overrides.table.length
        · rw [if_pos hfull] at hrefusal
          refine .inl ⟨by omega, .full, hrefusal.symm, fun v d origin => ?_⟩
          unfold State.enterRecord
          dsimp only
          rw [Overrides.find_isSome, hfun, hfull.1, if_neg nofun, if_neg (Nat.not_lt.mpr hfull.2)]
        · rw [if_neg hfull] at hrefusal
          refine .inr ⟨hrefusal, k, t, rfl, rfl, hfun, ?_, fun v d origin => rfl⟩
          by_cases hh : x.overrides.table.any key = true
          · exact .inl hh
          · exact .inr (by simp only [Bool.not_eq_true] at hh; simpa [hh] using hfull)
      · rw [if_pos (.inr (by rw [hused k t hk ht]; exact Bool.not_eq_true _ ▸ hu))] at hrefusal
        exact .inl ⟨by omega, .target, hrefusal.symm, fun v d origin => if_neg hu⟩

/-- A SET whose key the table holds replaces that record at its place (R124). -/
theorem State.enterRecord_replaces {x : State} {k : OverrideKind} {t : Target} {key : Record → Bool}
    (hkey : (fun r : Record => r.hasKey k t) = key) (h : x.overrides.table.any key = true) (v : Int) (d : Nat)
    (origin : Origin) : x.enterRecord k t v d origin = ({ x with overrides := { x.overrides with
        table := x.overrides.table.map fun r => if key r = true then
          ⟨k, t, storedValue k v, origin, remainingOf (storedDuration k d), x.overrides.nextSeq⟩ else r
        seq := x.overrides.nextSeq } },
      ⟨if isClamped k v d then .clamped else .replaced, storedValue k v, storedDuration k d, x.overrides.nextSeq,
        x.overrides.table.findIdx key + 1⟩) := by
  subst hkey
  unfold State.enterRecord Overrides.place
  dsimp only
  rw [Overrides.find_isSome, if_pos h, if_pos h]

/-- A SET of a new key adds its record at the end of the table and notifies its entry (R124, R129, R130). -/
theorem State.enterRecord_adds {x : State} {k : OverrideKind} {t : Target} {key : Record → Bool}
    (hkey : (fun r : Record => r.hasKey k t) = key) (h : ¬ x.overrides.table.any key = true)
    (hroom : x.overrides.table.length < 16) (v : Int) (d : Nat) (origin : Origin) :
    x.enterRecord k t v d origin = ({ x with
        overrides := { x.overrides with
          table := x.overrides.table
            ++ [⟨k, t, storedValue k v, origin, remainingOf (storedDuration k d), x.overrides.nextSeq⟩]
          seq := x.overrides.nextSeq }
        inFlight := x.inFlight ++ entryNotices k t },
      ⟨if isClamped k v d then .clamped else .accepted, storedValue k v, storedDuration k d, x.overrides.nextSeq,
        x.overrides.table.length + 1⟩) := by
  subst hkey
  unfold State.enterRecord
  dsimp only
  rw [Overrides.find_isSome, if_neg h, if_pos hroom]
  rfl

theorem State.panelSet_eq {s : State} (hu : s.sys.used = true) (tag kind target : Byte) (v : BitVec 16) (d : Byte)
    {o : Overrides} {es : List Instr} {r : Report} (h : s.panelAlive.setOverride kind target v d .panel
      = ({ s.panelAlive with overrides := o, inFlight := es }, r)) :
    s.panelSet tag kind target v d = { s with
      overrides := o, inFlight := es
      acks := if s.vehicle.link = .on ∧ s.acks.length < 4 then s.acks ++ [⟨canId s.sys.panelAckId,
        [byteOf (1 + 8 * r.result.code : Nat), tag, byteOf (ackNames kind target : Nat)]
          ++ le16 (r.value % 1024 + 1024 * (r.place : Nat)) ++ [byteOf r.duration, byteOf r.seq, byteOf o.seq]⟩]
        else s.acks } := by
  unfold State.panelSet
  rw [if_pos hu]
  dsimp only
  rw [h, State.offerAck_eq, State.ackFrame_eq]
  rfl

/-- Whether a SET clamps its value or its duration (R123). -/
theorem isClamped_iff (k : OverrideKind) (v : Int) (d : Nat) : isClamped k v d = true ↔
    ((k = .setpointOffset ∨ k = .blowerBoost) ∧ storedValue k v ≠ v) ∨ storedDuration k d < d := by
  have hd : (if k = .screenMax then decide (15 < d) else decide (240 < d)) = decide (storedDuration k d < d) := by
    unfold storedDuration
    split
    · by_cases h0 : d = 0
      · subst h0
        rfl
      · rw [if_neg h0, decide_eq_decide]
        omega
    · rw [decide_eq_decide]
      omega
  unfold isClamped
  rw [show (if k = .screenMax then decide (15 < d) else decide (240 < d)) = _ from hd]
  cases k <;> simp

/-- Settles O36. -/
theorem setsEnterTheTable : Obligations.SetsEnterTheTable := by
  intro s tag kind target v d o kd tg usedTarget key value minutes cut held refusal result seq record after notices place
    shown shownValue names ack response
  have hused : ∀ k t, kd = some k → tg = some t → usedTarget = s.targetUsed k t := by
    intro k t hk ht
    simp only [usedTarget, hk, ht]
    cases k <;> cases t <;> rfl
  have hset : ∀ (x : State) (origin : Origin), x.part = s.part → x.active = s.active → x.overrides.table = o.table →
      x.overrides.seq = o.seq → ∃ r : Report, r.result.code = result ∧ r.value = shownValue ∧ r.duration = shown minutes
        ∧ r.seq = shown seq ∧ r.place = shown place ∧ x.setOverride kind target v d origin = ({ x with
          overrides := { x.overrides with table := (after origin).table, seq := (after origin).seq }
          inFlight := x.inFlight ++ notices }, r) := by
    intro x origin hpart hactive htable hseq
    have htarget : ∀ k t, s.targetUsed k t = x.targetUsed k t := by
      intro k t
      cases t <;> simp only [State.targetUsed, State.doorRow, State.zoneRow, hactive]
    rcases x.setOverride_checked kind target usedTarget key refusal
        (fun k t hk ht => (hused k t hk ht).trans (htarget k t)) rfl (by rw [hpart, htable]) with
      ⟨hne, r, hr, h⟩ | ⟨h0, k, t, hk, ht, hfun, hroom, h⟩
    · refine ⟨Report.only r, ?_, ?_, ?_, ?_, ?_, ?_⟩
      · exact hr.trans (if_pos hne).symm
      · exact (if_pos hne).symm
      · exact (if_pos hne).symm
      · exact (if_pos hne).symm
      · exact (if_pos hne).symm
      rw [h, show after origin = o from if_pos hne, ← htable, ← hseq, show notices = [] from if_pos (.inl hne),
        List.append_nil]
    · have hvalue : storedValue k v.toInt = value := by
        simp only [value, kd, hk]
        cases k <;> rfl
      have hminutes : storedDuration k d.toNat = minutes := by
        simp only [minutes, kd, hk, storedDuration, Option.some.injEq, BitVec.toNat_eq]
        rfl
      have hcut : isClamped k v.toInt d.toNat = true ↔ cut := by
        rw [isClamped_iff, hvalue, hminutes]
        simp only [cut, kd, hk, Option.some.injEq]
      have hresult : ∀ a : Result, (a.code = if held = true then 12 else 11) →
          (if isClamped k v.toInt d.toNat = true then Result.clamped else a).code = result := by
        intro a ha
        simp only [result, h0, ne_eq, not_true_eq_false, if_false, hcut]
        split
        · rfl
        · exact ha
      have hrecord : (⟨k, t, storedValue k v.toInt, origin, remainingOf (storedDuration k d.toNat),
          x.overrides.nextSeq⟩ : Record) = record origin := by
        simp only [record, kd, tg, hk, ht, Option.getD_some, hvalue, hminutes, remainingOf, Overrides.nextSeq, hseq, seq]
      have hnext : x.overrides.nextSeq = seq := by
        simp only [Overrides.nextSeq, hseq, seq]
      have hentered : ¬ refusal ≠ 0 := fun hne => hne h0
      by_cases hh : held = true
      · have hx : x.overrides.table.any key = true := by
          rw [htable]
          exact hh
        refine ⟨⟨if isClamped k v.toInt d.toNat = true then .clamped else .replaced, value, minutes, seq, place⟩,
          hresult .replaced (if_pos hh).symm, (if_neg hentered).symm, (if_neg hentered).symm, (if_neg hentered).symm,
          (if_neg hentered).symm, ?_⟩
        have hafter : after origin = _ := (if_neg hentered).trans (if_pos hh)
        have hplace : place = x.overrides.table.findIdx key + 1 := (if_pos hh).trans (by rw [htable])
        rw [h, State.enterRecord_replaces hfun hx, hrecord, hnext, hvalue, hminutes, hafter, hplace, htable,
          show notices = [] from if_pos (.inr hh), List.append_nil]
      · have hx : ¬ x.overrides.table.any key = true := by
          rw [htable]
          exact hh
        refine ⟨⟨if isClamped k v.toInt d.toNat = true then .clamped else .accepted, value, minutes, seq, place⟩,
          hresult .accepted (if_neg hh).symm, (if_neg hentered).symm, (if_neg hentered).symm, (if_neg hentered).symm,
          (if_neg hentered).symm, ?_⟩
        have hafter : after origin = _ := (if_neg hentered).trans (if_neg hh)
        have hplace : place = x.overrides.table.length + 1 := (if_neg hh).trans (by rw [htable])
        have hnotices : entryNotices k t = notices := by
          simp only [notices, h0, hh, kd, tg, hk, ht]
          cases k <;> rfl
        rw [h, State.enterRecord_adds hfun hx (hroom.resolve_left hx), hrecord, hnext, hvalue, hminutes, hafter, hplace,
          htable, hnotices]
  refine ⟨fun hu => ?_, fun hroom hlink => ?_⟩
  · obtain ⟨r, hr, hv, hd, hq, hp, h⟩ := hset s.panelAlive .panel rfl rfl rfl rfl
    have hpanel : { s.panelAlive.overrides with table := (after .panel).table, seq := (after .panel).seq }
        = { after .panel with present := true, panelTimer := some (1000 * s.sys.panelTimeout) } := by
      simp only [after]
      split
      · rfl
      · split <;> rfl
    rw [hpanel] at h
    refine congrArg Host.Outcome.next ((State.panelSet_eq hu tag kind target v d h).trans ?_)
    rw [hr, hv, hd, hq, hp]
    rfl
  · obtain ⟨r, hr, hv, hd, hq, hp, h⟩ := hset s .service rfl rfl rfl rfl
    have hservice : { s.overrides with table := (after .service).table, seq := (after .service).seq } = after .service := by
      simp only [after]
      split
      · rfl
      · split <;> rfl
    rw [hservice] at h
    refine congrArg Host.Outcome.next ((State.serveOverride (t := { s with
      overrides := after .service, inFlight := s.inFlight ++ notices }) hroom hlink 26 rfl
      (fun u => u.setOverride kind target v d .service) h).trans ?_)
    rw [hr, hv, hd, hq, hp]
    rfl

end Sys2Proof.Machine
end

section
/-! Proofs for chapter 8: deliveries, and the timers of a channel (R164 to R174). -/

namespace Sys2Proof.Machine

/-! ### What a changed output makes of the pending frame -/

/-- Whether the frame of channel c is on the climate port's bus. -/
theorem State.frameOnBus_iff (s : State) (c : Fin 24) : (s.climate.onBus.any fun b => b.src == .channel c) = true
    ↔ ∃ b, s.climate.onBus = some b ∧ b.src = .channel c := by
  simp only [Option.any_eq_true, beq_iff_eq]

/-- Whether an output is below the last carried one (R170). -/
theorem Channel.cuts_iff (x : Channel) (out : Nat) : (x.lastCarried.any fun last => out < last) = true
    ↔ ∃ last, x.lastCarried = some last ∧ out < last := by
  simp only [Option.any_eq_true, decide_eq_true_eq]

/-- A walk over the channels that leaves the channel of a row unused alone, and forms every channel that the delivery
serves (R164). -/
theorem State.formFor_eq (s : State) (src : Source) (v : Nat) : s.formFor src v = { s with
    channels := Vector.ofFn fun c : Fin 24 =>
      if (s.outputRow c).used = true ∧ (s.outputRow c).fedBy src = true then s.withCommand c (s.commandedValue c v)
      else s.channels[c] } := by
  refine forEach_channels s _ _ fun c cs hc => ?_
  have hserved : ((s.outputRow c).used && (s.outputRow c).source == some src) = true
      ↔ (s.outputRow c).used = true ∧ (s.outputRow c).fedBy src = true := by
    rw [Bool.and_eq_true, OutputRow.fedBy_spec]
  by_cases h : (s.outputRow c).used = true ∧ (s.outputRow c).fedBy src = true
  · rw [if_pos h, ← s.commandedFrom_spec c v h.1, ← Channel.command_spec, ← hc]
    exact if_pos (hserved.mpr h)
  · have hself : cs.set c (s.channels[c]) = cs := by
      rw [← hc]
      exact Vector.set_getElem_self _
    rw [if_neg h, hself]
    exact if_neg (fun hs => h (hserved.mp hs))

/-- A delivery replaces a source value and nothing else (R164). -/
theorem State.setSource_sources (s : State) (src : Source) (v : Nat) :
    s.setSource src v = { s with sources := (s.setSource src v).sources } := by
  cases src <;> rfl

/-- The part once a delivery is taken: its source value, and the channels it serves (R164, R165). -/
def State.delivered (s : State) (src : Source) (v : Nat) : State := { s with
  sources := (s.setSource src v).sources
  channels := Vector.ofFn fun c : Fin 24 =>
    if (s.outputRow c).used = true ∧ (s.outputRow c).fedBy src = true then s.withCommand c (s.commandedValue c v)
    else s.channels[c]
  inFlight := s.inFlight.erase (.sourceDelivery src v) }

theorem exec_sourceDelivery (s : State) (src : Source) (v : Nat) :
    exec (.sourceDelivery src v) s = .next (s.delivered src v) := by
  have hsources : ((s.take (.sourceDelivery src v)).setSource src v).sources = (s.setSource src v).sources := by
    cases src <;> rfl
  refine congrArg Host.Outcome.next ?_
  rw [State.setSource_sources, hsources, State.formFor_eq]
  rfl

theorem State.delivered_sourceValue (s : State) (src other : Source) (v : Nat) :
    (s.delivered src v).sourceValue other = (s.setSource src v).sourceValue other := by
  cases other <;> rfl

/-- Settles O39. -/
theorem deliveriesFormChannels : Obligations.DeliveriesFormChannels := by
  intro s src v
  refine ⟨_, exec_sourceDelivery s src v, rfl, ?_, ?_, ?_⟩
  · rw [State.delivered_sourceValue, State.setSource_sourceValue]
  · intro other h
    rw [State.delivered_sourceValue, State.setSource_sourceValue_ne s v h]
  intro c r x y heater capacity cmd out onTime onBus framed
  have hy : y = if r.used = true ∧ r.fedBy src = true then s.withCommand c cmd else x := Vector.getElem_ofFn c.isLt
  have hframed : ∀ o : Nat, (if o = x.output then x.frame else s.frameAfterChange c o) = framed o := by
    intro o
    simp only [State.frameAfterChange, State.frameOnBus_iff, Channel.cuts_iff, framed]
    simp only [heater, or_assoc]
    rfl
  refine ⟨fun h => ?_, fun hu hf hc => ?_, fun hu hf hc => ?_⟩
  · rw [hy, if_neg]
    rcases h with h | h <;> simp [h]
  · rw [hy, if_pos ⟨hu, hf⟩, ← hframed]
    exact if_pos hc
  · rw [if_pos ⟨hu, hf⟩] at hy
    have hlower : cmd < x.commanded → x.window ≠ none → s.withCommand c cmd = s.withOutput c
        (if onTime ≤ x.elapsed then 0 else x.output) { x with commanded := cmd, onTime := onTime } :=
      fun hlow hw => (if_neg (not_not.mpr hc)).trans (if_pos ⟨hlow, hw⟩)
    refine ⟨fun h => ?_, fun hlow hw => ⟨fun hlt => ?_, fun hle => ?_⟩⟩
    · rw [hy]
      refine (if_neg (not_not.mpr hc)).trans (if_neg ?_)
      rintro ⟨hlt, hw⟩
      exact h.elim (fun h => absurd hlt (Nat.not_lt.mpr h)) hw
    · rw [hy, hlower hlow hw, if_neg (Nat.not_le.mpr hlt), State.withOutput, if_pos rfl]
    · rw [hy, hlower hlow hw, if_pos hle, ← hframed]
      rfl

/-! ### The timers of a channel -/

/-- Settles O40. -/
theorem channelTimersExpire : Obligations.ChannelTimersExpire := by
  intro s c r x put onTime power onBus free judged framed first misses
  have hpower : ∀ o : Nat, ((s.outputRow c).isPower && x.lastCarried.any fun last => o < last) = true
      ↔ power ∧ ∃ last, x.lastCarried = some last ∧ o < last := by
    intro o
    rw [Bool.and_eq_true, OutputRow.isPower_spec, decide_eq_true_eq, Channel.cuts_iff]
  have hframed : ∀ o : Nat, (if o = x.output then x.frame else s.frameAfterChange c o) = framed o := by
    intro o
    simp only [State.frameAfterChange, State.frameOnBus_iff, Channel.cuts_iff, framed]
    by_cases ho : o = x.output
    · rw [if_pos ho, if_pos (.inl ho)]
    rw [if_neg ho]
    by_cases hn : x.frame = .none ∧ 14 < r.level
    · rw [if_pos hn, if_pos (.inr (.inl hn)), hn.1]
    rw [if_neg hn]
    by_cases hb : x.frame = .offered ∧ onBus
    · rw [if_pos hb, if_pos (.inr (.inr hb)), hb.1]
    · have hmade : ¬ (o = x.output ∨ (x.frame = .none ∧ 14 < r.level) ∨ (x.frame = .offered ∧ onBus)) := by
        rintro (h | h | h)
        · exact ho h
        · exact hn h
        · exact hb h
      rw [if_neg hb, if_neg hmade]
  have hput : ∀ (out : Nat) (y : Channel), s.withOutput c out y = { y with output := out, frame := framed out } := by
    intro out y
    rw [← hframed]
    rfl
  have hoffer : ∀ y : Channel, Channel.offer (s.channelView c) y = { y with frame := free } := by
    intro y
    simp only [Channel.offer, free, State.channelView, beq_iff_eq]
  have hjudge : ∀ y : Channel, y.spacing = x.spacing → y.output = x.output → y.lastCarried = x.lastCarried →
      Channel.judge (s.channelView c) y = { y with frame := judged x.output } := by
    intro y hs ho hl
    have hexempt : Channel.exempt (s.channelView c) y = true ↔ power ∧ ∃ last, x.lastCarried = some last ∧ x.output < last := by
      rw [← hpower, Channel.exempt, ho, hl]
      rfl
    unfold Channel.judge
    simp only [judged, hs, hexempt, hoffer]
    split <;> rfl
  have hself : put x = s := by
    simp only [put, x, Fin.getElem_fin, Vector.set_getElem_self]
  have honEnd : Channel.hasOnEnd (s.channelView c) x = true
      ↔ x.window ≠ none ∧ x.output = 1 ∧ x.onTime < 1000 * r.window := by
    unfold Channel.hasOnEnd
    simp only [Bool.and_eq_true, Option.isSome_iff_ne_none, beq_iff_eq, decide_eq_true_eq, and_assoc]
    rfl
  have hstopped : ∀ y : Channel, y = x → Host.Outcome.next (s.setChannel c y) = (.next s : Host.Outcome State Fault Refusal) := by
    rintro y rfl
    exact congrArg Host.Outcome.next hself
  refine ⟨fun h => ?_, fun hw ho ht => ?_, fun h => ?_, fun h => ?_, fun h => ?_, fun h => ?_, fun h => ?_, fun h => ?_,
    fun h => ?_, fun h => ?_⟩
  · refine congrArg (fun y => Host.Outcome.next (s.setChannel c y)) ((if_neg h).trans ?_)
    refine (Channel.windowStart_spec s c x.commanded).trans ?_
    rw [State.withWindow, hput]
  · refine congrArg (fun y => Host.Outcome.next (s.setChannel c y)) ((if_pos (honEnd.mpr ⟨hw, ho, ht⟩)).trans ?_)
    exact (Channel.setOutput_spec s c 0 { x with elapsed := max x.elapsed x.onTime } rfl rfl rfl rfl).trans (hput 0 _)
  · refine hstopped _ (if_neg ?_)
    rw [honEnd]
    rintro ⟨hw, ho, ht⟩
    rcases h with h | h | h
    · exact hw h
    · exact h ho
    · exact absurd ht (Nat.not_lt.mpr h)
  · refine congrArg (fun y => Host.Outcome.next (s.setChannel c y)) ((if_neg h).trans ?_)
    by_cases hw : x.frame = .waiting
    · rw [if_pos hw, if_pos hw]
      exact hoffer _
    · rw [if_neg hw, if_neg hw]
  · refine congrArg (fun y => Host.Outcome.next (s.setChannel c y)) ((if_neg h).trans ?_)
    have hmade : (if x.frame = .none ∧ r.level ≤ 14 then judged x.output else x.frame)
        = if x.frame = .none then if r.level ≤ 14 then judged x.output else x.frame else x.frame := by
      by_cases hn : x.frame = .none
      · simp only [hn, true_and, if_true]
      · simp only [hn, false_and, if_false]
    rw [hmade]
    by_cases hn : x.frame = .none
    · refine (if_pos hn).trans ?_
      rw [if_pos hn]
      by_cases hl : r.level ≤ 14
      · rw [if_pos hl]
        exact (if_pos hl).trans (hjudge { x with periodic := some r.period } rfl rfl rfl)
      · rw [if_neg hl]
        exact if_neg hl
    · exact (if_neg hn).trans
        (congrArg (fun f => ({ x with periodic := some r.period, frame := f } : Channel)) (if_neg hn).symm)
  · refine congrArg Host.Outcome.next ?_
    have hfault : ((x.faulted || misses == 3) && !x.faulted) = true ↔ x.faulted = false ∧ misses = 3 := by
      cases x.faulted <;> simp
    have hkept : (x.faulted || misses == 3) = x.faulted ↔ ¬ (x.faulted = false ∧ misses = 3) := by
      cases x.faulted <;> simp
    let y : Channel := { x with replyWait := none, misses := misses, faulted := x.faulted || misses == 3 }
    have hset := s.setHealth_eq c y
    rw [show Channel.replyWaitExpiry s.channels[c] = y from if_neg h]
    by_cases hn : x.faulted = false ∧ misses = 3
    · rw [if_pos (show (y.faulted && !s.channels[c].faulted) = true from hfault.mpr hn),
        if_neg (show ¬ y.faulted = s.channels[c].faulted from fun e => hkept.mp e hn), ← OutputRow.find_isFor] at hset
      rw [if_pos hn, if_pos hn]
      exact hset
    · rw [if_neg (show ¬ (y.faulted && !s.channels[c].faulted) = true from fun e => hn (hfault.mp e)),
        if_pos (show y.faulted = s.channels[c].faulted from hkept.mpr hn)] at hset
      rw [if_neg hn, if_neg hn]
      exact hset
  · exact hstopped _ (if_pos h)
  · exact hstopped _ (if_pos h)
  · exact hstopped _ (if_pos h)
  · refine congrArg Host.Outcome.next ?_
    have hset := s.setHealth_eq c x
    rw [if_neg (show ¬ (x.faulted && !s.channels[c].faulted) = true by cases x.faulted <;> simp),
      if_pos (show x.faulted = s.channels[c].faulted from rfl), List.append_nil] at hset
    rw [show Channel.replyWaitExpiry s.channels[c] = x from if_pos h]
    exact hset.trans hself

end Sys2Proof.Machine
end

section
/-! Proofs for section 9.4: the rows that the load engine opens, fills and closes, and its other requests (R190 to R196). -/

namespace Sys2Proof.Machine

/-! ### The answer of a load request -/

/-- The part once a load request that left t and found r is answered, with the count of free bytes drawn before it (R190,
R207). -/
def State.reported (t : State) (draws code : Nat) (r : Result) (extra : List Byte) : State := { t with
  draws := t.draws + 1
  responses := t.responses ++ [⟨canId (0x6E1 + 2 * t.node.val),
    [byteOf (code + 32 : Nat), byteOf (1 + 8 * r.code : Nat)] ++ t.engine.report (Config.freeByte 0 draws)
      ++ [extra.getD 0 0, extra.getD 1 0, extra.getD 2 0]⟩] }

theorem State.serveLoad_room {s : State} (hlink : s.vehicle.link = .on) (hroom : s.responses.length < 16) (code : Nat)
    {f : State → LoadOutcome} {t : State} {r : Result} {extra : List Byte} (hf : f s = (t, r, extra))
    (hv : t.vehicle = s.vehicle) (he : extra.length ≤ 3) : s.serveLoad code f = t.reported s.draws code r extra := by
  have hlen : (t.engine.report (Config.freeByte 0 s.draws) ++ extra).length ≤ 6 := by
    simp only [List.length_append, Engine.report_length]
    omega
  unfold State.serveLoad
  rw [State.serveOne_room hroom]
  dsimp only
  rw [hf]
  refine (State.answer_one (by rw [hv]; exact hlink) code r hlen).trans ?_
  have hbytes : ((List.range 6).map fun j => (t.engine.report (Config.freeByte 0 s.draws) ++ extra).getD j 0)
      = t.engine.report (Config.freeByte 0 s.draws) ++ [extra.getD 0 0, extra.getD 1 0, extra.getD 2 0] := by
    cases t.engine <;> rfl
  rw [hbytes]
  rfl

/-! ### Which state of the engine carries a request out -/

theorem State.whenIdle_idle {s : State} (h : s.engine = .idle) (f : State → LoadOutcome) : s.whenIdle f = f s := by
  rw [State.whenIdle, h]

theorem State.whenIdle_assembling {s : State} {o : OpenRow} (h : s.engine = .assembling o) (f : State → LoadOutcome) :
    s.whenIdle f = s.haltWith .sequence := by
  rw [State.whenIdle, h]

theorem State.whenIdle_halted {s : State} {x : HaltCode} (h : s.engine = .halted x) (f : State → LoadOutcome) :
    s.whenIdle f = (s, .halted, []) := by
  rw [State.whenIdle, h]

theorem State.whenAssembling_idle {s : State} (h : s.engine = .idle) (f : OpenRow → LoadOutcome) :
    s.whenAssembling f = s.haltWith .sequence := by
  rw [State.whenAssembling, h]

theorem State.whenAssembling_assembling {s : State} {o : OpenRow} (h : s.engine = .assembling o)
    (f : OpenRow → LoadOutcome) : s.whenAssembling f = f o := by
  rw [State.whenAssembling, h]

theorem State.whenAssembling_halted {s : State} {x : HaltCode} (h : s.engine = .halted x) (f : OpenRow → LoadOutcome) :
    s.whenAssembling f = (s, .halted, []) := by
  rw [State.whenAssembling, h]

theorem State.withTable_some {s : State} {table : Byte} {t : TableId} (h : TableId.ofCode table.toNat = some t)
    (f : TableId → LoadOutcome) : s.withTable table f = f t := by
  rw [State.withTable, h]

theorem State.withTable_none {s : State} {table : Byte} (h : TableId.ofCode table.toNat = none)
    (f : TableId → LoadOutcome) : s.withTable table f = (s, .range, []) := by
  rw [State.withTable, h]

theorem State.openRow_unknown {s : State} (h : s.engine = .idle) {table row : Byte}
    (hn : ∀ t, ¬ (TableId.ofCode table.toNat = some t ∧ row.toNat < t.rowCount)) :
    State.openRow table row s = (s, .range, []) := by
  rw [State.openRow, State.whenIdle_idle h]
  cases ht : TableId.ofCode table.toNat with
  | none => exact State.withTable_none ht _
  | some t => exact (State.withTable_some ht _).trans (if_neg fun hr => hn t ⟨ht, hr⟩)

/-- Settles O41. -/
theorem rowsAreOpenedAndFilled : Obligations.RowsAreOpenedAndFilled := by
  intro s table row b0 b1 b2 b3 b4 b5 hlink hroom leaves opens fills halted known
  have hanswer : ∀ (code : Nat) {f : State → LoadOutcome} {t : State} {r : Result}, f s = (t, r, []) →
      t.vehicle = s.vehicle → (Host.Outcome.next (s.serveLoad code f) : Host.Outcome State Fault Refusal)
        = .next (t.reported s.draws code r []) :=
    fun code f t r hf hv => congrArg Host.Outcome.next (State.serveLoad_room hlink hroom code hf hv (Nat.zero_le 3))
  refine ⟨fun h t ht => ?_, fun h hn => ?_, fun o h => ?_, fun x h => ?_, fun o h hl => ?_, fun o h hl => ?_,
    fun h => ?_, fun x h => ?_⟩
  · exact (hanswer 3 ((State.whenIdle_idle h _).trans ((State.withTable_some ht.1 _).trans (if_pos ht.2))) (by rfl)).trans rfl
  · refine (hanswer 3 (State.openRow_unknown h hn) (by rfl)).trans ?_
    rw [← h]
    rfl
  · exact (hanswer 3 (State.whenIdle_assembling h _) (by rfl)).trans rfl
  · refine (hanswer 3 (State.whenIdle_halted h _) (by rfl)).trans ?_
    rw [← h]
    rfl
  · exact (hanswer 4 ((State.whenAssembling_assembling h _).trans (if_pos hl)) (by rfl)).trans rfl
  · exact (hanswer 4 ((State.whenAssembling_assembling h _).trans (if_neg (Nat.not_le.mpr hl))) (by rfl)).trans rfl
  · exact (hanswer 4 (State.whenAssembling_idle h _) (by rfl)).trans rfl
  · refine (hanswer 4 (State.whenAssembling_halted h _) (by rfl)).trans ?_
    rw [← h]
    rfl

/-- A bank keeps its mark and its rows when a request writes no row. -/
theorem State.clearRow_unknown {s : State} {table row : Byte} {t : TableId} (h : s.engine = .idle)
    (ht : TableId.ofCode table.toNat = some t) (hall : row ≠ 255) (hr : t.rowCount ≤ row.toNat) :
    State.clearRow table row s = (s, .range, []) :=
  (State.whenIdle_idle h _).trans ((State.withTable_some ht _).trans ((if_neg hall).trans (if_neg (Nat.not_lt.mpr hr))))

/-- Settles O42. -/
theorem requestsOnTheShadowBank : Obligations.RequestsOnTheShadowBank := by
  refine ⟨?_, ?_⟩
  · intro s hlink hroom leaves halted
    have hanswer : ∀ {t : State} {r : Result}, State.closeRow s = (t, r, []) → t.vehicle = s.vehicle →
        exec .rowClose s = .next (t.reported s.draws 5 r []) :=
      fun hf hv => congrArg Host.Outcome.next (State.serveLoad_room hlink hroom 5 hf hv (Nat.zero_le 3))
    refine ⟨fun o h => ⟨fun hl => ?_, fun hl hc => ?_, fun hl hc => ?_⟩, fun h => ?_, fun x h => ?_⟩
    · exact hanswer ((State.whenAssembling_assembling h _).trans (if_pos hl)) (by rfl)
    · exact hanswer ((State.whenAssembling_assembling h _).trans ((if_neg (Nat.not_lt.mpr hl)).trans
        (if_neg (by rw [hc]; nofun)))) (by rfl)
    · exact hanswer ((State.whenAssembling_assembling h _).trans ((if_neg (Nat.not_lt.mpr hl)).trans (if_pos hc))) (by rfl)
    · exact hanswer (State.whenAssembling_idle h _) (by rfl)
    · refine (hanswer (State.whenAssembling_halted h _) (by rfl)).trans ?_
      rw [← h]
      rfl
  · intro s table row hlink hroom leaves written halted
    have hanswer : ∀ (code : Nat) {f : State → LoadOutcome} {t : State} {r : Result}, f s = (t, r, []) →
        t.vehicle = s.vehicle → (Host.Outcome.next (s.serveLoad code f) : Host.Outcome State Fault Refusal)
          = .next (t.reported s.draws code r []) :=
      fun code f t r hf hv => congrArg Host.Outcome.next (State.serveLoad_room hlink hroom code hf hv (Nat.zero_le 3))
    refine ⟨fun t h ht => ⟨fun hr => ?_, fun hr => ?_, fun hall hr => ?_, ?_⟩, fun h ht => ⟨?_, ?_⟩,
      fun o h => ⟨?_, ?_, ?_, ?_⟩, fun x h => ⟨?_, ?_, ?_, ?_⟩, fun h => ⟨?_, ?_⟩⟩
    · refine (hanswer 6 ((State.whenIdle_idle h _).trans ((State.withTable_some ht _).trans (if_pos hr))) (by rfl)).trans ?_
      rw [← h]
      rfl
    · have hall : row ≠ 255 := by
        rintro rfl
        cases t <;> exact absurd hr (by decide)
      refine (hanswer 6 ((State.whenIdle_idle h _).trans ((State.withTable_some ht _).trans ((if_neg hall).trans
        (if_pos hr)))) (by rfl)).trans ?_
      rw [← h]
      rfl
    · refine (hanswer 6 (State.clearRow_unknown h ht hall hr) (by rfl)).trans ?_
      rw [← h]
      rfl
    · refine (hanswer 8 ((State.whenIdle_idle h _).trans (State.withTable_some ht _)) (by rfl)).trans ?_
      rw [← h]
      rfl
    · refine (hanswer 6 ((State.whenIdle_idle h _).trans (State.withTable_none ht _)) (by rfl)).trans ?_
      rw [← h]
      rfl
    · refine (hanswer 8 ((State.whenIdle_idle h _).trans (State.withTable_none ht _)) (by rfl)).trans ?_
      rw [← h]
      rfl
    · exact (hanswer 6 (State.whenIdle_assembling h _) (by rfl)).trans rfl
    · exact (hanswer 8 (State.whenIdle_assembling h _) (by rfl)).trans rfl
    · refine (hanswer 19 (show State.resumeLoad s = (s, .ok, []) by rw [State.resumeLoad, h]) (by rfl)).trans ?_
      rw [← h]
      rfl
    · exact congrArg Host.Outcome.next (show State.assemblyExpiry s = s.halt .timeout by rw [State.assemblyExpiry, h])
    · refine (hanswer 6 (State.whenIdle_halted h _) (by rfl)).trans ?_
      rw [← h]
      rfl
    · refine (hanswer 8 (State.whenIdle_halted h _) (by rfl)).trans ?_
      rw [← h]
      rfl
    · exact hanswer 19 (show State.resumeLoad s = ({ s with engine := .idle }, .ok, []) by rw [State.resumeLoad, h]) (by rfl)
    · exact congrArg Host.Outcome.next (show State.assemblyExpiry s = s by rw [State.assemblyExpiry, h])
    · refine (hanswer 19 (show State.resumeLoad s = (s, .ok, []) by rw [State.resumeLoad, h]) (by rfl)).trans ?_
      rw [← h]
      rfl
    · exact congrArg Host.Outcome.next (show State.assemblyExpiry s = s by rw [State.assemblyExpiry, h])

end Sys2Proof.Machine
end

section
/-! Proofs for the validation of the table rows: the field check of ROW_CLOSE and the conditions of COMMIT (R193, R195,
R205). -/

namespace Sys2Proof.Machine

/-! ### Codes (R204) -/

theorem portOfCode_isSome (c : Nat) : (portOfCode c).isSome = true ↔ 1 ≤ c ∧ c ≤ 2 := by
  rcases c with _ | _ | _ | c <;> simp [portOfCode]

theorem FrameClass.ofCode_isSome (c : Nat) : (FrameClass.ofCode c).isSome = true ↔ 1 ≤ c ∧ c ≤ 4 := by
  rcases c with _ | _ | _ | _ | _ | c <;> simp [FrameClass.ofCode]

theorem ByteOrder.ofCode_isSome (c : Nat) : (ByteOrder.ofCode c).isSome = true ↔ 1 ≤ c ∧ c ≤ 2 := by
  rcases c with _ | _ | _ | c <;> simp [ByteOrder.ofCode]

theorem SlotKind.ofCode_isSome (c : Nat) : (SlotKind.ofCode c).isSome = true ↔ 1 ≤ c ∧ c ≤ 3 := by
  rcases c with _ | _ | _ | _ | c <;> simp [SlotKind.ofCode]

theorem BurstMode.ofCode_isSome (c : Nat) : (BurstMode.ofCode c).isSome = true ↔ 1 ≤ c ∧ c ≤ 5 := by
  rcases c with _ | _ | _ | _ | _ | _ | c <;> simp [BurstMode.ofCode]

theorem stepStageOfCode_isSome (c : Nat) : (stepStageOfCode c).isSome = true ↔ 1 ≤ c ∧ c ≤ 3 := by
  rcases c with _ | _ | _ | _ | c <;> simp [stepStageOfCode]

theorem OutFunction.ofCode_isSome (c : Nat) : (OutFunction.ofCode c).isSome = true ↔ 1 ≤ c ∧ c ≤ 7 := by
  rcases c with _ | _ | _ | _ | _ | _ | _ | _ | c <;> simp [OutFunction.ofCode]

theorem Encoding.ofCode_isSome (c : Nat) : (Encoding.ofCode c).isSome = true
    ↔ (1 ≤ c ∧ c ≤ 2) ∨ (11 ≤ c ∧ c ≤ 14) := by
  unfold Encoding.ofCode
  split_ifs <;> simp <;> omega

theorem FrameClass.ofCode_signal (c : Nat) : FrameClass.ofCode c = some .signal ↔ c = 1 := by
  rcases c with _ | _ | _ | _ | _ | c <;> simp [FrameClass.ofCode]

theorem FrameClass.ofCode_panel (c : Nat) : FrameClass.ofCode c = some .panel ↔ c = 2 := by
  rcases c with _ | _ | _ | _ | _ | c <;> simp [FrameClass.ofCode]

theorem FrameClass.ofCode_reply (c : Nat) : FrameClass.ofCode c = some .reply ↔ c = 3 := by
  rcases c with _ | _ | _ | _ | _ | c <;> simp [FrameClass.ofCode]

theorem portOfCode_vehicle (c : Nat) : portOfCode c = some .vehicle ↔ c = 1 := by
  rcases c with _ | _ | _ | c <;> simp [portOfCode]

theorem portOfCode_climate (c : Nat) : portOfCode c = some .climate ↔ c = 2 := by
  rcases c with _ | _ | _ | c <;> simp [portOfCode]

theorem ByteOrder.ofCode_msbFirst (c : Nat) : ByteOrder.ofCode c = some .msbFirst ↔ c = 2 := by
  rcases c with _ | _ | _ | c <;> simp [ByteOrder.ofCode]

theorem SlotKind.ofCode_measure (c : Nat) : SlotKind.ofCode c = some .measure ↔ c = 1 := by
  rcases c with _ | _ | _ | _ | c <;> simp [SlotKind.ofCode]

/-! ### Bits and bytes of a row -/

theorem bitAt_zero (r : RowBytes) (k : Nat) : bitAt r k 0 = true ↔ u8 r k % 2 = 1 := by
  simp [bitAt, Nat.testBit_zero]

theorem bitAt_one (r : RowBytes) (k : Nat) : bitAt r k 1 = true ↔ u8 r k / 2 % 2 = 1 := by
  simp [bitAt, Nat.testBit_succ, Nat.testBit_zero]

theorem u8_le (r : RowBytes) (k : Nat) : u8 r k ≤ 255 := by
  unfold u8
  have := (r.getD k 0).isLt
  omega

/-- A signed byte lies from -20 to 20 (R84). -/
theorem s8_small (r : RowBytes) (k : Nat) : (-20 ≤ s8 r k ∧ s8 r k ≤ 20) ↔ (u8 r k ≤ 20 ∨ 236 ≤ u8 r k) := by
  have hle := u8_le r k
  unfold s8 signedOf
  split <;> omega

theorem inRange_iff (lo x hi : Nat) : inRange lo x hi = true ↔ lo ≤ x ∧ x ≤ hi := by
  simp [inRange]

theorem slotOrNone_iff (c : Nat) : slotOrNone c = true ↔ c ≤ 63 ∨ c = 255 := by
  simp [slotOrNone]

theorem idInRange_iff (c : Nat) : idInRange c = true ↔ c ≤ 0x7FF := by
  simp [idInRange]

/-! ### The two checks -/

theorem rowCloseOk_iff (t : TableId) (i : Nat) (r : RowBytes) :
    rowCloseOk t i r = true ↔ (rowValidated t r = true → fieldsOk t i r = true) := by
  unfold rowCloseOk
  cases rowValidated t r <;> simp

theorem commitRowOk_iff (node : Fin 4) (t : TableId) (rows : List RowBytes) (i : Nat) :
    commitRowOk node t rows i = true ↔ rowCloseOk t i (rows.getD i []) = true
      ∧ (rowValidated t (rows.getD i []) = true → relationsOk node t rows i (rows.getD i []) = true) := by
  unfold commitRowOk rowCloseOk
  dsimp only
  cases rowValidated t (rows.getD i []) <;> simp

/-- Settles O43. -/
theorem rowFieldsAreChecked : Obligations.RowFieldsAreChecked := by
  intro i r byte word number slot used passes
  have hused : bitAt r 0 0 = true ↔ used := bitAt_zero r 0
  refine ⟨?_, ?_, ?_, fun hi => ?_, fun hi => ?_, ?_, ?_, ?_, ?_, ?_, ?_, ?_, ?_, ?_⟩
  · refine (rowCloseOk_iff _ _ _).trans (imp_congr hused ?_)
    simp only [fieldsOk, FrameRow.fieldsOk, FrameRow.ofBytes, FrameRow.cls, portOfCode_isSome, FrameClass.ofCode_isSome,
      idInRange_iff, FrameClass.ofCode_signal, Bool.and_eq_true, Bool.or_eq_true, bne_iff_ne, ne_eq, byte, word]
    grind
  · refine (rowCloseOk_iff _ _ _).trans (imp_congr bne_iff_ne ?_)
    simp only [fieldsOk, FieldRow.fieldsOk, FieldRow.ofBytes, FieldRow.order, ByteOrder.ofCode_isSome, inRange_iff,
      Bool.and_eq_true, byte]
    grind
  · refine (rowCloseOk_iff _ _ _).trans (imp_congr hused ?_)
    simp only [fieldsOk, SlotRow.fieldsOk, SlotRow.ofBytes, SlotRow.kind, SlotKind.ofCode_isSome, inRange_iff,
      Bool.and_eq_true, byte, word]
    grind
  · refine (rowCloseOk_iff _ _ _).trans (imp_congr hused ?_)
    simp only [fieldsOk, if_pos hi, ZoneRow.fieldsOk, ZoneRow.ofBytes, inRange_iff, Bool.and_eq_true,
      byte, word, number]
    grind
  · refine (rowCloseOk_iff _ _ _).trans (imp_congr hused ?_)
    simp only [fieldsOk, if_neg (Nat.not_lt.mpr hi), SectRow.fieldsOk, SectRow.ofBytes, Bool.and_eq_true,
      word]
    grind
  · refine (rowCloseOk_iff _ _ _).trans ((forall_prop_of_true rfl).trans ?_)
    simp only [fieldsOk, ListRow.fieldsOk, ListRow.ofBytes, Bool.and_eq_true, byte]
    grind
  · refine (rowCloseOk_iff _ _ _).trans (imp_congr hused ?_)
    simp only [fieldsOk, DoorRow.fieldsOk, DoorRow.ofBytes, BurstFields.fieldsOk, BurstFields.mode,
      BurstMode.ofCode_isSome, inRange_iff, slotOrNone_iff, Bool.and_eq_true, byte, word, slot]
    grind
  · refine (rowCloseOk_iff _ _ _).trans (imp_congr hused ?_)
    simp only [fieldsOk, BandRow.fieldsOk, BandRow.ofBytes, Bool.and_eq_true, and_assoc, byte, word,
      ← s8_small]
    grind
  · refine (rowCloseOk_iff _ _ _).trans (imp_congr hused ?_)
    simp only [fieldsOk, StepRow.fieldsOk, StepRow.ofBytes, stepStageOfCode_isSome, Bool.and_eq_true,
      byte, word, number]
    grind
  · refine (rowCloseOk_iff _ _ _).trans ((forall_prop_of_true rfl).trans ?_)
    simp only [fieldsOk, StageRow.fieldsOk, StageRow.ofBytes, Bool.and_eq_true, byte, word]
    grind
  · refine (rowCloseOk_iff _ _ _).trans ((forall_prop_of_true rfl).trans ?_)
    simp only [fieldsOk, ClaimRow.fieldsOk, ClaimRow.ofBytes, Bool.and_eq_true, byte, word]
    grind
  · refine (rowCloseOk_iff _ _ _).trans ((forall_prop_of_true rfl).trans ?_)
    simp only [fieldsOk, BudgetRow.fieldsOk, BudgetRow.ofBytes, Bool.and_eq_true, word]
    grind
  · refine (rowCloseOk_iff _ _ _).trans (imp_congr hused ?_)
    simp only [fieldsOk, OutputRow.fieldsOk, OutputRow.ofBytes, OutputRow.func, OutFunction.ofCode_isSome,
      OutputRow.encoding, Encoding.ofCode_isSome, inRange_iff, idInRange_iff, Bool.and_eq_true, byte,
      word]
    grind
  · refine (rowCloseOk_iff _ _ _).trans (imp_congr hused ?_)
    simp only [fieldsOk, SystemRow.fieldsOk, inRange_iff, slotOrNone_iff, idInRange_iff, Bool.and_eq_true,
      decide_eq_true_eq, and_assoc, List.forall_mem_cons, List.not_mem_nil, false_imp_iff, implies_true, true_and,
      Nat.zero_le, byte, word, slot]
    rfl

/-! ### The conditions of a commit -/

/-- Row i of a used-flag table is valid when it passes the field check and, if used, its relations. -/
theorem commitRowOk_used {node : Fin 4} {t : TableId} {rows : List RowBytes} {i : Nat} {relations : Prop}
    (hv : rowValidated t (rows.getD i []) = bitAt (rows.getD i []) 0 0)
    (h : u8 (rows.getD i []) 0 % 2 = 1 → fieldsOk t i (rows.getD i []) = true →
      (relationsOk node t rows i (rows.getD i []) = true ↔ relations)) :
    commitRowOk node t rows i = true ↔ rowCloseOk t i (rows.getD i []) = true
      ∧ (u8 (rows.getD i []) 0 % 2 = 1 → relations) := by
  rw [commitRowOk_iff, rowCloseOk_iff, hv, bitAt_zero]
  refine and_congr_right fun hc => forall_congr' fun hu => h hu (hc hu)

/-- A table whose rows have no relations. -/
theorem commitRowOk_free {node : Fin 4} {t : TableId} {rows : List RowBytes} {i : Nat}
    (h : ∀ r, relationsOk node t rows i r = true) :
    commitRowOk node t rows i = true ↔ rowCloseOk t i (rows.getD i []) = true ∧ True := by
  rw [commitRowOk_iff]
  exact and_congr_right fun _ => iff_of_true (fun _ => h _) trivial

theorem firstBadRow_eq_none (node : Fin 4) (t : TableId) (rows : List RowBytes) :
    firstBadRow node t rows = none ↔ ∀ j < t.rowCount, commitRowOk node t rows j = true := by
  simp [firstBadRow, List.find?_eq_none]

theorem firstBadRow_eq_some (node : Fin 4) (t : TableId) (rows : List RowBytes) (i : Nat) :
    firstBadRow node t rows = some i ↔ i < t.rowCount ∧ commitRowOk node t rows i = false
      ∧ ∀ j < i, commitRowOk node t rows j = true := by
  simp only [firstBadRow, List.find?_range_eq_some, Bool.not_eq_true', List.mem_range, Bool.not_not]
  exact and_left_comm

/-! ### The relations, on the fields of a row -/

theorem frameRelationsOk_iff (node : Fin 4) (rows : List RowBytes) (i : Nat) (r : FrameRow) :
    frameRelationsOk node rows i r = true ↔
      (∀ j < rows.length, j ≠ i → (FrameRow.ofBytes (rows.getD j [])).used = true →
          ¬ ((FrameRow.ofBytes (rows.getD j [])).portCode = r.portCode ∧ (FrameRow.ofBytes (rows.getD j [])).id = r.id))
        ∧ ¬ (r.portCode = 1 ∧ r.id = serviceRequestId node)
        ∧ (r.classCode = 1 → 1 ≤ r.count ∧ r.count ≤ 8 ∧ r.first + r.count - 1 ≤ 127)
        ∧ (r.classCode = 2 → r.portCode = 1) ∧ (r.classCode = 3 → r.portCode = 2) := by
  simp only [frameRelationsOk, FrameRow.cls, Bool.and_eq_true, Bool.or_eq_true, bne_iff_ne, beq_iff_eq, ne_eq,
    decide_eq_true_eq, List.all_eq_true, List.mem_range, Bool.not_eq_true', Bool.eq_false_iff, portOfCode_vehicle,
    portOfCode_climate, FrameClass.ofCode_signal, FrameClass.ofCode_panel, FrameClass.ofCode_reply, inRange_iff,
    and_assoc]
  grind

theorem fieldRelationsOk_iff {r : FieldRow} (h : 1 ≤ r.orderCode ∧ r.orderCode ≤ 2) : fieldRelationsOk r = true ↔
    (r.orderCode = 1 → r.byteOff + r.span - 1 ≤ 7) ∧ (r.orderCode = 2 → r.span ≤ r.byteOff + 1) := by
  obtain h1 | h2 : r.orderCode = 1 ∨ r.orderCode = 2 := by omega
  · have ho : r.order = some .lsbFirst := by rw [FieldRow.order, h1]; rfl
    simp [fieldRelationsOk, ho, h1]
  · have ho : r.order = some .msbFirst := by rw [FieldRow.order, h2]; rfl
    simp [fieldRelationsOk, ho, h2]

theorem slotRelationsOk_iff (r : SlotRow) : slotRelationsOk r = true ↔
    r.lo ≤ r.hi ∧ r.lo ≤ r.substitute ∧ r.substitute ≤ r.hi ∧ (r.kindCode ≠ 1 → 0 ≤ r.lo ∧ r.hi ≤ 255) := by
  simp [slotRelationsOk, SlotRow.kind, SlotKind.ofCode_measure, and_assoc, or_iff_not_imp_left]

theorem zoneRelationsOk_iff (rows : List RowBytes) (i : Nat) (r : ZoneRow) : zoneRelationsOk rows i r = true ↔
    r.smin ≤ r.smax ∧ r.listFirst + r.listCount - 1 ≤ 31 ∧ (r.cab = true → ∀ j < i,
      ¬ ((ZoneRow.ofBytes (rows.getD j [])).used = true ∧ (ZoneRow.ofBytes (rows.getD j [])).cab = true)) := by
  simp only [zoneRelationsOk, Bool.and_eq_true, Bool.or_eq_true, decide_eq_true_eq, List.all_eq_true, List.mem_range,
    Bool.not_eq_true', Bool.eq_false_iff, ne_eq, and_assoc, ← imp_iff_not_or]

theorem doorRelationsOk_iff (r : DoorRow) : doorRelationsOk r = true ↔
    (r.burst.modeCode = 3 ∨ r.burst.modeCode = 4 → r.burst.n ≠ 0) ∧ r.stateSlot ≠ r.boardedSlot
      ∧ r.stateSlot ≠ r.alightedSlot ∧ (r.boardedSlot = r.alightedSlot → r.boardedSlot = 255) := by
  simp only [doorRelationsOk, Bool.and_eq_true, Bool.or_eq_true, bne_iff_ne, ne_eq, beq_iff_eq,
    BurstFields.mode_everyNth, BurstFields.mode_accumulate, and_assoc]
  tauto

theorem outputRelationsOk_iff (rows : List RowBytes) (i : Nat) {r : OutputRow}
    (h : 1 ≤ r.functionCode ∧ r.functionCode ≤ 7) : outputRelationsOk rows i r = true ↔
      (r.functionCode ≤ 4 → r.target ≤ 7) ∧ (r.functionCode = 5 ∨ r.functionCode = 6 → r.target = 0)
        ∧ (r.functionCode = 7 → r.target ≤ 2)
        ∧ (r.encodingCode = 2 → (r.functionCode = 1 ∨ r.functionCode = 4 ∨ r.functionCode = 5)
            ∧ 2 ≤ r.window ∧ r.window ≤ 60)
        ∧ (r.functionCode = 1 ∨ r.functionCode = 4 ∨ r.functionCode = 5 ∨ r.functionCode = 7 → r.standby = 0)
        ∧ ∀ j < i, (OutputRow.ofBytes (rows.getD j [])).used = true →
            (OutputRow.ofBytes (rows.getD j [])).commandId ≠ r.commandId := by
  have htarget : (r.func.any fun f => r.target < f.targets) = true ↔ (r.functionCode ≤ 4 → r.target ≤ 7)
      ∧ (r.functionCode = 5 ∨ r.functionCode = 6 → r.target = 0) ∧ (r.functionCode = 7 → r.target ≤ 2) := by
    obtain h | h | h | h | h | h | h : r.functionCode = 1 ∨ r.functionCode = 2 ∨ r.functionCode = 3
        ∨ r.functionCode = 4 ∨ r.functionCode = 5 ∨ r.functionCode = 6 ∨ r.functionCode = 7 := by omega
    all_goals
      simp only [OutputRow.func, h, OutFunction.ofCode, Option.any_some, decide_eq_true_eq]
      simp [OutFunction.targets] <;> omega
  simp only [outputRelationsOk, Bool.and_eq_true, htarget, OutputRow.isSwitch_spec, OutputRow.isHeater_spec,
    OutputRow.isPower_spec, Bool.or_eq_true, bne_iff_ne, ne_eq, beq_iff_eq, decide_eq_true_eq, List.all_eq_true,
    List.mem_range, Bool.not_eq_true', inRange_iff, Bool.eq_false_iff, and_assoc, ← imp_iff_not_or]

theorem systemRelationsOk_iff (node : Fin 4) (r : SystemRow) : systemRelationsOk node r = true ↔
    r.panelRequestId ≠ r.panelAckId ∧ r.panelRequestId ≠ r.panelStatusId ∧ r.panelAckId ≠ r.panelStatusId
      ∧ ∀ x ∈ [r.panelRequestId, r.panelAckId, r.panelStatusId],
          x ≠ serviceRequestId node ∧ x ≠ serviceRequestId node + 1 := by
  simp [systemRelationsOk, serviceRequestId, serviceResponseId]
  omega

/-- Settles O44. -/
theorem commitsValidateTheirBank : Obligations.CommitsValidateTheirBank := by
  intro node rows i row r used cab valid span service
  have hused : ∀ j, bitAt (row j) 0 0 = true ↔ used j := fun j => bitAt_zero (row j) 0
  have hcab : ∀ j, bitAt (row j) 0 1 = true ↔ cab j := fun j => bitAt_one (row j) 0
  refine ⟨?_, ?_, ?_, fun hi => ?_, fun hi => ?_, ?_, ?_, ?_, ?_, ?_, ?_, ?_, ?_, ?_,
    fun t => ⟨firstBadRow_eq_none node t rows, firstBadRow_eq_some node t rows i⟩⟩
  · refine commitRowOk_used rfl fun _ _ => (frameRelationsOk_iff node rows i _).trans ?_
    simp only [← hused]
    rfl
  · refine (commitRowOk_iff _ _ _ _).trans (and_congr_right fun hc => ?_)
    rw [show rowValidated .field (rows.getD i []) = true ↔ u8 r 2 ≠ 0 from bne_iff_ne]
    refine forall_congr' fun hv => ?_
    obtain ⟨-, hfield, -⟩ := rowFieldsAreChecked i r
    obtain ⟨-, -, -, horder, -⟩ := hfield.mp hc hv
    exact fieldRelationsOk_iff (r := FieldRow.ofBytes r) horder
  · exact commitRowOk_used rfl fun _ _ => slotRelationsOk_iff _
  · refine commitRowOk_used rfl fun _ _ => ?_
    simp only [← hused, ← hcab, relationsOk, if_pos hi]
    exact zoneRelationsOk_iff rows i _
  · exact commitRowOk_free fun r => if_neg (Nat.not_lt.mpr hi)
  · exact commitRowOk_free fun r => rfl
  · exact commitRowOk_used rfl fun _ _ => doorRelationsOk_iff _
  · exact commitRowOk_used rfl fun _ _ => decide_eq_true_iff
  · exact commitRowOk_free fun r => rfl
  · exact commitRowOk_free fun r => rfl
  · exact commitRowOk_free fun r => rfl
  · exact commitRowOk_free fun r => rfl
  · refine commitRowOk_used rfl fun hu hf => ?_
    simp only [← hused]
    have hcode : (OutFunction.ofCode (u8 r 1)).isSome = true := by
      simp only [fieldsOk, OutputRow.fieldsOk, Bool.and_eq_true, and_assoc] at hf
      exact hf.1
    exact outputRelationsOk_iff rows i (r := OutputRow.ofBytes r) ((OutFunction.ofCode_isSome _).mp hcode)
  · refine commitRowOk_used rfl fun _ _ => (systemRelationsOk_iff node _).trans ?_
    simp only [List.forall_mem_cons, List.not_mem_nil, false_imp_iff, implies_true, and_true]
    rfl

end Sys2Proof.Machine
end

section
/-! Proofs for COMMIT (R195): the refusals, the installed bank, and the answer. -/

namespace Sys2Proof.Machine

/-- The part once a commit that has left it as x is answered OK (R195, R207). -/
def State.committed (s x : State) : State := { x with
  draws := s.draws + 1
  responses := s.responses ++ [⟨canId (0x6E1 + 2 * s.node.val), [39, 1, 0, 0, Config.freeByte 0 s.draws, 0, 0, 0]⟩] }

section
variable {s : State} (hlink : s.vehicle.link = .on) (hroom : s.responses.length < 16)
include hlink hroom

theorem exec_commit_reported {table : Byte} {t : State} {r : Result} {extra : List Byte}
    (hf : State.commitBank table s = (t, r, extra)) (hv : t.vehicle = s.vehicle) (he : extra.length ≤ 3) :
    exec (.commit table) s = .next (t.reported s.draws 7 r extra) :=
  congrArg Host.Outcome.next (State.serveLoad_room hlink hroom 7 hf hv he)

/-- A commit of a valid bank acts on the blocks and is answered OK (R195). -/
theorem exec_commit_valid (hidle : s.engine = .idle) {table : Byte} {t : TableId}
    (ht : TableId.ofCode table.toNat = some t)
    (hv : ∀ i < t.rowCount, commitRowOk s.node t (s.shadow.get t) i = true) :
    exec (.commit table) s = .next (s.committed (s.commitTable t)) := by
  have hbank : State.commitBank table s = (s.commitTable t, .ok, []) := by
    rw [State.commitBank, State.whenIdle_idle hidle, State.withTable_some ht, (firstBadRow_eq_none _ _ _).mpr hv]
  refine (exec_commit_reported hlink hroom hbank (by simp) (Nat.zero_le 3)).trans ?_
  have hengine : (s.commitTable t).engine = .idle := by simp [hidle]
  have hnode : (s.commitTable t).node = s.node := by simp
  have hresponses : (s.commitTable t).responses = s.responses := by simp
  have hdraws : (s.commitTable t).draws = s.draws := by simp
  unfold State.reported State.committed
  rw [hengine, hnode, hresponses, hdraws]
  rfl

end

/-! ### What a commit leaves at the blocks that its table does not concern -/

theorem State.commitTable_marks (s : State) (t : TableId) : (s.commitTable t).marks = s.marks.set t.index false := by
  cases t <;> simp [State.commitTable, State.installBank]

theorem State.commitTable_slots (s : State) {t : TableId} (h : t ≠ .slot) : (s.commitTable t).slots = s.slots := by
  cases t <;> simp [State.commitTable, State.installBank] at h ⊢

theorem State.commitTable_doors (s : State) {t : TableId} (h : t ≠ .door) : (s.commitTable t).doors = s.doors := by
  cases t <;> simp [State.commitTable, State.installBank] at h ⊢

theorem State.commitTable_zones (s : State) {t : TableId} (h : t ≠ .zone) : (s.commitTable t).zones = s.zones := by
  cases t <;> simp [State.commitTable, State.installBank] at h ⊢

/-- Settles O45. -/
theorem commitInstallsAValidBank : Obligations.CommitInstallsAValidBank := by
  intro s table hlink hroom answered
  refine ⟨fun h ht => ?_, fun o h => ?_, fun x h => ?_, ?_⟩
  · refine (exec_commit_reported hlink hroom ((State.whenIdle_idle h _).trans (State.withTable_none ht _)) (by rfl)
      (Nat.zero_le 3)).trans ?_
    simp only [answered]
    rw [← h]
    rfl
  · exact (exec_commit_reported hlink hroom (State.whenIdle_assembling h _) (by rfl) (Nat.zero_le 3)).trans rfl
  · refine (exec_commit_reported hlink hroom (State.whenIdle_halted h _) (by rfl) (Nat.zero_le 3)).trans ?_
    simp only [answered]
    rw [← h]
    rfl
  intro t h ht rows installed
  refine ⟨fun i hi hbad hgood => ?_, fun hv => ⟨fun hfree => ?_, ?_⟩⟩
  · have hbank : State.commitBank table s = (s, .invalid, [byteOf i]) := by
      rw [State.commitBank, State.whenIdle_idle h, State.withTable_some ht,
        (firstBadRow_eq_some _ _ _ _).mpr ⟨hi, hbad, hgood⟩]
    refine (exec_commit_reported hlink hroom hbank (by rfl) (Nat.le_add_left 1 2)).trans ?_
    simp only [answered]
    rw [← h]
    rfl
  · refine (exec_commit_valid hlink hroom h ht hv).trans ?_
    have hfields : s.commitTable t = { installed with engine := .idle } := by
      rw [← h]
      rcases hfree with rfl | rfl | rfl <;> rfl
    rw [hfields]
    rfl
  · refine ⟨_, exec_commit_valid hlink hroom h ht hv, s.commitTable_active t, by simp [State.committed], ?_, by simp [State.committed, h], rfl, by simp [State.committed],
      by simp [State.committed], by simp [State.committed], by simp [State.committed], ?_, ?_, ?_⟩
    · exact s.commitTable_marks t
    · exact s.commitTable_slots
    · exact s.commitTable_doors
    · exact s.commitTable_zones

end Sys2Proof.Machine
end

section
/-! Proofs for what a SLOT, DOOR, BAND and OUTPUT commit does (R25, R78, R79, R95, R177). -/

namespace Sys2Proof.Machine

theorem set_eq_self {α : Type} {n : Nat} {v : Vector α n} {i : Fin n} {x : α} (h : v[i] = x) : v.set i x = v := by
  rw [← h]
  exact Vector.set_getElem_self _

theorem set_get_self {α : Type} {n : Nat} (v : Vector α n) (i : Fin n) (x : α) : (v.set i x)[i] = x :=
  Vector.getElem_set_self _

theorem set_get_ne {α : Type} {n : Nat} (v : Vector α n) {i j : Fin n} (x : α) (h : j ≠ i) : (v.set i x)[j] = v[j] :=
  Vector.getElem_set_ne _ _ fun e => h (Fin.ext e).symm

/-! ### SLOT (R25) -/

/-- A slot emptied by a commit of its row. -/
def Slot.emptied (x : Slot) : Slot := { x with status := .empty, clamped := false, fresh := none, hold := none }

/-- What the consumers of an emptied slot are told. -/
def State.emptiedNote (s : State) (i : Fin 64) : SlotNote :=
  ⟨i, if (s.slotRow i).used = true then (s.slotRow i).substitute else 0, .empty⟩

theorem State.emptySlot_eq (s : State) (i : Fin 64) : s.emptySlot i = { s with
    slots := s.slots.set i s.slots[i].emptied
    inFlight := s.inFlight ++ s.notified (s.emptiedNote i) } := by
  have hread : ((s.setSlot i s.slots[i].emptied).readSlot i).1
      = if (s.slotRow i).used = true then (s.slotRow i).substitute else 0 := by
    have hslot : (s.setSlot i s.slots[i].emptied).slots[i] = s.slots[i].emptied := Vector.getElem_set_self _
    unfold State.readSlot
    rw [hslot]
    by_cases hu : (s.slotRow i).used = true
    · rw [if_pos hu]
      exact congrArg Prod.fst (if_pos hu)
    · rw [if_neg hu]
      exact congrArg Prod.fst (if_neg hu)
  unfold State.emptySlot
  change (s.setSlot i s.slots[i].emptied).notify ⟨i, ((s.setSlot i s.slots[i].emptied).readSlot i).1, .empty⟩ = _
  rw [hread, State.notify_spec, State.notified_congr (s := s) (by rfl)]
  rfl

/-- A walk over the slots in which each turn replaces the slot of its index and hands on. -/
theorem forEach_slots (u : State) (f : Fin 64 → State → State) (new : Fin 64 → Slot) (told : Fin 64 → List Instr)
    (h : ∀ i sl es, sl[i] = u.slots[i] → f i { u with slots := sl, inFlight := es }
      = { u with slots := sl.set i (new i), inFlight := es ++ told i }) :
    forEach 64 f u = { u with
      slots := Vector.ofFn new, inFlight := u.inFlight ++ (List.finRange 64).flatMap told } := by
  rw [forEach_eq (fun k => { u with
    slots := upTo k new u.slots, inFlight := u.inFlight ++ ((List.finRange 64).take k).flatMap told }) f (s := u)
    (fun i => ?_) (by simp)]
  · rw [upTo_all, finRange_take_all]
  · rw [h i _ _ (upTo_get _ _ i), upTo_succ, flatMap_take_succ, List.append_assoc]

theorem State.commitSlot_eq (old u : State) : old.commitSlot u = { u with
    slots := Vector.ofFn fun i : Fin 64 => if u.slotRow i = old.slotRow i then u.slots[i] else u.slots[i].emptied
    inFlight := u.inFlight ++ (List.finRange 64).flatMap fun i =>
      if u.slotRow i = old.slotRow i then [] else u.notified (u.emptiedNote i) } := by
  refine forEach_slots u _ _ _ fun i sl es hi => ?_
  by_cases h : u.slotRow i = old.slotRow i
  · rw [if_pos h, if_pos h, if_pos h, List.append_nil, set_eq_self hi]
  · rw [if_neg h, if_neg h, if_neg h, State.emptySlot_eq, ← hi, State.notified_congr (s := u) (by rfl)]
    rfl

/-! ### BAND (R95) -/

theorem State.commitBand_eq (s : State) : s.commitBand = { s with
    loads := Vector.ofFn fun k : Fin 3 => s.loads[k].applyBand (s.bandOf s.loads[k].count) } := by
  rw [State.commitBand, forEach_eq (fun i => { s with
    loads := upTo i (fun k => s.loads[k].applyBand (s.bandOf s.loads[k].count)) s.loads }) _ (s := s) (fun i => ?_) (by simp)]
  · rw [upTo_all]
  · rw [← upTo_succ]
    unfold State.setLoad
    dsimp only
    rw [upTo_get]
    rfl

theorem State.bandOf_eq_none (s : State) (count : Nat) : s.bandOf count = none ↔ ∀ i < 8,
    ¬ ((s.bandRow i).used = true ∧ (s.bandRow i).lower ≤ count ∧ count ≤ (s.bandRow i).upper) := by
  unfold State.bandOf
  rw [List.find?_eq_none]
  simp only [List.mem_range, Bool.and_eq_true, decide_eq_true_eq, and_assoc]

/-! ### DOOR (R78, R79) -/

/-- A door made unused (R79). -/
def Door.retired (x : Door) : Door := { x with
  timer := none, debounce := none, candidate := none, burst := .idle, latch := false, staged := none
  isOpen := false, pv := 0, series := 0, ending := false, accum := 0, openMs := 0 }

/-- A door that stays used, its link fields taken (R59, R79). -/
def Door.linked (x : Door) (a b : DoorRow) : Door := if a.stateSlot = b.stateSlot then x else x.cancelDebounce

theorem Door.linked_burst (x : Door) (a b : DoorRow) : (x.linked a b).burst = x.burst := by
  unfold Door.linked
  split <;> rfl

theorem Door.linked_pv (x : Door) (a b : DoorRow) : (x.linked a b).pv = x.pv := by
  unfold Door.linked
  split <;> rfl

theorem Door.relink_same {a b : DoorRow} (x : Door) (h : a.burst = b.burst) : x.relink a b = x.linked a b := if_pos h

theorem Door.relink_busy {a b : DoorRow} {x : Door} (h : a.burst ≠ b.burst) (hx : x.burst ≠ .idle) :
    x.relink a b = { x.linked a b with staged := some b.burst } :=
  (if_neg h).trans (if_neg ((x.linked_burst a b).symm ▸ hx))

theorem Door.relink_idle {a b : DoorRow} {x : Door} (h : a.burst ≠ b.burst) (hx : x.burst = .idle) :
    x.relink a b = { x.linked a b with
      working := some b.burst, staged := none
      pv := if b.burst.modeCode = 3 ∨ b.burst.modeCode = 4 then b.burst.n else x.pv } := by
  refine (if_neg h).trans ((if_pos ((x.linked_burst a b).trans hx)).trans ?_)
  rw [← x.linked_pv a b, if_congr (countsPv_iff b.burst) rfl rfl]
  rfl

theorem DoorRun.retire_of (x : Door) (ps : List Nat) (dr : Bool) :
    DoorRun.retire ⟨x, ps, dr⟩ = ⟨x.retired, ps ++ (if x.burst = .burst then [0] else []), dr⟩ := by
  rw [DoorRun.retire, DoorRun.leaveBurst_of]
  rfl

/-- Door d once a commit has replaced the row a by b. -/
def Door.recommitted (a b : DoorRow) (x : Door) : Door :=
  if a.used = true then
    if b.used = true then x.relink a b
    else x.retired
  else if b.used = true then x.enlist b.burst else x

/-- A walk over the doors in which each turn replaces the door of its index and hands on. -/
theorem forEach_doors (u : State) (f : Fin 8 → State → State) (new : Fin 8 → Door) (told : Fin 8 → List Instr)
    (h : ∀ i ds es, ds[i] = u.doors[i] → f i { u with doors := ds, inFlight := es }
      = { u with doors := ds.set i (new i), inFlight := es ++ told i }) :
    forEach 8 f u = { u with
      doors := Vector.ofFn new, inFlight := u.inFlight ++ (List.finRange 8).flatMap told } := by
  rw [forEach_eq (fun k => { u with
    doors := upTo k new u.doors, inFlight := u.inFlight ++ ((List.finRange 8).take k).flatMap told }) f (s := u)
    (fun i => ?_) (by simp)]
  · rw [upTo_all, finRange_take_all]
  · rw [h i _ _ (upTo_get _ _ i), upTo_succ, flatMap_take_succ, List.append_assoc]

theorem State.commitDoor_eq (s : State) (d : Fin 8) (a b : DoorRow) : s.commitDoor d a b = { s with
    doors := s.doors.set d (s.doors[d].recommitted a b)
    inFlight := s.inFlight ++ (if a.used = true ∧ b.used = false ∧ s.doors[d].burst = .burst then
      [.claimPosting (curtainClaim d) 0] else []) } := by
  unfold State.commitDoor Door.recommitted
  cases ha : a.used <;> cases hb : b.used
  · simp
  · simp [State.setDoor]
  · simp only [if_true, true_and, Bool.false_eq_true, if_false]
    rw [State.runDoor, DoorRun.retire_of, List.nil_append, State.finishDoor_quiet]
    by_cases hburst : s.doors[d].burst = .burst
    · rw [if_pos hburst, if_pos hburst]
      rfl
    · rw [if_neg hburst, if_neg hburst]
      rfl
  · simp [State.setDoor]

theorem State.commitDoors_eq (old u : State) : old.commitDoors u = { u with
    doors := Vector.ofFn fun d : Fin 8 => u.doors[d].recommitted (old.doorRow d) (u.doorRow d)
    inFlight := u.inFlight ++ (List.finRange 8).flatMap fun d =>
      if (old.doorRow d).used = true ∧ (u.doorRow d).used = false ∧ u.doors[d].burst = .burst then
        [.claimPosting (curtainClaim d) 0] else [] } := by
  refine forEach_doors u _ _ _ fun d ds es hd => ?_
  rw [State.commitDoor_eq, ← hd]

/-! ### OUTPUT (R177) -/

/-- A newly used channel (R177). -/
theorem Channel.begin_eq (v : ChannelView) (running : Bool) (cmd : Nat) : Channel.begin v running cmd
    = (let windowed : Prop := v.row.encodingCode = 2 ∧ running = true
       let onTime := cmd * (1000 * v.row.window) / 1000
       { commanded := cmd
         output := if windowed then (if 0 < onTime then 1 else 0) else v.row.encoded cmd
         lastCarried := none
         frame := if v.row.level ≤ 14 ∧ v.linkOn = true then .offered else .none
         spacing := none
         periodic := if v.row.level ≤ 14 then some v.row.period else none
         faulted := false, misses := 0, replyWait := none
         window := if windowed then some (1000 * v.row.window) else none
         elapsed := 0, onTime := if windowed then onTime else 0 }) := by
  have hswitch : v.row.isSwitch = true ∧ running = true ↔ v.row.encodingCode = 2 ∧ running = true := by
    rw [OutputRow.isSwitch_spec, decide_eq_true_eq]
  unfold Channel.begin
  simp only [hswitch, encodeOutput_spec]
  by_cases hl : v.row.level ≤ 14
  · rw [if_pos hl, Channel.makeFrame_of_level hl]
    by_cases hw : v.row.encodingCode = 2 ∧ running = true
    · rw [if_pos hw, Channel.judge_free (by rfl)]
      simp only [hl, if_pos hw, true_and, if_true]
      rfl
    · rw [if_neg hw, Channel.judge_free (by rfl)]
      simp only [hl, if_neg hw, true_and, if_true]
      rfl
  · rw [if_neg hl]
    by_cases hw : v.row.encodingCode = 2 ∧ running = true
    · simp only [hl, if_pos hw, false_and, if_false]
      rfl
    · simp only [hl, if_neg hw, false_and, if_false]
      rfl

/-- A transmission that belongs to no block any more once the channels listed are cleared. -/
def Tx.leftBy (l : List (Fin 24)) (x : Tx) : Tx :=
  if ∃ c : Fin 24, c ∈ l ∧ x.src = .channel c then { x with src := .detached } else x

/-- The same for one channel. -/
def Tx.leftByOne (c : Fin 24) (x : Tx) : Tx := if x.src = .channel c then { x with src := .detached } else x

theorem Tx.leftBy_cons (c : Fin 24) (l : List (Fin 24)) (x : Tx) :
    Tx.leftBy (c :: l) x = Tx.leftBy l (x.leftByOne c) := by
  unfold Tx.leftBy Tx.leftByOne
  by_cases h : x.src = .channel c
  · rw [if_pos h, if_pos ⟨c, List.mem_cons_self, h⟩, if_neg (by simp)]
  · rw [if_neg h]
    refine if_congr (exists_congr fun k => ?_) rfl rfl
    rw [List.mem_cons]
    refine ⟨fun ⟨hk, hs⟩ => ⟨hk.resolve_left fun e => h (e ▸ hs), hs⟩, fun ⟨hk, hs⟩ => ⟨.inr hk, hs⟩⟩

/-- The channels listed cleared, each frame of theirs on the bus left to no block. -/
theorem State.clearChannels_eq (s : State) (l : List (Fin 24)) : s.clearChannels l = { s with
    channels := Vector.ofFn fun c : Fin 24 => if c ∈ l then Channel.reset else s.channels[c]
    climate := { s.climate with onBus := s.climate.onBus.map (Tx.leftBy l) } } := by
  induction l generalizing s with
  | nil =>
    have hbus : s.climate.onBus.map (Tx.leftBy []) = s.climate.onBus := by
      cases s.climate.onBus <;> simp [Tx.leftBy]
    simp [State.clearChannels, hbus]
  | cons c l ih =>
    have hclear : s.clearChannel c = { s with
        channels := s.channels.set c Channel.reset
        climate := { s.climate with onBus := s.climate.onBus.map (Tx.leftByOne c) } } := rfl
    have hbus : (s.clearChannel c).climate.onBus.map (Tx.leftBy l) = s.climate.onBus.map (Tx.leftBy (c :: l)) := by
      rw [hclear, Option.map_map]
      exact congrArg (Option.map · s.climate.onBus) (funext fun x => (Tx.leftBy_cons c l x).symm)
    have hchannels : (Vector.ofFn fun k : Fin 24 => if k ∈ l then Channel.reset else (s.clearChannel c).channels[k])
        = Vector.ofFn fun k : Fin 24 => if k ∈ c :: l then Channel.reset else s.channels[k] := by
      refine congrArg Vector.ofFn (funext fun k => ?_)
      rw [hclear]
      by_cases hkc : k = c
      · subst hkc
        rw [if_pos List.mem_cons_self]
        exact ite_eq_left_iff.mpr fun _ => set_get_self _ _ _
      · rw [if_congr (show k ∈ c :: l ↔ k ∈ l by simp [hkc]) rfl rfl]
        exact if_congr Iff.rfl rfl (set_get_ne _ _ hkc)
    refine (ih (s.clearChannel c)).trans ?_
    rw [hbus, hchannels]
    rfl

/-- Channel c as it begins, if its row is used (R177). -/
def State.begun (s : State) (c : Fin 24) : Channel :=
  Channel.begin (s.channelView c) (s.part == .running) (s.commandedFrom (s.outputRow c) (s.sourceOf (s.outputRow c)))

theorem State.beginChannel_eq (s : State) (c : Fin 24) : s.beginChannel c = { s with
    channels := s.channels.set c (if (s.outputRow c).used = true then s.begun c else s.channels[c]) } := by
  by_cases hu : (s.outputRow c).used = true
  · rw [if_pos hu]
    exact if_pos hu
  · rw [if_neg hu, set_eq_self rfl]
    exact if_neg hu

/-- Channel c once the channels listed have begun, those of a row unused left alone. -/
def State.withBegun (s : State) (l : List (Fin 24)) (c : Fin 24) : Channel :=
  if c ∈ l ∧ (s.outputRow c).used = true then s.begun c else s.channels[c]

theorem State.beginChannels_eq (s : State) (l : List (Fin 24)) : s.beginChannels l = { s with
    channels := Vector.ofFn (s.withBegun l) } := by
  induction l generalizing s with
  | nil =>
    have hnone : Vector.ofFn (s.withBegun []) = s.channels := Vector.ext fun k hk => by simp [State.withBegun]
    rw [hnone]
    rfl
  | cons c l ih =>
    rw [State.beginChannels, List.foldl_cons, State.beginChannel_eq]
    refine (ih _).trans ?_
    refine congrArg (fun cs => ({ s with channels := cs } : State)) (congrArg Vector.ofFn (funext fun k => ?_))
    unfold State.withBegun
    by_cases hkc : k = c
    · subst hkc
      rw [if_congr (show k ∈ k :: l ∧ (s.outputRow k).used = true ↔ (s.outputRow k).used = true by simp) rfl rfl]
      by_cases hu : (s.outputRow k).used = true
      · rw [if_pos hu]
        exact ite_eq_left_iff.mpr fun _ => set_get_self _ _ _
      · rw [if_neg hu]
        exact (if_neg fun e => hu e.2).trans (set_get_self _ _ _)
    · rw [if_congr (show k ∈ c :: l ∧ (s.outputRow k).used = true ↔ k ∈ l ∧ (s.outputRow k).used = true by simp [hkc]) rfl rfl]
      exact if_congr Iff.rfl rfl (set_get_ne _ _ hkc)

theorem State.mem_changedChannels (old u : State) (c : Fin 24) :
    c ∈ old.changedChannels u ↔ u.outputRow c ≠ old.outputRow c := by
  simp [State.changedChannels]

theorem State.commandedValue_of {s t : State} (hp : t.part = s.part) (ha : t.active = s.active)
    (hc : ∀ k : Fin 20, t.alloc.claims[k].capacity = s.alloc.claims[k].capacity) (c : Fin 24) (v : Nat) :
    t.commandedValue c v = s.commandedValue c v := by
  have hrow : t.outputRow = s.outputRow := by
    funext k
    simp only [State.outputRow, ha]
  have hserves : t.serves = s.serves := by
    funext k j
    simp only [State.serves, hrow]
  unfold State.commandedValue
  rw [hp, hrow, hserves]
  cases (List.finRange 20).find? fun k => s.serves c k with
  | none => rfl
  | some k => simp only [hc]

/-- A recomputation changes the grants and hands them over; the capacities stay. -/
theorem State.regranted_claims (s : State) : ∃ (claims : Vector Claim 20) (es : List Instr),
    s.regranted = { s with alloc := { s.alloc with claims := claims }, inFlight := es }
      ∧ ∀ k : Fin 20, claims[k].capacity = s.alloc.claims[k].capacity := by
  by_cases hp : s.part = .standby
  · exact ⟨s.alloc.claims, s.inFlight, State.regranted_standby hp, fun _ => rfl⟩
  · exact ⟨s.regrantedClaims, _, if_neg hp, fun k => by rw [s.regrantedClaims_get k]⟩

/-- What a channel commands, once the capacities are up to date, does not wait for the grants. -/
theorem State.regranted_commandedValue (s : State) (c : Fin 24) (v : Nat) :
    s.regranted.commandedValue c v = s.commandedValue c v := by
  obtain ⟨claims, es, heq, hcap⟩ := s.regranted_claims
  rw [heq]
  exact State.commandedValue_of (s := s) (by rfl) (by rfl) hcap c v

theorem State.regranted_channels_get (s : State) : s.regranted.channels = s.channels := by
  unfold State.regranted
  split <;> rfl

/-- The capacities of every claimant brought up to date, before any recomputation. -/
theorem State.recapacitated_all (s : State) : s.recapacitated (fun _ => true)
    = if s.capacityChanges (List.finRange 20) = true then (s.capped (List.finRange 20)).regranted
      else s.capped (List.finRange 20) := by
  have hall : (fun c : Fin 20 => decide (c ∈ List.finRange 20)) = fun _ => true := by
    funext c
    simp
  rw [← hall, ← State.refreshCapacities_spec s _ (List.nodup_finRange 20),
    State.refreshCapacities_capped s _ (List.nodup_finRange 20)]
  simp only [Bool.false_eq_true, or_false, State.capacityChanges_spec]

theorem State.recapacitated_all_channels (s : State) :
    (s.recapacitated fun _ => true).channels = (s.capped (List.finRange 20)).channels := by
  rw [State.recapacitated_all]
  split
  · exact State.regranted_channels_get _
  · rfl

theorem State.recapacitated_all_commandedValue (s : State) (c : Fin 24) (v : Nat) :
    (s.recapacitated fun _ => true).commandedValue c v = (s.capped (List.finRange 20)).commandedValue c v := by
  rw [State.recapacitated_all]
  split
  · exact State.regranted_commandedValue _ c v
  · rfl

/-- What an OUTPUT commit leaves: all that follows the new capacities, and the channels that changed begun (R177). -/
theorem State.commitOutput_eq (old u : State) : old.commitOutput u =
    (let cleared := u.clearChannels (old.changedChannels u)
     let capped := cleared.capped (List.finRange 20)
     { cleared.recapacitated fun _ => true with channels := Vector.ofFn (capped.withBegun (old.changedChannels u)) }) := by
  unfold State.commitOutput
  dsimp only
  rw [State.updateCapacities_spec _ _ (List.nodup_finRange 20), State.beginChannels_eq, State.recapacitated_all]
  split
  · rw [State.recompute_regranted, State.regranted_channels]
  · rfl

/-- Settles O46. -/
theorem commitsReachTheirBlocks : Obligations.CommitsReachTheirBlocks := by
  intro s hlink hroom hidle answered installed valid
  refine ⟨fun hv => ?_, fun hv => ?_, fun hv => ?_, fun hv => ?_⟩
  · intro u
    refine (exec_commit_valid hlink hroom hidle (table := 3) (t := .slot) rfl hv).trans ?_
    exact congrArg (fun x => Host.Outcome.next (s.committed x)) (State.commitSlot_eq s u)
  · intro u
    have hexec := exec_commit_valid hlink hroom hidle (table := 6) (t := .door) rfl hv
    rw [show s.commitTable .door = _ from State.commitDoors_eq s u] at hexec
    refine ⟨_, hexec, rfl, ?_⟩
    intro d a b x linked
    rw [State.committed, show (Vector.ofFn _)[d] = x.recommitted a b from Vector.getElem_ofFn d.isLt]
    refine ⟨fun ha hb => ?_, fun ha hb => ?_, fun ha hb => ?_, fun ha hb => ⟨fun h => ?_, fun h hne => ?_, fun h hi => ?_⟩⟩
    · rw [Door.recommitted, if_neg (by simp [ha]), if_neg (by simp [hb])]
    · rw [Door.recommitted, if_pos ha, if_neg (by simp [hb])]
      rfl
    · rw [Door.recommitted, if_neg (by simp [ha]), if_pos hb]
      rfl
    · rw [Door.recommitted, if_pos ha, if_pos hb]
      exact x.relink_same h
    · rw [Door.recommitted, if_pos ha, if_pos hb]
      exact Door.relink_busy h hne
    · rw [Door.recommitted, if_pos ha, if_pos hb]
      exact Door.relink_idle h hi
  · intro u
    have hexec := exec_commit_valid hlink hroom hidle (table := 7) (t := .band) rfl hv
    rw [show s.commitTable .band = _ from u.commitBand_eq] at hexec
    refine ⟨_, hexec, rfl, ?_⟩
    intro k covers
    rw [State.committed, show (Vector.ofFn _)[k] = s.loads[k].applyBand (u.bandOf s.loads[k].count) from
      Vector.getElem_ofFn k.isLt]
    exact ⟨rfl, fun i => (u.bandOf_eq_some _ i).mp, (u.bandOf_eq_none _).mp⟩
  · intro u changed cleared followed
    have hcleared : u.clearChannels (s.changedChannels u) = cleared := by
      rw [State.clearChannels_eq]
      have hch : (Vector.ofFn fun c : Fin 24 => if c ∈ s.changedChannels u then Channel.reset else u.channels[c])
          = cleared.channels :=
        congrArg Vector.ofFn (funext fun c => if_congr (State.mem_changedChannels s u c) rfl rfl)
      have hbus : u.climate.onBus.map (Tx.leftBy (s.changedChannels u)) = cleared.climate.onBus := by
        refine congrArg (Option.map · s.climate.onBus) (funext fun x => if_congr (exists_congr fun c => ?_) rfl rfl)
        rw [State.mem_changedChannels]
      rw [hch, hbus]
    have hexec := exec_commit_valid hlink hroom hidle (table := 12) (t := .output) rfl hv
    rw [show s.commitTable .output = _ from State.commitOutput_eq s u] at hexec
    dsimp only at hexec
    rw [hcleared] at hexec
    refine ⟨_, hexec, rfl, ?_⟩
    intro c r
    let capped := cleared.capped (List.finRange 20)
    have hchannel : (Vector.ofFn (capped.withBegun (s.changedChannels u)))[c]
        = capped.withBegun (s.changedChannels u) c := Vector.getElem_ofFn c.isLt
    have hrow : capped.outputRow c = r := rfl
    rw [State.committed, hchannel]
    refine ⟨fun h => ?_, fun hc hu src hsrc => ?_⟩
    · have hkept : capped.withBegun (s.changedChannels u) c = capped.channels[c] := by
        refine if_neg ?_
        rw [State.mem_changedChannels, hrow]
        rintro ⟨hc, hu⟩
        rcases h with h | h
        · exact h hc
        · exact nomatch hu.symm.trans h
      exact hkept.trans (congrArg (fun cs : Vector Channel 24 => cs[c]) cleared.recapacitated_all_channels.symm)
    · intro cmd windowed onTime
      have hbegun : capped.withBegun (s.changedChannels u) c = capped.begun c :=
        if_pos ⟨(State.mem_changedChannels s u c).mpr hc, hu⟩
      have hsource : capped.sourceOf r = s.sourceValue src := by
        have hr : r.source = some src := beq_iff_eq.mp ((r.fedBy_spec src).symm.trans hsrc)
        rw [State.sourceOf, hr]
        cases src <;> rfl
      have hcmd : capped.commandedFrom (capped.outputRow c) (capped.sourceOf (capped.outputRow c)) = cmd := by
        rw [capped.commandedFrom_spec c _ (by rw [hrow]; exact hu), hrow, hsource]
        exact (cleared.recapacitated_all_commandedValue c _).symm
      have hrunning : (capped.part == .running) = true ↔ s.part = .running := beq_iff_eq
      have hlinkOn : (capped.channelView c).linkOn = true ↔ s.climate.link = .on := beq_iff_eq
      rw [hbegun, State.begun, Channel.begin_eq, hcmd]
      simp only [hrunning, hlinkOn]
      rfl

end Sys2Proof.Machine
end

section
/-! Proofs for what a ZONE commit does at the zones, the cooling units and the capacities (R48, R49, R146). -/

namespace Sys2Proof.Machine

/-! ### The Qc that a unit holds for a zone -/

def Cooler.withQc (u : Cooler) (z : Fin 8) (q : Nat) : Cooler := { u with qcs := u.qcs.set z q }

theorem Cooler.withQc_self (u : Cooler) (z : Fin 8) : u.withQc z u.qcs[z] = u := by
  rw [Cooler.withQc, set_eq_self rfl]

theorem Cooler.withQc_withQc (u : Cooler) (z : Fin 8) (q q' : Nat) : (u.withQc z q).withQc z q' = u.withQc z q' := by
  simp only [Cooler.withQc, Vector.set_set]

theorem Cooler.withQc_get (u : Cooler) (z : Fin 8) (q : Nat) : (u.withQc z q).qcs[z] = q := set_get_self _ _ _

theorem ofFn_get {α : Type} {n : Nat} (f : Fin n → α) (i : Fin n) : (Vector.ofFn f)[i] = f i := Vector.getElem_ofFn i.isLt

theorem vector_ext {α : Type} {n : Nat} {v w : Vector α n} (h : ∀ i : Fin n, v[i] = w[i]) : v = w :=
  Vector.ext fun i hi => h ⟨i, hi⟩

theorem ofFn_self {α : Type} {n : Nat} (v : Vector α n) : (Vector.ofFn fun i : Fin n => v[i]) = v :=
  vector_ext fun i => ofFn_get _ i

theorem State.recordQc_eq (t : State) (k : Fin 3) (z : Fin 8) (q : Nat) : t.recordQc k z q = { t with
    coolers := Vector.ofFn fun j : Fin 3 => t.coolers[j].withQc z (if j = k then q else t.coolers[j].qcs[z]) } := by
  have hc : t.coolers.set k (t.coolers[k].withQc z q)
      = Vector.ofFn fun j : Fin 3 => t.coolers[j].withQc z (if j = k then q else t.coolers[j].qcs[z]) := by
    refine vector_ext fun j => ?_
    rw [ofFn_get]
    by_cases h : j = k
    · subst h
      rw [if_pos rfl, set_get_self]
    · rw [if_neg h, set_get_ne _ _ h, Cooler.withQc_self]
  rw [← hc]
  rfl

/-- The Qc that unit k holds for a zone that stays used, once the row a has become b: a zone that moves takes its Qc to
the unit of its new section (R48). -/
def ZoneRow.movedQc (a b : ZoneRow) (k : Fin 3) (qc held : Nat) : Nat :=
  if a.sectCode ≠ b.sectCode ∧ b.sectCode = k.val then qc
  else if a.sectCode ≠ b.sectCode ∧ a.sectCode = k.val then 0 else held

theorem ZoneRow.movedQc_same (a : ZoneRow) (k : Fin 3) (qc held : Nat) : a.movedQc a k qc held = held := by
  simp [ZoneRow.movedQc]

theorem State.moveQc_eq (t : State) (z : Fin 8) (a b : ZoneRow) : t.moveQc z a b = { t with
    coolers := Vector.ofFn fun k : Fin 3 => t.coolers[k].withQc z (a.movedQc b k t.zones[z].qc t.coolers[k].qcs[z]) } := by
  have hstep : ∀ (x : State) (k : Fin 3) (q : Nat) (f : Fin 3 → Nat → Nat), (∀ j held, j ≠ k → f j held = held) →
      (∀ held, f k held = q) → x.recordQc k z q = { x with
        coolers := Vector.ofFn fun j : Fin 3 => x.coolers[j].withQc z (f j x.coolers[j].qcs[z]) } := by
    intro x k q f hne heq
    rw [State.recordQc_eq]
    refine congrArg (fun cs => ({ x with coolers := cs } : State)) (congrArg Vector.ofFn (funext fun j => ?_))
    by_cases h : j = k
    · subst h
      rw [if_pos rfl, heq]
    · rw [if_neg h, hne j _ h]
  have hsect : ∀ (r : ZoneRow) (k : Fin 3), r.sectCode = k.val ↔ r.sect = some k := fun r k => (r.sect_eq_some k).symm
  unfold State.moveQc ZoneRow.movedQc
  by_cases h : a.sect = b.sect
  · have hstay : ∀ k : Fin 3, (if a.sectCode ≠ b.sectCode ∧ b.sectCode = k.val then t.zones[z].qc
        else if a.sectCode ≠ b.sectCode ∧ a.sectCode = k.val then 0 else t.coolers[k].qcs[z]) = t.coolers[k].qcs[z] := by
      intro k
      rw [if_neg, if_neg]
      · rintro ⟨hne, hk⟩
        exact hne (hk.trans ((hsect b k).mpr (h ▸ (hsect a k).mp hk)).symm)
      · rintro ⟨hne, hk⟩
        exact hne (((hsect a k).mpr (h.symm ▸ (hsect b k).mp hk)).trans hk.symm)
    rw [if_pos h]
    simp only [hstay, Cooler.withQc_self, ofFn_self]
  · have hne : a.sectCode ≠ b.sectCode := fun e => h (congrArg sectOfCode e)
    rw [if_neg h]
    simp only [hne, ne_eq, not_false_eq_true, true_and, hsect]
    cases ha : a.sect with
    | none =>
      cases hb : b.sect with
      | none => exact absurd (ha.trans hb.symm) h
      | some k =>
        refine hstep t k _ (fun j held => if some k = some j then _ else if none = some j then 0 else held)
          (fun j held hj => ?_) (fun held => if_pos rfl)
        rw [if_neg (fun e => hj (Option.some.inj e).symm), if_neg nofun]
    | some k =>
      cases hb : b.sect with
      | none =>
        refine hstep t k 0 (fun j held => if none = some j then _ else if some k = some j then 0 else held)
          (fun j held hj => ?_) (fun held => (if_neg nofun).trans (if_pos rfl))
        rw [if_neg nofun, if_neg (fun e => hj (Option.some.inj e).symm)]
      | some k' =>
        have hkk : k ≠ k' := fun e => h (ha.trans ((congrArg some e).trans hb.symm))
        have hfirst := hstep t k 0 (fun j held => if some k = some j then 0 else held)
          (fun j held hj => if_neg fun e => hj (Option.some.inj e).symm) (fun held => if_pos rfl)
        dsimp only
        rw [hfirst, hstep _ k' t.zones[z].qc (fun j held => if some k' = some j then t.zones[z].qc else held)
          (fun j held hj => if_neg fun e => hj (Option.some.inj e).symm) (fun held => if_pos rfl)]
        refine congrArg (fun cs => ({ t with coolers := cs } : State)) (congrArg Vector.ofFn (funext fun j => ?_))
        rw [ofFn_get, Cooler.withQc_withQc, Cooler.withQc_get]

/-! ### The zones -/

/-- Zone z once a commit has replaced the row a by b (R48). -/
def Zone.recommitted (running : Bool) (a b : ZoneRow) (x : Zone) : Zone :=
  if a = b then x
  else if a.used = true then (if b.used = true then x.changed running a b else x.unused a)
  else if b.used = true then x.used running b else x

/-- What a zone hands on when a commit replaces the row a by b (R48). -/
def Zone.recommitTold (z : Fin 8) (a b : ZoneRow) (x : Zone) : List Instr :=
  if a = b ∨ a.used = false then []
  else if b.used = true then [.statusPublication z] else zoneHandOvers z a.sect (x.unused a)

theorem State.commitZone_eq (t : State) (z : Fin 8) (a b : ZoneRow) : t.commitZone z a b = { t with
    zones := t.zones.set z (t.zones[z].recommitted (t.part == .running) a b)
    coolers := Vector.ofFn fun k : Fin 3 => t.coolers[k].withQc z (if a.used = true ∧ b.used = true then
      a.movedQc b k t.zones[z].qc t.coolers[k].qcs[z] else t.coolers[k].qcs[z])
    inFlight := t.inFlight ++ t.zones[z].recommitTold z a b } := by
  have hheld : (Vector.ofFn fun k : Fin 3 => t.coolers[k].withQc z t.coolers[k].qcs[z]) = t.coolers := by
    simp only [Cooler.withQc_self, ofFn_self]
  have hkept : ∀ p : Prop, ∀ _ : Decidable p, ¬ p → (Vector.ofFn fun k : Fin 3 => t.coolers[k].withQc z (if p then
      a.movedQc b k t.zones[z].qc t.coolers[k].qcs[z] else t.coolers[k].qcs[z])) = t.coolers := by
    intro p _ hp
    simp only [if_neg hp]
    exact hheld
  unfold State.commitZone Zone.recommitted Zone.recommitTold
  by_cases hab : a = b
  · subst hab
    simp only [if_true, true_or, ZoneRow.movedQc_same, ite_self, hheld, List.append_nil]
    rw [set_eq_self rfl]
  · rw [if_neg hab, if_neg hab]
    cases ha : a.used <;> cases hb : b.used
    · rw [hkept _ _ (by simp), if_neg (by simp), if_neg (by simp), if_pos (by simp), set_eq_self rfl, List.append_nil]
    · rw [hkept _ _ (by simp), if_neg (by simp), if_pos rfl, if_pos (by simp), List.append_nil]
      rfl
    · rw [hkept _ _ (by simp), if_pos rfl, if_neg (by simp), if_neg (by simp [hab]), if_neg (by simp)]
      rfl
    · rw [if_pos rfl, if_pos rfl, if_neg (by simp [hab]), if_pos rfl, State.moveQc_eq]
      have hqc : (t.setZone z (t.zones[z].changed (t.part == .running) a b)).zones[z].qc = t.zones[z].qc := by
        exact (congrArg Zone.qc (set_get_self t.zones z (t.zones[z].changed (t.part == .running) a b)) :)
      simp only [hqc, and_self, if_true]
      rfl

/-- A walk over the zones in which each turn replaces the zone of its index and the Qc that each unit holds for it. -/
theorem forEach_zones (u : State) (f : Fin 8 → State → State) (zone : Fin 8 → Zone) (qc : Fin 3 → Fin 8 → Nat)
    (told : Fin 8 → List Instr)
    (h : ∀ z (zs : Vector Zone 8) (cs : Vector Cooler 3) es, zs[z] = u.zones[z] →
      (∀ k : Fin 3, cs[k].qcs[z] = u.coolers[k].qcs[z]) →
      f z { u with zones := zs, coolers := cs, inFlight := es } = { u with
        zones := zs.set z (zone z), coolers := Vector.ofFn fun k : Fin 3 => cs[k].withQc z (qc k z)
        inFlight := es ++ told z }) :
    forEach 8 f u = { u with
      zones := Vector.ofFn zone
      coolers := Vector.ofFn fun k : Fin 3 => { u.coolers[k] with qcs := Vector.ofFn (qc k) }
      inFlight := u.inFlight ++ (List.finRange 8).flatMap told } := by
  rw [forEach_eq (fun i => { u with
    zones := upTo i zone u.zones
    coolers := Vector.ofFn fun k : Fin 3 => { u.coolers[k] with qcs := upTo i (qc k) u.coolers[k].qcs }
    inFlight := u.inFlight ++ ((List.finRange 8).take i).flatMap told }) f (s := u) (fun z => ?_) ?_]
  · simp only [upTo_all, finRange_take_all]
  · simp [Vector.ofFn_getElem]
  · rw [h z _ _ _ (upTo_get _ _ z) (fun k => by rw [ofFn_get]; exact upTo_get _ _ z), upTo_succ, flatMap_take_succ,
      List.append_assoc]
    refine congrArg (fun cs => ({ u with
      zones := _, coolers := cs, inFlight := _ } : State)) (congrArg Vector.ofFn (funext fun k => ?_))
    rw [ofFn_get, Cooler.withQc, upTo_succ]

/-- The Qc that unit k holds for zone z once a commit has replaced the bank of `old` by that of u. -/
def State.committedQc (old u : State) (k : Fin 3) (z : Fin 8) : Nat :=
  if (old.zoneRow z).used = true ∧ (u.zoneRow z).used = true then
    (old.zoneRow z).movedQc (u.zoneRow z) k u.zones[z].qc u.coolers[k].qcs[z] else u.coolers[k].qcs[z]

theorem State.commitZoneRows_eq (old u : State) : old.commitZoneRows u = { u with
    zones := Vector.ofFn fun z : Fin 8 => u.zones[z].recommitted (u.part == .running) (old.zoneRow z) (u.zoneRow z)
    coolers := Vector.ofFn fun k : Fin 3 => { u.coolers[k] with qcs := Vector.ofFn (old.committedQc u k) }
    inFlight := u.inFlight ++ (List.finRange 8).flatMap fun z =>
      u.zones[z].recommitTold z (old.zoneRow z) (u.zoneRow z) } := by
  refine forEach_zones u _ _ _ _ fun z zs cs es hz hq => ?_
  rw [State.commitZone_eq]
  unfold State.committedQc
  simp only [← hz, ← hq]

/-! ### The sections and the capacities -/

/-- A unit that goes to OFF (R49). -/
def Cooler.switchedOff (x : Cooler) : Cooler :=
  { x with state := .off, minOn := none, minOff := none, demand := 0, posted := 0 }

/-- What it hands on. -/
def Cooler.offTold (k : Fin 3) (x : Cooler) : List Instr :=
  (if x.demand = 0 then [] else [.sourceDelivery (.demand k) 0]) ++ [.claimPosting (coolClaim k) 0]

theorem CoolRun.switchOff_eq (v : CoolView) (x : Cooler) :
    CoolRun.switchOff v ⟨x, []⟩ = ⟨x.switchedOff, x.offTold v.sec⟩ := by
  unfold CoolRun.switchOff CoolRun.enterOff CoolRun.setDemand CoolRun.post Cooler.offTold
  by_cases h : x.demand = 0
  · simp only [h, if_true]
    refine congrArg (fun u => (⟨u, _⟩ : CoolRun)) ?_
    cases x
    subst h
    rfl
  · simp only [h, Ne.symm h, if_false]
    rfl

/-- A walk over the cooling units in which each turn replaces the unit of its index and hands on. -/
theorem forEach_coolers (u : State) (f : Fin 3 → State → State) (new : Fin 3 → Cooler) (told : Fin 3 → List Instr)
    (h : ∀ i cs es, cs[i] = u.coolers[i] → f i { u with coolers := cs, inFlight := es }
      = { u with coolers := cs.set i (new i), inFlight := es ++ told i }) :
    forEach 3 f u = { u with
      coolers := Vector.ofFn new, inFlight := u.inFlight ++ (List.finRange 3).flatMap told } := by
  rw [forEach_eq (fun k => { u with
    coolers := upTo k new u.coolers, inFlight := u.inFlight ++ ((List.finRange 3).take k).flatMap told }) f (s := u)
    (fun i => ?_) (by simp)]
  · rw [upTo_all, finRange_take_all]
  · rw [h i _ _ (upTo_get _ _ i), upTo_succ, flatMap_take_succ, List.append_assoc]

theorem State.commitSectRows_eq (old u : State) : old.commitSectRows u = { u with
    coolers := Vector.ofFn fun k : Fin 3 =>
      if old.ratedPower k ≠ 0 ∧ u.ratedPower k = 0 then u.coolers[k].switchedOff else u.coolers[k]
    inFlight := u.inFlight ++ (List.finRange 3).flatMap fun k =>
      if old.ratedPower k ≠ 0 ∧ u.ratedPower k = 0 then u.coolers[k].offTold k else [] } := by
  refine forEach_coolers u _ _ _ fun k cs es hk => ?_
  have hrated : State.ratedPower { u with coolers := cs, inFlight := es } k = u.ratedPower k := rfl
  unfold State.commitSect
  rw [hrated, ← hk]
  by_cases h : old.ratedPower k ≠ 0 ∧ u.ratedPower k = 0
  · rw [if_pos h, if_pos h, if_pos h, State.runCooler, CoolRun.switchOff_eq]
    rfl
  · rw [if_neg h, if_neg h, if_neg h, List.append_nil, set_eq_self rfl]

theorem mem_zoneClaimants : (fun c : Fin 20 => decide (c ∈ zoneClaimants))
    = fun c => decide (c.val < 8) || (decide (16 ≤ c.val) && decide (c.val < 19)) := by
  funext c
  revert c
  decide

/-! ### The statement's own words -/

theorem Zone.recommitted_eq (part : PartState) (a b : ZoneRow) (x : Zone) :
    x.recommitted (part == .running) a b =
      (let fresh : Zone :=
         { x with integral := 0, lastR := 0, tz := none, blind := false, published := ⟨.off, b.base, false, b.smax⟩ }
       if a = b ∨ (a.used = false ∧ b.used = false) then x
       else if a.used = true ∧ b.used = true then
         { x with
           integral := clamp x.integral (-(b.ilim : Int)) b.ilim, sz := clamp x.sz b.smin b.smax
           pass := if part = .running ∧ a.interval ≠ b.interval then some (1000 * b.interval) else x.pass
           published := ⟨x.mode, x.tz.getD b.base, x.blind, b.smax⟩ }
       else if a.used = true then
         { x with
           mode := .off, qh := 0, qc := 0, blower := 0, freshAir := 0, pass := none
           published := ⟨.off, x.tz.getD a.base, x.blind, a.smax⟩ }
       else if part = .running then
         { fresh with mode := .vent, qh := 0, qc := 0, sz := clamp b.base b.smin b.smax, pass := some (1000 * b.interval) }
       else { fresh with mode := .off }) := by
  unfold Zone.recommitted
  by_cases hab : a = b
  · rw [if_pos hab, if_pos (.inl hab)]
  rw [if_neg hab]
  cases ha : a.used <;> cases hb : b.used
  · simp [hab]
  · simp only [hab, Bool.false_eq_true, Bool.true_eq_false, and_false, or_self, false_and, if_false, if_true]
    cases part <;> rfl
  · simp only [hab, Bool.false_eq_true, Bool.true_eq_false, and_false, or_self, false_and, if_false, if_true]
    rfl
  · simp only [hab, Bool.true_eq_false, or_self, and_self, if_false, if_true]
    unfold Zone.changed Zone.publish
    cases part
    · rfl
    · by_cases hi : a.interval = b.interval
      · simp [hi]
      · simp [hi, seconds]

theorem ZoneRow.sections_named (a : ZoneRow) :
    ((List.finRange 3).filter fun k => a.sectCode == k.val) = a.sect.toList := by
  have hcode : (fun k : Fin 3 => a.sectCode == k.val) = fun k => a.sect == some k := by
    funext k
    rw [Bool.eq_iff_iff, beq_iff_eq, beq_iff_eq, a.sect_eq_some]
  rw [hcode]
  cases a.sect with
  | none => rfl
  | some k =>
    revert k
    decide

theorem Zone.recommitTold_eq (z : Fin 8) (a b : ZoneRow) (x : Zone) : x.recommitTold z a b =
    if a = b ∨ a.used = false then []
    else if b.used = true then [.statusPublication z]
    else [.statusPublication z, .claimPosting (zoneClaim z) 0]
      ++ ((List.finRange 3).filter fun k => a.sectCode == k.val).map (fun k => .qcPosting k z 0)
      ++ [.sourceDelivery (.blower z) 0, .sourceDelivery (.freshAir z) 0] := by
  rw [Zone.recommitTold, a.sections_named]
  cases a.sect <;> rfl

theorem State.committedQc_eq (s u : State) (k : Fin 3) (z : Fin 8) : s.committedQc u k z =
    (let a := s.zoneRow z
     let b := u.zoneRow z
     if a.used = true ∧ b.used = true ∧ a.sectCode ≠ b.sectCode ∧ b.sectCode = k.val then u.zones[z].qc
     else if a.used = true ∧ b.used = true ∧ a.sectCode ≠ b.sectCode ∧ a.sectCode = k.val then 0
     else u.coolers[k].qcs[z]) := by
  unfold State.committedQc ZoneRow.movedQc
  by_cases h : (s.zoneRow z).used = true ∧ (u.zoneRow z).used = true
  · simp only [h, true_and, if_true]
  · rw [if_neg h, if_neg (fun e => h ⟨e.1, e.2.1⟩), if_neg (fun e => h ⟨e.1, e.2.1⟩)]

/-- Settles O47. -/
theorem zoneCommitsReachZonesAndUnits : Obligations.ZoneCommitsReachZonesAndUnits := by
  intro s hlink hroom hidle answered installed valid u zone tells rated off unit stops moved hv
  have hexec := exec_commit_valid hlink hroom hidle (table := 4) (t := .zone) rfl hv
  refine hexec.trans (congrArg (fun x => Host.Outcome.next (s.committed x)) ?_)
  have hmoved : s.commitSectRows (s.commitZoneRows u) = moved := by
    have hzone : (fun z : Fin 8 => u.zones[z].recommitted (u.part == .running) (s.zoneRow z) (u.zoneRow z)) = zone :=
      funext fun z => Zone.recommitted_eq _ _ _ _
    have htells : (fun z : Fin 8 => u.zones[z].recommitTold z (s.zoneRow z) (u.zoneRow z)) = tells :=
      funext fun z => Zone.recommitTold_eq _ _ _ _
    have hunit : (fun k : Fin 3 => if s.ratedPower k ≠ 0 ∧ u.ratedPower k = 0 then
        Cooler.switchedOff { u.coolers[k] with qcs := Vector.ofFn (s.committedQc u k) }
        else { u.coolers[k] with qcs := Vector.ofFn (s.committedQc u k) }) = unit := by
      refine funext fun k => ?_
      have hqc : s.committedQc u k = fun z => _ := funext fun z => s.committedQc_eq u k z
      rw [hqc]
      rfl
    rw [State.commitZoneRows_eq, State.commitSectRows_eq, hzone, htells]
    refine congrArg₂ (fun cs es => ({ u with zones := Vector.ofFn zone, coolers := cs, inFlight := es } : State))
      (congrArg Vector.ofFn (funext fun k => ?_)) (congrArg _ (List.flatMap_congr fun k _ => ?_))
    · rw [ofFn_get]
      exact congrFun hunit k
    · rw [ofFn_get]
      rfl
  change ((s.commitSectRows (s.commitZoneRows u)).coolersCompute).refreshCapacities zoneClaimants false = _
  rw [hmoved, State.coolersCompute_spec, State.refreshCapacities_spec _ _ zoneClaimants_nodup, mem_zoneClaimants]

end Sys2Proof.Machine
end

section
/-! Proofs for what a STEP, STAGE, CLAIM, BUDGET and SYSTEM commit does (R96, R103, R112, R113, R156 to R158). -/

namespace Sys2Proof.Machine

/-! ### STEP (R112) -/

theorem State.movePointer_eq (s : State) : ∃ p, s.movePointer = { s with screen := { s.screen with pointer := p } }
    ∧ (∀ i, s.screen.pointer = some i → (s.stepRow i).used = true → p = some i)
    ∧ (∀ i, s.screen.pointer = some i → ¬ (s.stepRow i).used = true → p = s.nextStep i)
    ∧ (s.screen.pointer = none → p = s.firstStep) := by
  unfold State.movePointer
  cases hp : s.screen.pointer with
  | none => exact ⟨s.firstStep, rfl, nofun, nofun, fun _ => rfl⟩
  | some i =>
    by_cases hu : (s.stepRow i).used = true
    · refine ⟨some i, (if_pos hu).trans ?_, fun j hj _ => hj, fun j hj hn => ?_, nofun⟩
      · rw [← hp]
      · obtain rfl := Option.some.inj hj
        exact absurd hu hn
    · refine ⟨s.nextStep i, if_neg hu, fun j hj hj' => ?_, fun j hj _ => ?_, nofun⟩
      · obtain rfl := Option.some.inj hj
        exact absurd hj' hu
      · obtain rfl := Option.some.inj hj
        rfl

/-! ### SYSTEM: what a designated slot gives -/

/-- The status of a slot as a block reads it (R22). -/
def State.slotStatus (s : State) (i : Fin 64) : SlotStatus :=
  if (s.slotRow i).used = true then s.slots[i].status else .empty

/-- The value of a role's slot while it is FRESH or HELD. -/
def State.heldValue (s : State) (role : Role) : Option Int := match s.designated role with
  | some i => if s.slotStatus i = .fresh ∨ s.slotStatus i = .held then some s.slots[i].value else none
  | none => none

/-- The value of a role's slot while it is FRESH. -/
def State.freshValue (s : State) (role : Role) : Option Int := match s.designated role with
  | some i => if s.slotStatus i = .fresh then some s.slots[i].value else none
  | none => none

theorem State.readSlot_status (s : State) (i : Fin 64) : (s.readSlot i).2 = s.slotStatus i := by
  unfold State.readSlot State.slotStatus
  split <;> rfl

theorem State.readSlot_value {s : State} {i : Fin 64} (h : s.slotStatus i = .fresh ∨ s.slotStatus i = .held) :
    (s.readSlot i).1 = s.slots[i].value := by
  unfold State.readSlot State.slotStatus at *
  split at h
  · next hu =>
    rw [if_pos hu]
    rcases h with h | h <;> rw [h]
  · exact h.elim nofun nofun

theorem State.readRole_held (s : State) (role : Role) :
    (if usableStatus (s.readRole role).2 = true then some (s.readRole role).1 else none) = s.heldValue role := by
  unfold State.readRole State.heldValue
  cases s.designated role with
  | none => rfl
  | some i =>
    dsimp only
    rw [s.readSlot_status]
    have husable : usableStatus (s.slotStatus i) = true ↔ s.slotStatus i = .fresh ∨ s.slotStatus i = .held := by
      simp [usableStatus]
    by_cases h : s.slotStatus i = .fresh ∨ s.slotStatus i = .held
    · rw [if_pos (husable.mpr h), if_pos h, State.readSlot_value h]
    · rw [if_neg (fun e => h (husable.mp e)), if_neg h]

theorem State.readRole_fresh (s : State) (role : Role) :
    (if (s.readRole role).2 = .fresh then some (s.readRole role).1 else none) = s.freshValue role := by
  unfold State.readRole State.freshValue
  cases s.designated role with
  | none => rfl
  | some i =>
    dsimp only
    rw [s.readSlot_status]
    by_cases h : s.slotStatus i = .fresh
    · rw [if_pos h, if_pos h, State.readSlot_value (.inl h)]
    · rw [if_neg h, if_neg h]

theorem State.roleValue_eq (s : State) (role : Role) : s.roleValue role = s.heldValue role := by
  rw [← s.readRole_held]
  unfold State.roleValue State.readRole
  cases s.designated role <;> rfl

/-- The line state that a line-state slot gives (R140). -/
theorem State.lineOf_readRole (s : State) : lineOf ⟨0, (s.readRole .lineState).1, (s.readRole .lineState).2⟩
    = match s.freshValue .lineState with
      | some v => if v = 0 then .wired else if v = 1 then .dewired else if v = 2 then .shore else .unknown
      | none => .unknown := by
  rw [← s.readRole_fresh, lineOf]
  dsimp only
  split <;> rfl

/-! ### SYSTEM: the counts -/

/-- The count of section k clamped to a capacity below it (R96). -/
def State.clampedLoad (s : State) (k : Fin 3) : Load :=
  let l : Load := { s.loads[k] with count := s.capacityOf k, isOver := true }
  if s.capacityOf k < s.loads[k].count then l.lookup (s.bandOf (s.capacityOf k)) s.bandDwell else s.loads[k]

theorem State.clampedLoad_of {s : State} {k : Fin 3} {ls : Vector Load 3} {fl : EventFlags} (h : ls[k] = s.loads[k]) :
    State.clampedLoad { s with loads := ls, flags := fl } k = s.clampedLoad k := by
  unfold State.clampedLoad
  dsimp only
  rw [h]
  rfl

/-- A clamp by a new capacity is a count event of 0 (R85, R96). -/
theorem State.countEvent_clamp {s : State} {k : Fin 3} (h : s.capacityOf k < s.loads[k].count) : s.countEvent k 0 = { s with
    flags := { s.flags with countSaturated := true }
    loads := s.loads.set k (s.clampedLoad k) } := by
  have hcount : (s.capacityOf k : Int) < s.loads[k].count + 0 := by omega
  have hcounted : s.loads[k].counted (s.loads[k].count + 0) (s.capacityOf k)
      = { s.loads[k] with count := s.capacityOf k, isOver := true } := if_pos hcount
  rw [State.countEvent_eq]
  dsimp only
  rw [if_pos (.inl hcount), hcounted, State.clampedLoad, if_pos h]

theorem State.clampLoads_spec (s : State) : s.clampLoads = { s with
    loads := Vector.ofFn s.clampedLoad
    flags := if ∃ k : Fin 3, s.capacityOf k < s.loads[k].count then { s.flags with countSaturated := true }
      else s.flags } := by
  let flagged (i : Nat) : EventFlags := if ∃ k : Fin 3, k.val < i ∧ s.capacityOf k < s.loads[k].count then
    { s.flags with countSaturated := true } else s.flags
  have hflag : ∀ k : Fin 3, flagged (k + 1) = if s.capacityOf k < s.loads[k].count then
      { flagged k with countSaturated := true } else flagged k := by
    intro k
    have hlast : (∃ j : Fin 3, j.val < k.val + 1 ∧ s.capacityOf j < s.loads[j].count)
        ↔ (∃ j : Fin 3, j.val < k.val ∧ s.capacityOf j < s.loads[j].count) ∨ s.capacityOf k < s.loads[k].count := by
      constructor
      · rintro ⟨j, hj, hcut⟩
        by_cases hjk : j = k
        · exact .inr (hjk ▸ hcut)
        · exact .inl ⟨j, by have := fun e => hjk (Fin.ext e); omega, hcut⟩
      · rintro (⟨j, hj, hcut⟩ | hcut)
        · exact ⟨j, by omega, hcut⟩
        · exact ⟨k, by omega, hcut⟩
    by_cases hk : s.capacityOf k < s.loads[k].count
    · rw [if_pos hk, show flagged (k + 1) = _ from if_pos (hlast.mpr (.inr hk))]
      simp only [flagged]
      split <;> rfl
    · rw [if_neg hk]
      exact if_congr (hlast.trans (or_iff_left hk)) rfl rfl
  have hwalk : s.clampLoads = { s with loads := upTo 3 s.clampedLoad s.loads, flags := flagged 3 } := by
    refine forEach_eq (fun i => { s with loads := upTo i s.clampedLoad s.loads, flags := flagged i }) _ (fun k => ?_) ?_
    · dsimp only
      have hload : (upTo k.val s.clampedLoad s.loads)[k] = s.loads[k] := upTo_get _ _ k
      rw [← upTo_succ, hflag k, hload]
      by_cases hk : s.capacityOf k < s.loads[k].count
      · rw [if_pos hk]
        refine (if_pos hk).trans ((State.countEvent_clamp (by rw [hload]; exact hk)).trans ?_)
        rw [State.clampedLoad_of hload]
      · rw [if_neg hk, show s.clampedLoad k = s.loads[k] from if_neg hk, set_eq_self hload]
        exact if_neg hk
    · simp [flagged]
  have hall : (∃ k : Fin 3, k.val < 3 ∧ s.capacityOf k < s.loads[k].count)
      ↔ ∃ k : Fin 3, s.capacityOf k < s.loads[k].count := exists_congr fun k => and_iff_right k.isLt
  rw [hwalk, upTo_all, show flagged 3 = _ from if_congr hall rfl rfl]

theorem any_ne_zero (o : Option Int) : o.any (· != 0) = decide (o ≠ none ∧ o ≠ some 0) := by
  rw [Bool.eq_iff_iff]
  cases o <;> simp

/-- Settles O48. -/
theorem commitsReachScreenAndAllocator : Obligations.CommitsReachScreenAndAllocator := by
  intro s hlink hroom hidle answered installed valid
  refine ⟨fun hv => ?_, fun hv => ?_, fun hv => ?_, fun hv => ?_, fun hv => ?_⟩
  · intro u used
    obtain ⟨p, hmove, hstay, hnext, hfirst⟩ := u.movePointer_eq
    have hexec := exec_commit_valid hlink hroom hidle (table := 8) (t := .step) rfl hv
    rw [show s.commitTable .step = _ from hmove] at hexec
    refine ⟨_, hexec, rfl, hstay, fun i hi hn j hj => ?_, fun hn j hj => ?_, fun hp => ?_⟩
    · simpa only [used, Bool.not_eq_true] using State.nextStep_some ((hnext i hi hn).symm.trans hj)
    · simpa only [used, Bool.not_eq_true] using (u.firstStep_some j).mp ((hfirst hn).symm.trans hj)
    · have hp : p = none := hp
      have hnone : ∀ m < 12, (u.stepRow m).used = false := by
        cases hu : u.screen.pointer with
        | none => exact u.firstStep_none.mp ((hfirst hu).symm.trans hp)
        | some i =>
          by_cases hused : (u.stepRow i).used = true
          · exact nomatch (hstay i hu hused).symm.trans hp
          · exact State.nextStep_none ((hnext i hu hused).symm.trans hp)
      simpa only [used, Bool.not_eq_true] using hnone
  · refine (exec_commit_valid hlink hroom hidle (table := 9) (t := .stage) rfl hv).trans ?_
    have hlisted : (fun c : Fin 20 => decide (c ∈ [screenClaim])) = fun c => c == 19 := by
      funext c
      revert c
      decide
    refine congrArg (fun x => Host.Outcome.next (s.committed x)) ((State.refreshCapacities_spec _ _ (List.nodup_singleton _)).trans ?_)
    rw [hlisted, State.handStage_spec]
    rfl
  · refine (exec_commit_valid hlink hroom hidle (table := 10) (t := .claim) rfl hv).trans ?_
    refine congrArg (fun x => Host.Outcome.next (s.committed x)) ((State.recompute_regranted _).trans ?_)
    rw [State.coolersCompute_spec]
    rfl
  · refine (exec_commit_valid hlink hroom hidle (table := 11) (t := .budget) rfl hv).trans ?_
    refine congrArg (fun x => Host.Outcome.next (s.committed x)) ((State.recompute_regranted _).trans ?_)
    rw [State.repool_pooled, State.retarget_targeted]
    rfl
  · intro u cut load renamed status held arrived line a counted computed
    refine (exec_commit_valid hlink hroom hidle (table := 13) (t := .system) rfl hv).trans ?_
    have hheld : ∀ role, u.heldValue role = held role := fun role => rfl
    have harrived : ∀ role, u.freshValue role = arrived role := fun role => rfl
    have hmark : (u.roleValue .terminusMark).any (· != 0)
        = decide (held .terminusMark ≠ none ∧ held .terminusMark ≠ some 0) := by
      rw [u.roleValue_eq, hheld]
      exact any_ne_zero _
    have hmarked : s.systemLoad u = { u with
        loads := Vector.ofFn load
        flags := if ∃ k, cut k then { s.flags with countSaturated := true } else s.flags
        markHigh := counted.markHigh } := by
      have hclamped : u.clampedLoad = load := by
        funext k
        by_cases hk : cut k
        · exact (if_pos hk).trans (if_neg (not_not.mpr hk)).symm
        · exact (if_neg hk).trans (if_pos hk).symm
      unfold State.systemLoad
      dsimp only
      rw [u.clampLoads_spec, hclamped]
      by_cases h : u.sys.used = true ∧ renamed .terminusMark
      · refine (if_pos h).trans ?_
        rw [hmark]
        simp only [counted, if_pos h]
        rfl
      · refine (if_neg h).trans ?_
        simp only [counted, if_neg h]
        rfl
    have hload : s.systemScreen (s.systemLoad u) = counted := by
      rw [hmarked]
      unfold State.systemScreen
      by_cases h : u.screenInterval = s.screenInterval
      · refine (if_pos h).trans ?_
        simp only [counted, if_pos h]
        rfl
      · refine (if_neg h).trans ?_
        simp only [counted, if_neg h]
        rfl
    refine congrArg (fun x => Host.Outcome.next (s.committed x)) ?_
    change s.systemAlloc (s.systemScreen (s.systemLoad u)).coolersCompute = _
    rw [hload, State.coolersCompute_spec, State.systemAlloc, State.repool_pooled, State.retarget_targeted]
    have hswap : ∀ {α : Type} (role : Role) (x y z : α), y = z →
        (if u.designated role = s.designated role then x else y) = if renamed role then z else x := by
      intro α role x y z hyz
      by_cases h : u.designated role = s.designated role
      · rw [if_pos h, if_neg (not_not.mpr h)]
      · rw [if_neg h, if_pos h, hyz]
    have hline : (if u.designated .lineState = s.designated .lineState then a.line
        else lineOf ⟨0, (u.readRole .lineState).1, (u.readRole .lineState).2⟩) = _ :=
      hswap .lineState _ _ line u.lineOf_readRole
    have hpermitted : (if u.designated .permittedPower = s.designated .permittedPower then a.permitted
        else if usableStatus (u.readRole .permittedPower).2 = true then some (u.readRole .permittedPower).1.toNat
          else none) = _ :=
      hswap .permittedPower _ _ ((held .permittedPower).map Int.toNat) (by rw [← hheld, ← u.readRole_held]; split <;> rfl)
    have hsurplus : (if u.designated .surplus = s.designated .surplus then a.surplus
        else if (u.readRole .surplus).2 = .fresh then some (u.readRole .surplus).1.toNat else none) = _ :=
      hswap .surplus _ _ ((arrived .surplus).map Int.toNat) (by rw [← harrived, ← u.readRole_fresh]; split <;> rfl)
    rw [← hline, ← hpermitted, ← hsurplus]
    rfl

end Sys2Proof.Machine
end

section
/-! Proofs for what the reads report and when a request is refused for room or range (R180 to R182, R197 to R200). -/

namespace Sys2Proof.Machine

/-! ### Frames of a report (R181, R207) -/

theorem byteOf_toNat {n : Nat} (h : n < 256) : (byteOf n).toNat = n := by
  unfold byteOf
  rw [BitVec.ofInt_natCast, BitVec.toNat_ofNat]
  exact Nat.mod_eq_of_lt h

theorem indexOf_byteOf {n : Nat} (i : Fin n) (h : n ≤ 256) : indexOf n (byteOf i) = some i := by
  have hv := byteOf_toNat (n := i) (by omega)
  rw [indexOf, dif_pos (by omega)]
  exact congrArg some (Fin.ext hv)

theorem indexOf_none {n : Nat} {b : Byte} (h : n ≤ b.toNat) : indexOf n b = none := dif_neg (by omega)

theorem indexOf_some {n : Nat} {b : Byte} (h : b.toNat < n) : ∃ i, indexOf n b = some i := ⟨_, dif_pos h⟩

/-- The state after a response of result OK of n frames, six bytes of the content in each. -/
def State.told (s : State) (code n : Nat) (content : List Byte) : State := { s with
  draws := s.draws + 1, responses := s.responses ++ (List.range n).map fun k => ⟨canId (0x6E1 + 2 * s.node.val),
    [byteOf (code + 32 * (k + 1) : Nat), byteOf n] ++ (content.drop (6 * k)).take 6⟩ }

/-- The state after a request refused with a result of response code r, in one frame with no content. -/
def State.refusedWith (s : State) (code r : Nat) : State := { s with
  draws := s.draws + 1, responses := s.responses ++ [⟨canId (0x6E1 + 2 * s.node.val),
    [byteOf (code + 32 : Nat), byteOf r, 0, 0, 0, 0, 0, 0]⟩] }

/-- A frame's six content bytes are filled up with zeros. -/
theorem chunk_eq (content : List Byte) {p k : Nat} (h : 6 * k + 6 ≤ content.length + p) :
    (List.range 6).map (fun j => content.getD (6 * k + j) 0)
      = ((content ++ List.replicate p 0).drop (6 * k)).take 6 := by
  refine List.ext_getElem (by simp; omega) fun j hj _ => ?_
  have hj6 : j < 6 := by simpa using hj
  simp only [List.getElem_map, List.getElem_range, List.getElem_take, List.getElem_drop, List.getElem_append]
  by_cases hc : 6 * k + j < content.length
  · rw [dif_pos hc, List.getD_eq_getElem _ _ hc]
  · rw [dif_neg hc, List.getD_eq_default _ _ (by omega), List.getElem_replicate]

theorem framesOf_eq {content : List Byte} {n p : Nat} (hn : 0 < n) (hl : content.length + p = 6 * n) (hp : p < 6) :
    framesOf content = n := by unfold framesOf; omega

/-- A response of result OK reports its content, filled up to full frames (R181, R207). -/
theorem State.answer_told {s : State} (hlink : s.vehicle.link = .on) (code : Nat) {content : List Byte} {n p : Nat}
    (hn : 0 < n) (hl : content.length + p = 6 * n) (hp : p < 6) :
    s.answer code .ok content = s.told code n (content ++ List.replicate p 0) := by
  rw [State.answer_on hlink, responseFrames, framesOf_eq hn hl hp]
  have hframes : (List.range n).map (fun k => responseFrame s.node code .ok content n k)
      = (List.range n).map fun k => ⟨canId (0x6E1 + 2 * s.node.val), [byteOf (code + 32 * (k + 1) : Nat), byteOf n]
        ++ ((content ++ List.replicate p 0).drop (6 * k)).take 6⟩ := by
    refine List.map_congr_left fun k hk => ?_
    have hk := List.mem_range.mp hk
    rw [← chunk_eq content (by omega)]
    rfl
  rw [hframes]
  rfl

theorem State.answer_refused {s : State} (hlink : s.vehicle.link = .on) (code : Nat) (r : Result) :
    s.answer code r [] = s.refusedWith code (1 + 8 * r.code) := by
  rw [State.answer_one hlink code r (by simp)]
  rfl

/-! ### Reads (R182, R199, R200) -/

/-- A read with room for its frames reports its content. -/
theorem State.serveRead_told {s : State} (hlink : s.vehicle.link = .on) (code : Nat) {content : List Byte} {n p : Nat}
    (hn : 0 < n) (hl : content.length + p = 6 * n) (hp : p < 6) (hroom : s.responses.length + n ≤ 16) :
    s.serveRead code (some content) = s.told code n (content ++ List.replicate p 0) := by
  refine ((s.withRoom_spec code _ _).1 ?_).trans (State.answer_told hlink code hn hl hp)
  rwa [framesOf_eq hn hl hp]

/-- A read with too little room for its frames is answered BUSY. -/
theorem State.serveRead_busy {s : State} (hlink : s.vehicle.link = .on) (code : Nat) {content : List Byte} {n p : Nat}
    (hn : 0 < n) (hl : content.length + p = 6 * n) (hp : p < 6) (hfull : 16 < s.responses.length + n)
    (hroom : s.responses.length < 16) : s.serveRead code (some content) = s.refusedWith code 81 := by
  refine ((s.withRoom_spec code _ _).2.1 ?_ hroom).trans (State.answer_refused hlink code .busy)
  rwa [framesOf_eq hn hl hp]

/-- A read that names nothing is refused RANGE. -/
theorem State.serveRead_range {s : State} (hlink : s.vehicle.link = .on) (code : Nat)
    (hroom : s.responses.length < 16) : s.serveRead code none = s.refusedWith code 17 :=
  ((s.withRoom_spec code 1 _).1 hroom).trans (State.answer_refused hlink code .range)

/-! ### The contents (R207) -/

@[simp] theorem le16_length (n : Int) : (le16 n).length = 2 := rfl

@[simp] theorem two_length (n : Nat) : (two n).length = 2 := rfl

theorem State.doorContent_length (s : State) (d : Fin 8) : (s.doorContent d).length = 12 := by
  have hseconds : (if s.doors[d].timer = none then [s.freeByte 4, s.freeByte 5]
      else two s.doors[d].timer.wholeSeconds).length = 2 := by split <;> rfl
  simp only [State.doorContent, List.length_append, hseconds]
  rfl

/-- A row of a bank in shape has its table's row length (R189). -/
theorem Bank.row_length {b : Bank} (h : b.shaped = true) {t : TableId} {i : Nat} (hi : i < t.rowCount) :
    (b.row t i).length = t.rowLength := by
  obtain ⟨hcount, hlength⟩ := (Bank.shaped_iff b).mp h t
  rw [Bank.row, List.getD_eq_getElem _ _ (by omega)]
  exact hlength _ (List.getElem_mem _)

theorem State.channelSource_length (s : State) (c : Fin 24) : (s.channelSource c).length = 2 := by
  unfold State.channelSource
  dsimp only
  split <;> rfl

theorem State.channelContent_length {s : State} (h : s.active.shaped = true) (c : Fin 24) :
    (s.channelContent c).length = 30 := by
  have hrow : (s.active.row .output c).length = 18 := Bank.row_length h c.isLt
  simp [State.channelContent, sentOutputRow, hrow, s.channelSource_length c]

theorem rowLength_frames (t : TableId) : t.rowLength = 6 * (t.rowLength / 6) ∧ 0 < t.rowLength / 6 := by cases t <;> decide

theorem State.readSlot_eq (s : State) (i : Fin 64) : s.readSlot i = (if (s.slotRow i).used = false then 0
    else if s.slots[i].status = .fresh ∨ s.slots[i].status = .held then s.slots[i].value else (s.slotRow i).substitute,
    if (s.slotRow i).used = true then s.slots[i].status else .empty) := by
  unfold State.readSlot
  cases (s.slotRow i).used <;> cases s.slots[i].status <;> simp

/-- A read that has content, filled up to full frames, reports it. -/
theorem State.reads {s : State} {c : Instr} {code n : Nat} {content full : List Byte} {read : Option (List Byte)} (p : Nat)
    (hexec : exec c s = .next (s.serveRead code read)) (hread : read = some content) (hlink : s.vehicle.link = .on)
    (hn : 0 < n) (hl : content.length + p = 6 * n) (hp : p < 6) (hfull : content ++ List.replicate p 0 = full)
    (hroom : s.responses.length + n ≤ 16) : exec c s = .next (s.told code n full) := by
  rw [hexec, hread, State.serveRead_told hlink code hn hl hp hroom, hfull]

theorem indexOf_map {α : Type} {n : Nat} (f : Fin n → α) (i : Fin n) (h : n ≤ 256) :
    (indexOf n (byteOf i)).map f = some (f i) := by rw [indexOf_byteOf i h, Option.map_some]

theorem State.shareOf_level (s : State) (c : Fin 20) : (s.shareOf c).level = s.effectiveLevel c := by
  have h : c = screenClaim ↔ c.val = 19 := by simp [screenClaim, Fin.ext_iff]
  simp [State.shareOf, State.effectiveLevel, h]

/-- Settles O49: the content lists of R207, filled up to full frames (`State.reads`). -/
theorem readsReportTheirObject : Obligations.ReadsReportTheirObject := by
  unfold Obligations.ReadsReportTheirObject
  intro s hlink reports bit band free
  have hband : bandByte = band := funext fun b => by cases b <;> rfl
  refine ⟨fun i => ?_, fun z => ?_, fun d => ?_, fun k => ?_, fun c => ?_⟩
  · intro r x value
    refine State.reads 1 rfl (indexOf_map s.slotContent i (by decide)) hlink (by decide) rfl (by decide) ?_
    unfold State.slotContent
    rw [s.readSlot_eq i]
    cases hu : (s.slotRow i).used
    · simp only [r, value, hu]
      rfl
    · simp only [r, value, hu]
      cases (s.slotRow i).kind <;> rfl
  · intro x
    exact State.reads 0 rfl (indexOf_map s.zoneContent z (by decide)) hlink (by decide) rfl (by decide) rfl
  · intro x masked
    refine State.reads 0 rfl (indexOf_map s.doorContent d (by decide)) hlink (by decide)
      (s.doorContent_length d) (by decide) ((List.append_nil _).trans ?_)
    unfold State.doorContent
    have hstaged : s.doors[d].staged.isSome = decide (s.doors[d].staged ≠ none) := by cases s.doors[d].staged <;> simp
    simp only [Nat.cast_add, hstaged, two, Timer.wholeSeconds, Int.natCast_ediv]
    simp only [x, masked]
    generalize s.doors[d].candidate = candidate
    rcases candidate with _ | _ | _ <;> rfl
  · intro x u
    refine State.reads 0 rfl (indexOf_map s.sectContent k (by decide)) hlink (by decide) rfl (by decide) ?_
    unfold State.sectContent
    have hpending : s.loads[k].pendingBand.isSome = decide (s.loads[k].pendingBand ≠ none) := by
      cases s.loads[k].pendingBand <;> simp
    simp only [Nat.cast_add, hpending, two, Timer.wholeSeconds, Int.natCast_ediv, hband]
    cases hp : s.loads[k].pendingBand
    · rfl
    · rfl
  · intro x
    refine State.reads 0 rfl (indexOf_map s.claimContent c (by decide)) hlink (by decide) rfl (by decide) ?_
    unfold State.claimContent
    simp only [two, Nat.cast_add, Nat.cast_mul, s.shareOf_level c]
    rfl

/-- The source value of a channel whose row is used and names a source (R163). -/
theorem State.channelSource_fed {s : State} {c : Fin 24} {src : Source} (hu : (s.outputRow c).used = true)
    (hs : (s.outputRow c).fedBy src = true) : s.channelSource c = le16 (s.sourceValue src) := by
  have hsource : (s.outputRow c).source = some src := by simpa [OutputRow.fedBy_spec] using hs
  unfold State.channelSource
  dsimp only
  rw [hu, hsource]
  rfl

theorem State.channelSource_free {s : State} {c : Fin 24}
    (h : (s.outputRow c).used = false ∨ ∀ src, (s.outputRow c).fedBy src = false) :
    s.channelSource c = [s.freeByte 6, s.freeByte 7] := by
  unfold State.channelSource
  dsimp only
  split
  · next src hu hsource =>
    rcases h with h | h
    · exact absurd (hu.symm.trans h) (by decide)
    · exact absurd (h src) (by simp [OutputRow.fedBy_spec, hsource])
  · rfl

theorem TableId.ofCode_code (t : TableId) : TableId.ofCode (byteOf t.code).toNat = some t := by cases t <;> rfl

/-- READ_ROW of a row of a known table below its row count (R199). -/
theorem State.rowContent_eq (s : State) {t : TableId} {row : Byte} (hi : row.toNat < t.rowCount) :
    s.rowContent (byteOf t.code) row 0 = some (s.active.row t row.toNat)
      ∧ s.rowContent (byteOf t.code) row 1 = some (s.shadow.row t row.toNat) := by
  unfold State.rowContent
  rw [TableId.ofCode_code t]
  dsimp only
  rw [if_pos hi, if_pos hi]
  exact ⟨rfl, rfl⟩

theorem TableId.rowCount_le (t : TableId) : t.rowCount ≤ 128 := by cases t <;> decide

/-- Settles O50: both banks in shape give the row its length, so the contents fill their frames. -/
theorem readsReportRowsAndChannels : Obligations.ReadsReportRowsAndChannels := by
  unfold Obligations.ReadsReportRowsAndChannels
  intro s hlink hactive hshadow reports bit
  refine ⟨fun c => ?_, fun t i hi => ?_⟩
  · intro x channel
    have hsome : x.replyWait.isSome = decide (x.replyWait ≠ none) := by cases x.replyWait <;> simp
    have hread : ∀ source, s.channelSource c = source → channel source := fun source hsource => by
      refine State.reads 0 rfl (indexOf_map s.channelContent c (by decide)) hlink (by decide)
        (State.channelContent_length hactive c) (by decide) ((List.append_nil _).trans ?_)
      unfold State.channelContent
      dsimp only
      rw [hsource, hsome]
      rfl
    exact ⟨fun src hu hs => hread _ (State.channelSource_fed hu hs), fun h => hread _ (State.channelSource_free h)⟩
  · have hrow : (byteOf i).toNat = i := byteOf_toNat (by have := t.rowCount_le; omega)
    obtain ⟨hfromActive, hfromShadow⟩ := s.rowContent_eq (row := byteOf i) (t := t) (by omega)
    rw [hrow] at hfromActive hfromShadow
    obtain ⟨hframes, hsome⟩ := rowLength_frames t
    exact ⟨State.reads 0 rfl hfromActive hlink hsome ((Bank.row_length hactive hi).trans hframes) (by decide)
        (List.append_nil _),
      State.reads 0 rfl hfromShadow hlink hsome ((Bank.row_length hshadow hi).trans hframes) (by decide)
        (List.append_nil _)⟩

/-! ### STATUS and IDENTIFY (R197, R198) -/

/-- Settles O51: the content of R207 is read off in each engine state. -/
theorem statusAndIdentifyReport : Obligations.StatusAndIdentifyReport := by
  unfold Obligations.StatusAndIdentifyReport
  refine ⟨byteOf (Config.designLevelLess1.val + 1 : Nat), fun h => ?_, fun s hlink => ?_⟩
  · have hlevel := byteOf_toNat (n := Config.designLevelLess1.val + 1) (by omega)
    rw [h] at hlevel
    exact absurd hlevel (by simp)
  · intro n free bit f c head flagBits margin content
    refine ⟨fun hroom => ?_, fun hroom => ?_⟩
    · have hmarks : s.markBits = ((List.finRange 13).map fun i => bit s.marks[i] (2 ^ i.val)).sum := rfl
      have hpointer : bandByte s.screen.pointer = byteOf (s.screen.pointer.getD 255 : Nat) := by
        cases s.screen.pointer <;> rfl
      have hmargin : s.screen.margin.isNone = decide (s.screen.margin = none) := by cases s.screen.margin <;> rfl
      have hcontent : s.statusContent = content := by
        unfold State.statusContent
        simp only [hmarks, hpointer, hmargin, two, Nat.cast_min, Int.natCast_ediv]
        simp only [content, head]
        rcases s.engine with _ | o | h <;> rfl
      have hlength : s.statusContent.length = 30 := by
        unfold State.statusContent
        rcases s.engine with _ | o | h <;> rfl
      have htold := State.answer_told hlink 2 (content := s.statusContent) (n := 5) (p := 0) (by decide) hlength
        (by decide)
      refine congrArg Host.Outcome.next (((s.withRoom_spec 2 5 _).1 hroom).trans ?_)
      rw [htold, hcontent, List.replicate_zero, List.append_nil]
      rfl
    · refine (State.reads (n := 1) 2 rfl rfl hlink (by decide) rfl (by decide) rfl hroom).trans ?_
      refine congrArg Host.Outcome.next ?_
      rfl

/-! ### Room and range (R182, R199, R200) -/

theorem State.serveRead_room (s : State) (code : Nat) (content : Option (List Byte)) :
    ∃ n act, s.serveRead code content = s.withRoom code n act ∧ 0 < n := by
  cases content with
  | none => exact ⟨1, _, rfl, by decide⟩
  | some c => exact ⟨framesOf c, _, rfl, by unfold framesOf; omega⟩

/-- Every request but RESTART passes the room check (R182). -/
theorem exec_request_room (s : State) {data : List Byte} {c : Instr} (h : requestCommand data = some c)
    (hc : c ≠ .restart) : ∃ code n act, exec c s = .next (s.withRoom code n act) ∧ 0 < n := by
  have read : ∀ {c : Instr} (code : Nat) (content : Option (List Byte)), exec c s = .next (s.serveRead code content) →
      ∃ code n act, exec c s = .next (s.withRoom code n act) ∧ 0 < n := fun code content hexec => by
    obtain ⟨n, act, hread, hn⟩ := s.serveRead_room code content
    exact ⟨code, n, act, hread ▸ hexec, hn⟩
  have one : ∀ {c : Instr} (code : Nat) (f : State → State × Result × List Byte), exec c s = .next (s.serveOne code f) →
      ∃ code n act, exec c s = .next (s.withRoom code n act) ∧ 0 < n :=
    fun code f hexec => ⟨code, 1, _, hexec, by decide⟩
  have load : ∀ {c : Instr} (code : Nat) (f : State → LoadOutcome), exec c s = .next (s.serveLoad code f) →
      ∃ code n act, exec c s = .next (s.withRoom code n act) ∧ 0 < n := fun code f hexec => one code _ hexec
  unfold requestCommand at h
  split at h <;> cases h
  case h_1 | h_9 | h_10 | h_11 | h_12 | h_13 | h_14 | h_15 => exact read _ _ rfl
  case h_2 => exact ⟨2, 5, _, rfl, by decide⟩
  case h_3 | h_4 | h_5 | h_6 | h_7 | h_8 | h_19 => exact load _ _ rfl
  case h_18 => exact absurd rfl hc
  all_goals exact one _ _ rfl

/-- A request that finds the response queue full is discarded with SERVICE_DROPPED (R182). -/
theorem exec_request_full {s : State} {data : List Byte} {c : Instr} (h : requestCommand data = some c)
    (hc : c ≠ .restart) (hfull : 16 ≤ s.responses.length) :
    exec c s = .next { s with flags := { s.flags with serviceDropped := true } } := by
  obtain ⟨code, n, act, hexec, hn⟩ := exec_request_room s h hc
  rw [hexec, (s.withRoom_spec code n act).2.2 (by omega) hfull]
  rfl

/-- A read that has content but too little room for its frames is answered BUSY (R182). -/
theorem State.readBusy {s : State} {c : Instr} {code n : Nat} {content : List Byte} {read : Option (List Byte)}
    (hexec : exec c s = .next (s.serveRead code read)) (hread : read = some content) (hlink : s.vehicle.link = .on)
    (hn : 0 < n) (hl : content.length = 6 * n) (hfull : 16 < s.responses.length + n) (hroom : s.responses.length < 16) :
    exec c s = .next (s.refusedWith code 81) := by
  rw [hexec, hread, State.serveRead_busy hlink code hn (p := 0) hl (by decide) hfull hroom]

/-- READ_ROW of a known bank (R199). -/
theorem State.rowContent_length {s : State} (hactive : s.active.shaped = true) (hshadow : s.shadow.shaped = true)
    {t : TableId} {row bank : Byte} (hi : row.toNat < t.rowCount) (hbank : bank.toNat < 2) :
    ∃ content, s.rowContent (byteOf t.code) row bank = some content ∧ content.length = t.rowLength := by
  unfold State.rowContent
  rw [TableId.ofCode_code t]
  dsimp only
  rw [if_pos hi]
  generalize bank.toNat = b at hbank
  rcases b with _ | _ | b
  · exact ⟨_, rfl, Bank.row_length hactive hi⟩
  · exact ⟨_, rfl, Bank.row_length hshadow hi⟩
  · omega

/-- READ_ROW that names no table, no row or no bank (R199). -/
theorem State.rowContent_none {s : State} {table row bank : Byte}
    (h : TableId.ofCode table.toNat = none ∨ (∃ t, TableId.ofCode table.toNat = some t ∧ t.rowCount ≤ row.toNat)
      ∨ 2 ≤ bank.toNat) : s.rowContent table row bank = none := by
  unfold State.rowContent
  cases ht : TableId.ofCode table.toNat with
  | none => rfl
  | some t =>
    dsimp only
    by_cases hrow : row.toNat < t.rowCount
    · rw [if_pos hrow]
      rcases h with h | ⟨u, hu, hcount⟩ | hbank
      · exact absurd (ht.symm.trans h) (by simp)
      · cases ht.symm.trans hu
        omega
      · generalize bank.toNat = b at hbank
        rcases b with _ | _ | b
        · omega
        · omega
        · rfl
    · rw [if_neg hrow]

/-- Settles O52: the room check of `exec_request_room`, and the reads that name nothing. -/
theorem requestsAreRefusedForRoomOrRange : Obligations.RequestsAreRefusedForRoomOrRange := by
  unfold Obligations.RequestsAreRefusedForRoomOrRange
  refine ⟨?_, ?_⟩
  · intro s data c hlink hc busy
    have index : ∀ {n : Nat} (f : Fin n → List Byte) {i : Byte}, i.toNat < n →
        ∃ k, (indexOf n i).map f = some (f k) := fun f i hi => by
      obtain ⟨k, hk⟩ := indexOf_some hi
      exact ⟨k, by rw [hk, Option.map_some]⟩
    refine ⟨fun hr hfull => exec_request_full hc hr hfull, fun hfull hroom hstatus => ?_,
      fun hfull hroom i hi hshaped he => ?_, fun hfull hroom i => ⟨fun hi he => ?_, fun hi he => ?_, fun hi he => ?_⟩,
      fun t i bank hi hbank hactive hshadow hfull hroom he => ?_, fun hfull i hi he => ?_⟩
    · subst hstatus
      exact congrArg Host.Outcome.next (((s.withRoom_spec 2 5 _).2.1 (by omega) hroom).trans
        (State.answer_refused hlink 2 .busy))
    · obtain ⟨k, hk⟩ := index s.channelContent hi
      subst he
      exact State.readBusy rfl hk hlink (n := 5) (by decide) (State.channelContent_length hshaped k) (by omega) hroom
    · obtain ⟨k, hk⟩ := index s.zoneContent hi
      subst he
      exact State.readBusy rfl hk hlink (n := 3) (by decide) rfl (by omega) hroom
    · obtain ⟨k, hk⟩ := index s.sectContent hi
      subst he
      exact State.readBusy rfl hk hlink (n := 3) (by decide) rfl (by omega) hroom
    · obtain ⟨k, hk⟩ := index s.claimContent hi
      subst he
      exact State.readBusy rfl hk hlink (n := 3) (by decide) rfl (by omega) hroom
    · obtain ⟨content, hcontent, hlength⟩ := State.rowContent_length hactive hshadow hi hbank
      obtain ⟨hframes, hsome⟩ := rowLength_frames t
      subst he
      exact State.readBusy rfl hcontent hlink hsome (hlength.trans hframes) hfull hroom
    · obtain ⟨k, hk⟩ := index s.doorContent hi
      subst he
      exact State.readBusy rfl hk hlink (n := 2) (by decide) (s.doorContent_length k) (by omega) (by omega)
  · intro s b hlink hroom refused
    have range : ∀ {c : Instr} {code : Nat} {read : Option (List Byte)}, exec c s = .next (s.serveRead code read) →
        read = none → refused c code := fun hexec hread =>
      hexec.trans (congrArg Host.Outcome.next (by rw [hread]; exact State.serveRead_range hlink _ hroom))
    have index : ∀ {n : Nat} (f : Fin n → List Byte), n ≤ b.toNat → (indexOf n b).map f = none := fun f h => by
      rw [indexOf_none h, Option.map_none]
    exact ⟨fun h => range rfl (index s.slotContent h),
      fun h => ⟨range rfl (index s.zoneContent h), range rfl (index s.doorContent h)⟩,
      fun h => range rfl (index s.sectContent h), fun h => range rfl (index s.claimContent h),
      fun h => range rfl (index s.channelContent h), fun table row bank h => range rfl (State.rowContent_none h)⟩

end Sys2Proof.Machine
end

section
/-! Proofs for the requests on a set of doors or sections, and LOAD_SET (R62, R64, R92, R94, R201). -/

namespace Sys2Proof.Machine

/-! ### Walks over a set (R203) -/

/-- A walk over a set of doors is one over all doors that passes over those not named. -/
theorem doorSet_walk (b : Byte) (f : State → Fin 8 → State) (s : State) :
    (doorSet b).foldl f s = forEach 8 (fun d t => if b.toNat.testBit d = true then f t d else t) s := by
  rw [doorSet, List.foldl_filter]
  rfl

theorem sectSet_walk (b : Byte) (f : State → Fin 3 → State) (s : State) :
    (sectSet b).foldl f s = forEach 3 (fun k t => if b.toNat.testBit k = true then f t k else t) s := by
  rw [sectSet, List.foldl_filter]
  rfl

/-- The doors with those named changed. -/
def doorsOf (b : Byte) (new : Fin 8 → Door) (s : State) (d : Fin 8) : Door :=
  if b.toNat.testBit d = true then new d else s.doors[d]

theorem doorSet_walk_eq {b : Byte} {f : State → Fin 8 → State} {s : State} (new : Fin 8 → Door)
    (h : ∀ (d : Fin 8) (ds : Vector Door 8), ds[d] = s.doors[d] →
      f { s with doors := ds } d = { s with doors := ds.set d (new d) }) :
    (doorSet b).foldl f s = { s with doors := Vector.ofFn (doorsOf b new s) } := by
  rw [doorSet_walk, forEach_eq (fun k => { s with doors := upTo k (doorsOf b new s) s.doors }) _ (fun d => ?_) (by simp),
    upTo_all]
  rw [← upTo_succ]
  by_cases hb : b.toNat.testBit d = true
  · rw [if_pos hb, h d _ (upTo_get _ _ d), doorsOf, if_pos hb]
  · rw [if_neg hb, doorsOf, if_neg hb, ← upTo_get (doorsOf b new s) s.doors d]
    exact congrArg (fun ds => { s with doors := ds }) (Vector.set_getElem_self _).symm

/-- The section records with those named changed. -/
def loadsOf (b : Byte) (new : Fin 3 → Load) (s : State) (k : Fin 3) : Load :=
  if b.toNat.testBit k = true then new k else s.loads[k]

theorem sectSet_walk_eq {b : Byte} {f : State → Fin 3 → State} {s : State} (new : Fin 3 → Load)
    (h : ∀ (k : Fin 3) (ls : Vector Load 3), ls[k] = s.loads[k] →
      f { s with loads := ls } k = { s with loads := ls.set k (new k) }) :
    (sectSet b).foldl f s = { s with loads := Vector.ofFn (loadsOf b new s) } := by
  rw [sectSet_walk, forEach_eq (fun j => { s with loads := upTo j (loadsOf b new s) s.loads }) _ (fun k => ?_) (by simp),
    upTo_all]
  rw [← upTo_succ]
  by_cases hb : b.toNat.testBit k = true
  · rw [if_pos hb, h k _ (upTo_get _ _ k), loadsOf, if_pos hb]
  · rw [if_neg hb, loadsOf, if_neg hb, ← upTo_get (loadsOf b new s) s.loads k]
    exact congrArg (fun ls => { s with loads := ls }) (Vector.set_getElem_self _).symm

/-! ### The requests -/

theorem State.clearSet_eq (s : State) (b : Byte) : s.clearSet b
    = { s with doors := Vector.ofFn (doorsOf b (fun d => { s.doors[d] with latch := false }) s) } :=
  doorSet_walk_eq _ fun d ds hd => by
    rw [← hd]
    rfl

theorem State.armSet_eq (s : State) (armed : Bool) (b : Byte) : s.armSet armed b
    = { s with loads := Vector.ofFn (loadsOf b (fun k => { s.loads[k] with armed := armed }) s) } :=
  sectSet_walk_eq _ fun k ls hk => by
    rw [← hk]
    rfl

/-- Door d after a change of its service mask (R62, R63). -/
def State.serviceMasked (s : State) (on : Bool) (d : Fin 8) : DoorRun :=
  DoorRun.maskChanged (s.doorView d) (s.doors[d].masked s.groupMask) false ⟨{ s.doors[d] with serviceMask := on }, [], false⟩

theorem State.setServiceMask_eq (s : State) (on : Bool) (d : Fin 8) :
    s.setServiceMask on d = s.finishDoor d (s.serviceMasked on d) := by
  have h := s.runDoor_doorAt d { s.doors[d] with serviceMask := on } []
    fun v r => r.maskChanged v (s.doors[d].masked s.groupMask) false
  rw [State.doorAt_nil] at h
  exact h

/-- A change of the service mask of a door clears the effective mask when no other mask is set. -/
theorem Door.takesLatch_service (x : Door) (a g mask byStop : Bool) :
    ({ x with serviceMask := mask } : Door).takesLatch ⟨a, g⟩ (x.masked g) byStop ↔ a = true ∧ mask = false
      ∧ x.serviceMask = true ∧ x.overrideMask = false ∧ g = false ∧ byStop = false ∧ x.latch = true ∧ x.burst = .idle := by
  constructor
  · rintro ⟨ha, hwas, hm, hb, hl, hi⟩
    simp only [Door.masked, Bool.or_eq_false_iff] at hm
    obtain ⟨⟨hmask, ho⟩, hg⟩ := hm
    simp only [Door.masked, ho, hg, Bool.or_false] at hwas
    exact ⟨ha, hmask, hwas, ho, hg, hb, hl, hi⟩
  · rintro ⟨ha, hmask, hs, ho, hg, hb, hl, hi⟩
    exact ⟨ha, by simp [Door.masked, hs], by simp [Door.masked, ho, hmask, hg], hb, hl, hi⟩

/-- A door that takes no latched trigger changes its service mask alone. -/
theorem State.setServiceMask_keeps {s : State} {on : Bool} {d : Fin 8} (h : on = true ∨ s.doors[d].latch = false) :
    s.setServiceMask on d = { s with doors := s.doors.set d { s.doors[d] with serviceMask := on } } := by
  have hno : ¬ ({ s.doors[d] with serviceMask := on } : Door).takesLatch (s.doorView d)
      (s.doors[d].masked s.groupMask) false := fun e => by
    obtain ⟨-, hon, -, -, -, -, hl, -⟩ := (Door.takesLatch_service _ _ _ _ _).mp e
    rcases h with h | h
    · exact absurd (hon.symm.trans h) (by decide)
    · exact absurd (hl.symm.trans h) (by decide)
  rw [State.setServiceMask_eq, State.serviceMasked, DoorRun.maskChanged_keeps hno, State.finishDoor_quiet, State.doorAt_nil]

theorem State.maskSet_eq {s : State} {on : Bool} (b : Byte) (h : on = true ∨ ∀ d : Fin 8, s.doors[d].latch = false) :
    s.maskSet on b = { s with doors := Vector.ofFn (doorsOf b (fun d => { s.doors[d] with serviceMask := on }) s) } :=
  doorSet_walk_eq _ fun d ds hd => by
    refine (State.setServiceMask_keeps (h.imp_right fun h => (congrArg Door.latch hd).trans (h d))).trans ?_
    rw [← hd]

/-- Each door named takes its own change of mask, and no other door changes. -/
theorem State.maskSet_doors (s : State) (on : Bool) (b : Byte) (d : Fin 8) :
    (s.maskSet on b).doors[d] = doorsOf b (fun d => (s.serviceMasked on d).door) s d := by
  let new : Fin 8 → Door := doorsOf b (fun d => (s.serviceMasked on d).door) s
  have key := forEach_progress (n := 8)
    (fun k t => t.part = s.part ∧ t.active = s.active ∧ t.groupMask = s.groupMask ∧ t.doors = upTo k new s.doors)
    (fun d t => if b.toNat.testBit d = true then t.setServiceMask on d else t) s ?_
    ⟨rfl, rfl, rfl, (upTo_zero _ _).symm⟩
  · obtain ⟨-, -, -, hdoors⟩ := key
    rw [← doorSet_walk, upTo_all] at hdoors
    exact (congrArg (fun v : Vector Door 8 => v[d]) hdoors).trans (Vector.getElem_ofFn d.isLt)
  · rintro d t ⟨hpart, hactive, hgroup, hdoors⟩
    have hold : t.doors[d] = s.doors[d] := by rw [hdoors]; exact upTo_get _ _ d
    by_cases hb : b.toNat.testBit d = true
    · rw [if_pos hb]
      have hrun : t.serviceMasked on d = s.serviceMasked on d := by
        simp only [State.serviceMasked, State.doorView, State.doorRow, hpart, hactive, hgroup, hold]
      refine ⟨by simpa using hpart, by simpa using hactive, by simpa using hgroup, ?_⟩
      rw [State.setServiceMask_eq, State.finishDoor_doors, hrun, hdoors, ← upTo_succ]
      exact congrArg (fun x => (upTo d.val new s.doors).set d x) (if_pos hb).symm
    · rw [if_neg hb]
      refine ⟨hpart, hactive, hgroup, ?_⟩
      have hnew : new d = (upTo d.val new s.doors)[d] := (if_neg hb).trans (upTo_get _ _ d).symm
      rw [← upTo_succ, hnew, hdoors]
      exact (Vector.set_getElem_self _).symm

/-- What LOAD_SET answers (R94). -/
def State.loadSetAnswer (t : State) (sec count : Byte) : State × Result × List Byte :=
  match indexOf 3 sec with
  | some k =>
    if count.toNat ≤ t.capacityOf k then
      let u := t.loadSet k count.toNat
      (u, .ok, [byteOf u.loads[k].count, bandByte u.loads[k].current])
    else (t, .range, [])
  | none => (t, .range, [])

theorem State.reqLoadSet_eq (s : State) (b count : Byte) :
    s.reqLoadSet b count = s.serveOne 25 fun t => t.loadSetAnswer b count := rfl

theorem State.loadSetAnswer_spec (s : State) (b count : Byte) :
    (∀ k : Fin 3, b.toNat = k.val → count.toNat ≤ s.capacityOf k →
        s.loadSetAnswer b count = (s.loadSet k count.toNat, .ok, [count, bandByte (s.bandOf count.toNat)]))
      ∧ ((3 ≤ b.toNat ∨ ∃ k : Fin 3, b.toNat = k.val ∧ s.capacityOf k < count.toNat) →
        s.loadSetAnswer b count = (s, .range, [])) := by
  have hindex : ∀ k : Fin 3, b.toNat = k.val → indexOf 3 b = some k := fun k hk => by
    rw [indexOf, dif_pos (by omega)]
    exact congrArg some (Fin.ext hk)
  have hcount : byteOf count.toNat = count := by simp [byteOf]
  unfold State.loadSetAnswer
  refine ⟨fun k hk hcap => ?_, ?_⟩
  · have hload : (s.loadSet k count.toNat).loads[k] = Load.applyBand
        { s.loads[k] with count := count.toNat, isOver := false, isUnder := false } (s.bandOf count.toNat) :=
      Vector.getElem_set_self _
    rw [hindex k hk]
    dsimp only
    rw [if_pos hcap, hload]
    simp only [Load.applyBand, hcount]
  · rintro (hb | ⟨k, hk, hcap⟩)
    · rw [indexOf_none hb]
    · rw [hindex k hk]
      exact if_neg (by omega)

/-- Settles O55: the requests are walks over a set (`doorSet_walk_eq`, `sectSet_walk_eq`), and a door whose effective
mask clears goes through `DoorRun.maskChanged`. -/
theorem setRequestsActOnEachNamed : Obligations.SetRequestsActOnEachNamed := by
  unfold Obligations.SetRequestsActOnEachNamed
  intro s b count hlink hroom answer door load
  have one : ∀ {c : Instr} {code : Nat} {f : State → State × Result × List Byte} {u : State} (r : Result) (content : List Byte),
      exec c s = .next (s.serveOne code f) → f s = (u, r, content) → u.vehicle.link = .on → content.length ≤ 6 →
      exec c s = .next { u with
        responses := u.responses ++ [⟨canId (0x6E1 + 2 * u.node.val),
          byteOf (code + 32 : Nat) :: byteOf (1 + 8 * r.code : Nat) :: (List.range 6).map fun j => content.getD j 0⟩]
        draws := u.draws + 1 } := fun r content hexec hf hu hl => by
    rw [hexec, State.serveOne_room hroom, hf, State.answer_one hu _ r hl]
  refine ⟨?_, ?_, fun hno => ?_, ?_, ?_, ?_, fun k hk hcap => ?_, fun hrange => ?_⟩
  · exact (one .ok [] rfl (congrArg (·, Result.ok, []) (s.clearSet_eq b)) (by exact hlink) (by decide)).trans rfl
  · exact (one .ok [] rfl (congrArg (·, Result.ok, []) (State.maskSet_eq b (.inl rfl))) (by exact hlink) (by decide)).trans rfl
  · exact (one .ok [] rfl (congrArg (·, Result.ok, []) (State.maskSet_eq b (.inr hno))) (by exact hlink) (by decide)).trans rfl
  · refine ⟨_, one .ok [] rfl rfl (by simpa using hlink) (by decide), ?_, fun d => ?_⟩
    · have hq : (s.maskSet false b).responses = s.responses := by simp
      have hn : (s.maskSet false b).node = s.node := by simp
      dsimp only
      rw [hq, hn]
      rfl
    · intro x y takes started
      have hdoor := s.maskSet_doors false b d
      have hmasked : b.toNat.testBit d = true → (s.maskSet false b).doors[d] = (s.serviceMasked false d).door :=
        fun hb => hdoor.trans (if_pos hb)
      have hy : b.toNat.testBit d = true → y = { x with serviceMask := false } := fun hb =>
        congrArg (fun m => ({ x with serviceMask := m } : Door)) (if_pos hb)
      have hlatch : b.toNat.testBit d = true →
          (({ x with serviceMask := false } : Door).takesLatch (s.doorView d) (x.masked s.groupMask) false ↔ takes) :=
        fun hb => by
          refine (x.takesLatch_service _ s.groupMask false false).trans ?_
          simp only [Bool.and_eq_true, beq_iff_eq, and_assoc, takes, hb, true_and]
      have hstarted : ∀ w, started w = y.begun w (some (1000 * w.delay)) := fun w => (y.begun_eq w _).symm
      refine ⟨fun hno => ?_, fun htakes w hw => ⟨fun hm hd => ?_, fun hm hd => ?_, fun hm hp => ?_⟩⟩
      · by_cases hb : b.toNat.testBit d = true
        · rw [hy hb]
          exact (hmasked hb).trans (congrArg DoorRun.door (DoorRun.maskChanged_keeps (mt (hlatch hb).mp hno)))
        · refine hdoor.trans ((if_neg hb).trans ?_)
          exact congrArg (fun m => ({ x with serviceMask := m } : Door)) (if_neg hb).symm
      · have hb := htakes.1
        rw [hstarted, hy hb]
        exact (hmasked hb).trans
          (congrArg DoorRun.door (DoorRun.maskChanged_delays ((hlatch hb).mpr htakes) hw hm hd))
      · have hb := htakes.1
        have hx := exec_delayExpiry_begun ((hlatch hb).mpr htakes) hw s d
        rw [State.doorAt_nil] at hx
        rw [hstarted, hy hb, hd]
        refine ⟨_, hx, ?_⟩
        rw [State.finishDoor_doors]
        refine ((hmasked hb).trans
          (congrArg DoorRun.door (DoorRun.maskChanged_bursts ((hlatch hb).mpr htakes) hw hm hd))).trans ?_
        exact (Vector.getElem_set_self _).symm
      · have hb := htakes.1
        rw [hy hb]
        exact (hmasked hb).trans
          (congrArg DoorRun.door (DoorRun.maskChanged_counts ((hlatch hb).mpr htakes) hw hm hp))
  · exact (one .ok [] rfl (congrArg (·, Result.ok, []) (s.armSet_eq true b)) (by exact hlink) (by decide)).trans rfl
  · exact (one .ok [] rfl (congrArg (·, Result.ok, []) (s.armSet_eq false b)) (by exact hlink) (by decide)).trans rfl
  · have hserved : exec (.loadSet b count) s = .next (s.serveOne 25 fun t => t.loadSetAnswer b count) := rfl
    have hset := (s.loadSetAnswer_spec b count).1 k hk hcap
    refine (one .ok [count, bandByte (s.bandOf count.toNat)] hserved hset (by exact hlink) (by simp)).trans ?_
    have hband : bandByte (s.bandOf count.toNat) = byteOf ((s.bandOf count.toNat).getD 255 : Nat) := by
      cases s.bandOf count.toNat <;> rfl
    rw [hband]
    rfl
  · exact (one .range [] (f := fun t => t.loadSetAnswer b count) rfl ((s.loadSetAnswer_spec b count).2 hrange)
      (by exact hlink) (by decide)).trans rfl

end Sys2Proof.Machine
end

section
/-! Proofs for START (R51, R81, R114, R136, R178, R183). -/

namespace Sys2Proof.Machine

/-! ### The zones, the doors and the cooling units -/

/-- A walk over the zones in which each turn replaces the zone of its index and hands over. -/
theorem forEach_zone (u : State) (f : Fin 8 → State → State) (new : Fin 8 → Zone) (told : Fin 8 → List Instr)
    (h : ∀ z zs es, zs[z] = u.zones[z] → f z { u with zones := zs, inFlight := es }
      = { u with zones := zs.set z (new z), inFlight := es ++ told z }) :
    forEach 8 f u = { u with
      zones := Vector.ofFn new, inFlight := u.inFlight ++ (List.finRange 8).flatMap told } := by
  rw [forEach_eq (fun k => { u with
    zones := upTo k new u.zones, inFlight := u.inFlight ++ ((List.finRange 8).take k).flatMap told }) f (s := u)
    (fun i => ?_) (by simp)]
  · rw [upTo_all, finRange_take_all]
  · rw [h i _ _ (upTo_get _ _ i), upTo_succ, flatMap_take_succ, List.append_assoc]

/-- The zones after START (R51). -/
def State.startedZones (s : State) : Vector Zone 8 :=
  Vector.ofFn fun z : Fin 8 => if (s.zoneRow z).used = true then s.zones[z].start (s.zoneRow z) else s.zones[z]

/-- The postings of the zones at START (R51, R159). -/
def State.startPostings (s : State) : List Instr :=
  (List.finRange 8).flatMap fun z => if (s.zoneRow z).used = true then [.claimPosting (zoneClaim z) 0] else []

theorem State.startZones_eq (s : State) :
    s.startZones = { s with zones := s.startedZones, inFlight := s.inFlight ++ s.startPostings } := by
  refine forEach_zone s _ _ _ fun z zs es hz => ?_
  have hrow : State.zoneRow { s with zones := zs, inFlight := es } z = s.zoneRow z := rfl
  unfold State.startZone
  rw [hrow]
  by_cases hu : (s.zoneRow z).used = true
  · rw [if_pos hu, if_pos hu, if_pos hu, ← hz]
    rfl
  · rw [if_neg hu, if_neg hu, if_neg hu, List.append_nil, ← hz]
    exact congrArg (fun zs => { s with zones := zs, inFlight := es }) (Vector.set_getElem_self _).symm

/-- The doors after START (R81). -/
def State.startedDoors (s : State) : Vector Door 8 :=
  Vector.ofFn fun d : Fin 8 => if (s.doorRow d).used = true then s.doors[d].start else s.doors[d]

theorem State.startDoors_eq (s : State) : s.startDoors = { s with doors := s.startedDoors } := by
  refine (forEach_doors s _ (fun d => if (s.doorRow d).used = true then s.doors[d].start else s.doors[d]) (fun _ => [])
    fun d ds es hd => ?_).trans ?_
  · have hrow : State.doorRow { s with doors := ds, inFlight := es } d = s.doorRow d := rfl
    unfold State.startDoor
    rw [hrow]
    by_cases hu : (s.doorRow d).used = true
    · rw [if_pos hu, if_pos hu, List.append_nil, ← hd]
      rfl
    · rw [if_neg hu, if_neg hu, List.append_nil, ← hd]
      exact congrArg (fun ds => { s with doors := ds, inFlight := es }) (Vector.set_getElem_self _).symm
  · rw [List.flatMap_eq_nil_iff.mpr fun _ _ => rfl, List.append_nil]
    rfl

/-- What the cooling units do at START rests on their records and the rows alone. -/
theorem State.coolersStarted_congr {s t : State} (hc : t.coolers = s.coolers) (ha : t.active = s.active)
    (hi : t.inFlight = s.inFlight) : t.coolersRested.coolersComputed.coolers = s.coolersRested.coolersComputed.coolers
      ∧ t.coolersRested.coolersComputed.inFlight = s.coolersRested.coolersComputed.inFlight := by
  have hrested : t.coolersRested.coolers = s.coolersRested.coolers := by simp only [State.coolersRested, hc]
  have hflight : t.coolersRested.inFlight = s.coolersRested.inFlight := by simp only [State.coolersRested, hc, hi]
  have hcomputed : t.coolersRested.coolComputed = s.coolersRested.coolComputed := funext fun k =>
    State.coolComputed_congr k (by rw [hrested]) ha
  simp only [State.coolersComputed, hcomputed, hflight, and_self]

theorem State.coolersStarted_off (s : State) (k : Fin 3) : s.coolersRested.coolersComputed.coolers[k].state = .off := by
  have hoff : s.coolersRested.coolers[k].state = .off := by simp [State.coolersRested]
  have hk : s.coolersRested.coolersComputed.coolers[k] = (s.coolersRested.coolComputed k).1 := by
    simp [State.coolersComputed]
  rw [hk]
  unfold State.coolComputed
  dsimp only
  rw [if_neg (by rw [hoff]; decide), if_pos (Or.inl hoff)]
  exact hoff

/-! ### The screen unit (R114) -/

theorem State.firstStep_find (s : State) : s.firstStep = (List.range 12).find? fun i => (s.stepRow i).used := by
  unfold State.firstStep State.stepList
  exact List.head?_filter

/-- The part as it enters a stage, before what a stage change hands over. -/
def State.atStage (s : State) (stage : Stage) : State := { s with
  screen := { s.screen with stage := stage, stageMs := 0, entryDwell := 0 } }

theorem State.enterStage_eq (s : State) (stage : Stage) :
    s.enterStage stage 0 = if stage = s.screen.stage then s.atStage stage else (s.atStage stage).stageHanded := by
  unfold State.enterStage
  dsimp only
  rw [State.handStage_spec]
  rfl

theorem State.enterStage_screen (s : State) (stage : Stage) :
    (s.enterStage stage 0).screen.stage = stage ∧ (s.enterStage stage 0).screen.stageMs = 0
      ∧ (s.enterStage stage 0).screen.pointer = s.screen.pointer
      ∧ (s.enterStage stage 0).screen.maxCount = s.screen.maxCount := by
  rw [State.enterStage_eq]
  split <;> exact ⟨rfl, rfl, rfl, rfl⟩

/-- The screen unit walking its steps at START, before a SCREEN_MAX record that stands is taken. -/
def State.walkStarted (s : State) : State := (s.setPointer s.firstStep).enterStage .watch 0

/-- The screen unit after START, but for the margin, the blindness and the pass timer. -/
def State.stageStarted (s : State) : State :=
  if 0 < s.screen.maxCount then s.walkStarted.enterStage .max 0 else s.walkStarted

theorem State.startScreen_eq (s : State) : s.startScreen = { s.stageStarted with
    screen := { s.stageStarted.screen with margin := none, blind := false, pass := seconds s.screenInterval } } := by
  obtain ⟨-, -, -, hcount⟩ := (s.setPointer s.firstStep).enterStage_screen .watch
  have hmax : s.walkStarted.screen.maxCount = s.screen.maxCount := hcount
  unfold State.stageStarted
  rw [← hmax]
  rfl

theorem State.stageStarted_screen (s : State) :
    s.stageStarted.screen.stage = (if 0 < s.screen.maxCount then .max else .watch) ∧ s.stageStarted.screen.stageMs = 0
      ∧ s.stageStarted.screen.pointer = s.firstStep := by
  obtain ⟨hstage, hms, hpointer, -⟩ := (s.setPointer s.firstStep).enterStage_screen .watch
  unfold State.stageStarted
  by_cases h : 0 < s.screen.maxCount
  · obtain ⟨hstage', hms', hpointer', -⟩ := s.walkStarted.enterStage_screen .max
    rw [if_pos h, if_pos h]
    exact ⟨hstage', hms', hpointer'.trans hpointer⟩
  · rw [if_neg h, if_neg h]
    exact ⟨hstage, hms, hpointer⟩

/-- From stage OFF the screen unit hands over the parameters of each stage that it enters (R107, R114). -/
theorem State.stageStarted_off {s : State} (h : s.screen.stage = .off) : s.stageStarted
    = if s.screen.maxCount = 0 then ((s.setPointer s.firstStep).atStage .watch).stageHanded
      else (((s.setPointer s.firstStep).atStage .watch).stageHanded.atStage .max).stageHanded := by
  have hwalk : s.walkStarted = ((s.setPointer s.firstStep).atStage .watch).stageHanded :=
    (State.enterStage_eq _ _).trans (if_neg fun e => nomatch e.trans h)
  have hmax : s.walkStarted.enterStage .max 0 = (s.walkStarted.atStage .max).stageHanded :=
    (State.enterStage_eq _ _).trans (if_neg (by rw [hwalk]; exact nofun))
  unfold State.stageStarted
  rw [hmax, hwalk]
  by_cases hc : s.screen.maxCount = 0
  · rw [if_pos hc, if_neg (by omega)]
  · rw [if_neg hc, if_pos (by omega)]

/-! ### The channels (R178) -/

/-- Channel c after START. -/
def State.startedChannel (s : State) (c : Fin 24) : Channel :=
  if (s.outputRow c).used = true then
    s.channels[c].start (s.channelView c) (s.commandedFrom (s.outputRow c) (s.sourceOf (s.outputRow c)))
  else s.channels[c]

theorem State.startChannels_eq (s : State) : s.startChannels = { s with channels := Vector.ofFn s.startedChannel } := by
  refine forEach_channels s _ _ fun c cs hc => ?_
  have hrow : State.outputRow { s with channels := cs } c = s.outputRow c := rfl
  unfold State.startChannel State.startedChannel
  simp only [hrow]
  by_cases hu : (s.outputRow c).used = true
  · rw [if_pos hu, if_pos hu, ← hc]
    rfl
  · rw [if_neg hu, if_neg hu, ← hc]
    exact congrArg (fun cs => { s with channels := cs }) (Vector.set_getElem_self _).symm

theorem State.startedChannel_fed {s : State} {c : Fin 24} {src : Source} (hu : (s.outputRow c).used = true)
    (hs : (s.outputRow c).fedBy src = true) : s.startedChannel c
      = if (s.outputRow c).encodingCode = 2 then s.withWindow c (s.commandedValue c (s.sourceValue src))
        else s.withCommand c (s.commandedValue c (s.sourceValue src)) := by
  have hsource : (s.outputRow c).source = some src := by simpa [OutputRow.fedBy_spec] using hs
  have hof : s.sourceOf (s.outputRow c) = s.sourceValue src := by rw [State.sourceOf, hsource]
  rw [State.startedChannel, if_pos hu, hof, s.commandedFrom_spec c _ hu, Channel.start]
  have hswitch : (s.channelView c).row.isSwitch = decide ((s.outputRow c).encodingCode = 2) :=
    OutputRow.isSwitch_spec _
  rw [hswitch, Channel.windowStart_spec, Channel.command_spec]
  simp only [decide_eq_true_eq]

/-! ### The grants -/

/-- The regular and the absorption grants rest on the allocator, the rows and what the zones publish alone. -/
theorem State.regrantedClaims_congr {s t : State} (ha : t.alloc = s.alloc) (hrows : t.active = s.active)
    (hz : ∀ z : Fin 8, t.zones[z].published = s.zones[z].published) : t.regrantedClaims = s.regrantedClaims := by
  have hshare : t.shareOf = s.shareOf := by
    funext c
    simp only [State.shareOf, State.claimRow, ha, hrows]
  have hheadroom : t.headroomOf = s.headroomOf := by
    funext r c
    unfold State.headroomOf
    by_cases h : c.val < 8
    · have hpublished : t.zones[c.val].published = s.zones[c.val].published := hz ⟨c.val, h⟩
      rw [dif_pos h, dif_pos h, hpublished, ha]
    · rw [dif_neg h, dif_neg h]
  simp only [State.regrantedClaims, hshare, hheadroom, ha]

theorem State.grantDeliveries_congr {s t : State} (ha : t.alloc = s.alloc) (new : Vector Claim 20) :
    t.grantDeliveries new = s.grantDeliveries new := by simp only [State.grantDeliveries, ha]

/-! ### The part (R183) -/

theorem State.enterStage_keeps (s : State) (stage : Stage) : s.enterStage stage 0 = { s with
    screen := (s.enterStage stage 0).screen, inFlight := (s.enterStage stage 0).inFlight } := by
  rw [State.enterStage_eq]
  split <;> rfl

theorem State.stageStarted_keeps (s : State) : s.stageStarted = { s with
    screen := s.stageStarted.screen, inFlight := s.stageStarted.inFlight } := by
  have hwalk : s.walkStarted = { s with screen := s.walkStarted.screen, inFlight := s.walkStarted.inFlight } :=
    (State.enterStage_keeps _ _).trans rfl
  unfold State.stageStarted
  by_cases h : 0 < s.screen.maxCount
  · rw [if_pos h]
    refine (State.enterStage_keeps _ _).trans ?_
    rw [hwalk]
  · rw [if_neg h]
    exact hwalk

/-- The part with other zones, cooling units and doors, in another part state. -/
def State.withBlocks (s : State) (p : PartState) (zs : Vector Zone 8) (cs : Vector Cooler 3) (ds : Vector Door 8) : State :=
  { s with part := p, zones := zs, coolers := cs, doors := ds }

/-- What the screen unit does at START rests on its own record, the rows and the hand-overs in flight alone. -/
theorem State.stageStarted_withBlocks (s : State) (p : PartState) (zs : Vector Zone 8) (cs : Vector Cooler 3)
    (ds : Vector Door 8) : (s.withBlocks p zs cs ds).stageStarted = s.stageStarted.withBlocks p zs cs ds := by
  have henter : ∀ (u : State) (stage : Stage),
      (u.withBlocks p zs cs ds).enterStage stage 0 = (u.enterStage stage 0).withBlocks p zs cs ds := fun u stage => by
    rw [State.enterStage_eq, State.enterStage_eq]
    by_cases h : stage = u.screen.stage
    · rw [if_pos h]
      exact if_pos h
    · rw [if_neg h]
      exact if_neg h
  have hwalk : (s.withBlocks p zs cs ds).walkStarted = s.walkStarted.withBlocks p zs cs ds :=
    henter (s.setPointer s.firstStep) .watch
  unfold State.stageStarted
  rw [hwalk, henter]
  by_cases h : 0 < s.screen.maxCount
  · rw [if_pos h]
    exact if_pos h
  · rw [if_neg h]
    exact if_neg h

/-- The cooling units at START, after the postings of the zones (R51). -/
def State.coolersStarted (s : State) : State :=
  State.coolersComputed (State.coolersRested { s with inFlight := s.inFlight ++ s.startPostings })

theorem State.startCoolers_started (s : State) :
    (State.startZones { s with part := .running }).startCoolers
      = { s with
        part := .running, zones := s.startedZones, coolers := s.coolersStarted.coolers
        inFlight := s.coolersStarted.inFlight } := by
  obtain ⟨hcoolers, hflight⟩ := State.coolersStarted_congr (s := { s with inFlight := s.inFlight ++ s.startPostings })
    (t := State.startZones { s with part := .running }) (by rw [State.startZones_eq]) (by rw [State.startZones_eq])
    (by rw [State.startZones_eq]; rfl)
  have hkeeps : (State.startZones { s with part := .running }).startCoolers
      = { State.startZones { s with part := .running } with
        coolers := s.coolersStarted.coolers, inFlight := s.coolersStarted.inFlight } := by
    rw [State.startCoolers_spec, State.coolersStarted, ← hcoolers, ← hflight]
    rfl
  rw [hkeeps, State.startZones_eq]
  rfl

/-- START at the screen unit, with the other blocks as they are after it. -/
def State.screenStarted (s : State) : State := State.stageStarted { s with inFlight := s.coolersStarted.inFlight }

theorem State.regranted_of {u s : State} (hp : u.part = .running) (ha : u.alloc = s.alloc) (hrows : u.active = s.active)
    (hz : ∀ z : Fin 8, u.zones[z].published = s.zones[z].published) : u.regranted = { u with
      alloc := { s.alloc with claims := s.regrantedClaims }
      inFlight := u.inFlight ++ s.grantDeliveries s.regrantedClaims } := by
  rw [State.regranted, if_neg (by rw [hp]; exact nofun), State.regrantedClaims_congr ha hrows hz,
    State.grantDeliveries_congr ha, ha]

/-- The part at START before its channels and its grants are formed (R183). -/
def State.blocksStarted (s : State) : State := { s with
  part := .running, zones := s.startedZones, coolers := s.coolersStarted.coolers, doors := s.startedDoors
  screen := { s.screenStarted.screen with margin := none, blind := false, pass := seconds s.screenInterval }
  overrides := { s.overrides with statusTimer := seconds 1 }
  inFlight := s.screenStarted.inFlight }

theorem State.blocksStarted_eq (s : State) :
    (State.startZones { s with part := .running }).startCoolers.startDoors.startScreen.startOverrides
      = s.blocksStarted := by
  have hdoors : (State.startZones { s with part := .running }).startCoolers.startDoors
      = State.withBlocks { s with inFlight := s.coolersStarted.inFlight } .running s.startedZones
        s.coolersStarted.coolers s.startedDoors := by
    rw [State.startCoolers_started, State.startDoors_eq]
    rfl
  rw [hdoors, State.startScreen_eq, State.stageStarted_withBlocks, State.stageStarted_keeps]
  rfl

theorem State.startedZones_published (s : State) (z : Fin 8) :
    s.startedZones[z].published = s.zones[z].published := by
  have hz : s.startedZones[z] = if (s.zoneRow z).used = true then s.zones[z].start (s.zoneRow z) else s.zones[z] := by
    simp [State.startedZones]
  rw [hz]
  split <;> rfl

theorem State.blocksStarted_channel (s : State) :
    s.blocksStarted.startedChannel = State.startedChannel { s with part := .running } := rfl

theorem State.startPart_eq (s : State) : s.startPart = { s.blocksStarted with
    alloc := { s.alloc with claims := s.regrantedClaims }
    channels := Vector.ofFn (State.startedChannel { s with part := .running })
    inFlight := s.screenStarted.inFlight ++ s.grantDeliveries s.regrantedClaims } := by
  have hpart : s.startPart
      = (State.startZones { s with part := .running }).startCoolers.startDoors.startScreen.startOverrides.startChannels.recompute
        false := rfl
  rw [hpart, State.blocksStarted_eq, State.recompute_regranted, State.startChannels_eq, s.blocksStarted_channel]
  exact State.regranted_of rfl rfl rfl s.startedZones_published

/-- Settles O53: the blocks take START one by one (`State.startPart_eq`), and each reads back what the statement says. -/
theorem startBringsThePartToRunning : Obligations.StartBringsThePartToRunning := by
  unfold Obligations.StartBringsThePartToRunning
  intro s hlink hroom answer ready running first posted cooled walking screened
  have hready : s.canStart = true ↔ ready := by simp [State.canStart, ready]
  have hexec : exec .start s = .next (s.serveOne 16 fun t => if t.part = .running then (t, .state, [])
      else if t.canStart then (t.startPart, .ok, []) else (t, .incomplete, [])) := rfl
  have one : ∀ (u : State) (r : Result), (if s.part = .running then (s, Result.state, ([] : List Byte))
      else if s.canStart then (s.startPart, .ok, []) else (s, .incomplete, [])) = (u, r, []) → u.vehicle.link = .on →
      exec .start s = .next { u with
        responses := u.responses ++ [⟨canId (0x6E1 + 2 * u.node.val),
          byteOf (16 + 32 : Nat) :: byteOf (1 + 8 * r.code : Nat) :: (List.range 6).map fun j => ([] : List Byte).getD j 0⟩]
        draws := u.draws + 1 } := fun u r hf hu => by
    rw [hexec, State.serveOne_room hroom, hf, State.answer_one hu 16 r (by simp)]
  refine ⟨fun hp => ?_, fun hp hno => ?_, fun hp hyes => ?_⟩
  · exact (one s .state (if_pos hp) hlink).trans rfl
  · have hn : ¬ s.part = .running := by rw [hp]; exact nofun
    exact (one s .incomplete ((if_neg hn).trans (if_neg (mt hready.mp hno))) hlink).trans rfl
  · have hn : ¬ s.part = .running := by rw [hp]; exact nofun
    have hstart := one s.startPart .ok ((if_neg hn).trans (if_pos (hready.mpr hyes))) (by simpa using hlink)
    have hblocks := s.startPart_eq
    generalize hu : s.startPart = u at hstart hblocks
    have hfirst : first = s.firstStep := s.firstStep_find.symm
    obtain ⟨hstage, hms, hpointer⟩ := State.stageStarted_screen { s with inFlight := s.coolersStarted.inFlight }
    have hcoolers : u.coolers = s.coolersStarted.coolers := by rw [hblocks]; rfl
    have hscreen : u.screen = { s.screenStarted.screen with
        margin := none, blind := false, pass := seconds s.screenInterval } := by rw [hblocks]; rfl
    have hchannels : u.channels = Vector.ofFn (State.startedChannel { s with part := .running }) := by rw [hblocks]
    have hflight : u.inFlight = s.screenStarted.inFlight ++ s.grantDeliveries s.regrantedClaims := by rw [hblocks]
    have hresponses : u.responses = s.responses := by rw [hblocks]; rfl
    have hdraws : u.draws = s.draws := by rw [hblocks]; rfl
    have hnode : u.node = s.node := by rw [hblocks]; rfl
    refine ⟨_, hstart, ?_, fun k => ?_, ?_, ?_, ?_, ?_,
      fun hoff => ?_, fun c => ⟨fun hu => ?_, fun hu src hs => ?_⟩⟩
    · dsimp only
      rw [hblocks]
      rfl
    · dsimp only
      rw [hcoolers]
      exact State.coolersStarted_off _ k
    · dsimp only
      rw [hscreen]
      exact hstage
    · dsimp only
      rw [hscreen]
      exact hms
    · dsimp only
      rw [hscreen]
      rfl
    · dsimp only
      rw [hscreen]
      exact hpointer.trans hfirst.symm
    · dsimp only
      rw [hscreen, hflight]
      have hscreened : screened = s.screenStarted.withBlocks s.part s.zones s.coolersStarted.coolers s.doors := by
        have hcooled : s.coolersStarted.stageStarted = _ :=
          State.stageStarted_withBlocks { s with inFlight := s.coolersStarted.inFlight } s.part s.zones
            s.coolersStarted.coolers s.doors
        have hentered := State.stageStarted_off (s := s.coolersStarted) hoff
        have hpointed : (s.coolersStarted.setPointer s.coolersStarted.firstStep).atStage .watch = walking := by
          simp only [walking, hfirst]
          rfl
        rw [hpointed] at hentered
        exact hentered.symm.trans hcooled
      rw [hscreened]
      exact ⟨rfl, rfl⟩
    · dsimp only
      rw [hchannels]
      exact (Vector.getElem_ofFn c.isLt).trans (if_neg (Bool.eq_false_iff.mp hu))
    · intro cmd
      dsimp only
      rw [hchannels]
      exact (Vector.getElem_ofFn c.isLt).trans (State.startedChannel_fed hu hs)

end Sys2Proof.Machine
end

section
/-! Proofs for STOP (R52, R80, R115, R136, R159, R178, R184). -/

namespace Sys2Proof.Machine

/-! ### The zones, the cooling units and the doors -/

/-- What a zone hands on as STOP finds it (R41, R52). -/
def State.zoneStopTold (s : State) (z : Fin 8) : List Instr :=
  zoneHandOvers z (s.zoneRow z).sect (s.zones[z].stop (s.zoneRow z))

theorem State.stopZones_eq (s : State) : s.stopZones = { s with
    zones := Vector.ofFn fun z : Fin 8 => s.zones[z].stop (s.zoneRow z)
    inFlight := s.inFlight ++ (List.finRange 8).flatMap s.zoneStopTold } := by
  refine forEach_zone s _ _ _ fun z zs es hz => ?_
  unfold State.zoneStopTold
  rw [← hz]
  rfl

/-- A cooling unit that STOP finds (R52). -/
def Cooler.stopped (x : Cooler) : Cooler := { x.switchedOff with qcs := Vector.replicate 8 0, grant := 0 }

theorem State.stopCoolers_eq (s : State) : s.stopCoolers = { s with
    coolers := Vector.ofFn fun k : Fin 3 => s.coolers[k].stopped
    inFlight := s.inFlight ++ (List.finRange 3).flatMap fun k => s.coolers[k].offTold k } := by
  refine forEach_coolers s _ _ _ fun k cs es hk => ?_
  rw [← hk, State.runCooler, CoolRun.stop, CoolRun.switchOff_eq]
  rfl

/-- A door that STOP finds (R80). -/
def Door.stopped (x : Door) : Door := { x with
  timer := none, burst := .idle, working := x.staged.or x.working, staged := none, latch := false, series := 0
  ending := false, openMs := 0 }

theorem DoorRun.stop_eq (x : Door) :
    DoorRun.stop ⟨x, [], false⟩ = ⟨x.stopped, if x.burst = .burst then [0] else [], false⟩ := by
  unfold DoorRun.stop DoorRun.leaveBurst
  by_cases h : x.burst = .burst
  · rw [if_pos h, if_pos h]
    rfl
  · rw [if_neg h, if_neg h]
    rfl

theorem State.stopDoor_eq (s : State) (d : Fin 8) : (s.runDoor d fun _ r => r.stop)
    = s.doorAt d s.doors[d].stopped (if s.doors[d].burst = .burst then [0] else []) :=
  (congrArg (s.finishDoor d) (DoorRun.stop_eq s.doors[d])).trans (s.finishDoor_quiet d _ _)

theorem State.stopDoors_eq (s : State) : s.stopDoors = { s with
    doors := Vector.ofFn fun d : Fin 8 => s.doors[d].stopped
    inFlight := s.inFlight ++ (List.finRange 8).flatMap fun d =>
      if s.doors[d].burst = .burst then [.claimPosting (curtainClaim d) 0] else [] } := by
  refine forEach_doors s _ _ _ fun d ds es hd => ?_
  rw [State.stopDoor_eq, ← hd]
  unfold State.doorAt
  dsimp only
  by_cases h : ds[d].burst = .burst
  · rw [if_pos h, if_pos h]
    rfl
  · rw [if_neg h, if_neg h]
    rfl

/-! ### The screen unit (R115) -/

/-- What the screen unit hands over when STOP takes it to stage OFF. -/
def Screen.stopTold (x : Screen) : List Instr :=
  if x.stage = .off then []
  else .claimPosting screenClaim 0 :: (List.finRange 3).map (fun k => .stageNotice k false 0)
    ++ (if x.flap = 0 then [] else [.sourceDelivery .flap 0])

theorem State.stopScreen_eq (s : State) : s.stopScreen = { s with
    screen := { s.screen with
      stage := .off, stageMs := 0, entryDwell := 0, margin := none, blind := false, pass := none
      posted := if s.screen.stage = .off then s.screen.posted else 0
      flap := if s.screen.stage = .off then s.screen.flap else 0 }
    inFlight := s.inFlight ++ s.screen.stopTold } := by
  unfold State.stopScreen Screen.stopTold
  dsimp only
  rw [State.enterStage_eq]
  by_cases h : s.screen.stage = .off
  · rw [if_pos h.symm, if_pos h, if_pos h, if_pos h, List.append_nil]
    rfl
  · rw [if_neg (Ne.symm h), if_neg h, if_neg h, if_neg h]
    have hflap : (if (0 : Nat) = s.screen.flap then [] else [Instr.sourceDelivery .flap 0])
        = if s.screen.flap = 0 then [] else [.sourceDelivery .flap 0] := by simp only [eq_comm]
    rw [← hflap, ← List.append_assoc]
    rfl

/-! ### The notices of the table, the grants and the channels -/

theorem State.clearGrants_eq (s : State) : s.clearGrants = { s with
    alloc := { s.alloc with
      claims := Vector.ofFn fun c : Fin 20 => { s.alloc.claims[c] with regular := 0, absorption := 0 } }
    inFlight := s.inFlight ++ s.grantDeliveries
      (Vector.ofFn fun c : Fin 20 => { s.alloc.claims[c] with regular := 0, absorption := 0 }) } := by
  unfold State.clearGrants State.deliver
  rw [s.deliveries_spec]
  rfl

theorem State.stopChannels_eq (s : State) : s.stopChannels = { s with
    channels := Vector.ofFn fun c : Fin 24 => if (s.outputRow c).used = true then
        s.withOutput c ((s.outputRow c).encoded (s.outputRow c).standby)
          { s.channels[c] with commanded := (s.outputRow c).standby, window := none, elapsed := 0, onTime := 0 }
      else s.channels[c] } := by
  refine forEach_channels s _ _ fun c cs hc => ?_
  have hrow : State.outputRow { s with channels := cs } c = s.outputRow c := rfl
  unfold State.stopChannel
  simp only [hrow]
  by_cases hu : (s.outputRow c).used = true
  · have hstop : s.channels[c].stop (s.channelView c) = s.withOutput c ((s.outputRow c).encoded (s.outputRow c).standby)
        { s.channels[c] with commanded := (s.outputRow c).standby, window := none, elapsed := 0, onTime := 0 } := by
      rw [← encodeOutput_spec]
      exact Channel.setOutput_spec s c _ _ rfl rfl rfl rfl
    rw [if_pos hu, if_pos hu, ← hstop, ← hc]
    rfl
  · rw [if_neg hu, if_neg hu, ← hc]
    exact congrArg (fun cs => { s with channels := cs }) (Vector.set_getElem_self _).symm

/-! ### The part (R184) -/

/-- No notice of an override record is in the list. -/
def NoNotices (l : List Instr) : Prop := ∀ e ∈ l, isOverrideNotice e = false

theorem NoNotices.filter {l : List Instr} (h : NoNotices l) : l.filter (fun e => !isOverrideNotice e) = l :=
  List.filter_eq_self.mpr fun e he => by rw [h e he]; rfl

theorem noNotices_flatMap {n : Nat} {f : Fin n → List Instr} (h : ∀ i, NoNotices (f i)) :
    NoNotices ((List.finRange n).flatMap f) := fun e he => by
  obtain ⟨i, -, hi⟩ := List.mem_flatMap.mp he
  exact h i e hi

theorem State.zoneStopTold_eq (s : State) (z : Fin 8) : s.zoneStopTold z
    = [.statusPublication z, .claimPosting (zoneClaim z) 0]
      ++ ((List.finRange 3).filter fun k => (s.zoneRow z).sectCode == k.val).map (fun k => .qcPosting k z 0)
      ++ [.sourceDelivery (.blower z) 0, .sourceDelivery (.freshAir z) 0] := by
  rw [ZoneRow.sections_named, State.zoneStopTold]
  cases (s.zoneRow z).sect <;> rfl

theorem State.zoneStopTold_noNotices (s : State) (z : Fin 8) : NoNotices (s.zoneStopTold z) := by
  unfold State.zoneStopTold zoneHandOvers NoNotices
  cases (s.zoneRow z).sect <;> simp [isOverrideNotice]

theorem Cooler.offTold_noNotices (x : Cooler) (k : Fin 3) : NoNotices (x.offTold k) := by
  unfold Cooler.offTold NoNotices
  split <;> simp [isOverrideNotice]

theorem curtainPosting_noNotices (x : Door) (d : Fin 8) :
    NoNotices (if x.burst = .burst then [.claimPosting (curtainClaim d) 0] else []) := by
  unfold NoNotices
  split <;> simp [isOverrideNotice]

theorem Screen.stopTold_noNotices (x : Screen) : NoNotices x.stopTold := by
  have hstages : NoNotices (.claimPosting screenClaim 0 :: (List.finRange 3).map fun k => .stageNotice k false 0) := by
    simp [NoNotices, isOverrideNotice]
  unfold Screen.stopTold
  split
  · exact nofun
  · refine fun e he => (List.mem_append.mp he).elim (hstages e) fun hflap => ?_
    split at hflap
    · exact nomatch hflap
    · rw [List.mem_singleton.mp hflap]
      rfl

/-- The hand-overs in flight when STOP empties the table, in the order of the blocks. -/
def State.stopTold (s : State) : List Instr :=
  (List.finRange 8).flatMap s.zoneStopTold ++ (List.finRange 3).flatMap (fun k => s.coolers[k].offTold k)
    ++ (List.finRange 8).flatMap (fun d =>
      if s.doors[d].burst = .burst then [.claimPosting (curtainClaim d) 0] else [])
    ++ s.screen.stopTold

theorem State.stopTold_filter (s : State) :
    (s.inFlight ++ s.stopTold).filter (fun e => !isOverrideNotice e)
      = s.inFlight.filter (fun e => !isOverrideNotice e) ++ s.stopTold := by
  unfold State.stopTold
  simp only [List.filter_append, (noNotices_flatMap s.zoneStopTold_noNotices).filter,
    (noNotices_flatMap fun k => s.coolers[k].offTold_noNotices k).filter,
    (noNotices_flatMap fun d => curtainPosting_noNotices s.doors[d] d).filter, s.screen.stopTold_noNotices.filter]

/-- The part after STOP at the zones, the cooling units, the doors and the screen unit. -/
theorem State.stopBlocks_eq (s : State) : (State.stopZones s).stopCoolers.stopDoors.stopScreen = { s with
    zones := Vector.ofFn fun z : Fin 8 => s.zones[z].stop (s.zoneRow z)
    coolers := Vector.ofFn fun k : Fin 3 => s.coolers[k].stopped
    doors := Vector.ofFn fun d : Fin 8 => s.doors[d].stopped
    screen := { s.screen with
      stage := .off, stageMs := 0, entryDwell := 0, margin := none, blind := false, pass := none
      posted := if s.screen.stage = .off then s.screen.posted else 0
      flap := if s.screen.stage = .off then s.screen.flap else 0 }
    inFlight := s.inFlight ++ s.stopTold } := by
  rw [State.stopZones_eq, State.stopCoolers_eq, State.stopDoors_eq, State.stopScreen_eq]
  simp only [State.stopTold, List.append_assoc]

/-- The part at STOP before its grants and its channels change: the blocks at rest and the table empty (R52, R80, R115,
R136). -/
def State.blocksStopped (s : State) : State := { s with
  part := .standby
  zones := Vector.ofFn fun z : Fin 8 => s.zones[z].stop (s.zoneRow z)
  coolers := Vector.ofFn fun k : Fin 3 => s.coolers[k].stopped
  doors := Vector.ofFn fun d : Fin 8 => { s.doors[d].stopped with overrideMask := false }
  groupMask := false
  screen := { s.screen with
    stage := .off, stageMs := 0, entryDwell := 0, margin := none, blind := false, pass := none, maxCount := 0
    posted := if s.screen.stage = .off then s.screen.posted else 0
    flap := if s.screen.stage = .off then s.screen.flap else 0 }
  overrides := { s.overrides with
    table := [], statusTimer := none
    seq := if s.overrides.table = [] then s.overrides.seq else (s.overrides.seq + 1) % 256 }
  alloc := { s.alloc with maxCount := 0 }
  inFlight := s.inFlight.filter (fun e => !isOverrideNotice e) ++ s.stopTold }

theorem State.blocksStopped_eq (s : State) :
    (State.stopZones { s with part := .standby }).stopCoolers.stopDoors.stopScreen.emptyTable = s.blocksStopped := by
  rw [State.stopBlocks_eq]
  unfold State.blocksStopped
  rw [← s.stopTold_filter]
  have hdoors : (Vector.ofFn fun d : Fin 8 =>
      { (Vector.ofFn fun d : Fin 8 => s.doors[d].stopped)[d] with overrideMask := false })
      = Vector.ofFn fun d : Fin 8 => { s.doors[d].stopped with overrideMask := false } := by
    simp only [ofFn_get]
  rw [← hdoors]
  rfl

theorem State.stopPart_eq (s : State) : s.stopPart = { s.blocksStopped with
    alloc := { s.alloc with
      maxCount := 0, claims := Vector.ofFn fun c : Fin 20 => { s.alloc.claims[c] with regular := 0, absorption := 0 } }
    channels := Vector.ofFn fun c : Fin 24 => if (s.outputRow c).used = true then
        s.withOutput c ((s.outputRow c).encoded (s.outputRow c).standby)
          { s.channels[c] with commanded := (s.outputRow c).standby, window := none, elapsed := 0, onTime := 0 }
      else s.channels[c]
    inFlight := s.blocksStopped.inFlight ++ s.grantDeliveries
      (Vector.ofFn fun c : Fin 20 => { s.alloc.claims[c] with regular := 0, absorption := 0 }) } := by
  have hpart : s.stopPart = ((State.stopZones { s with part := .standby }).stopCoolers.stopDoors.stopScreen.emptyTable
    ).clearGrants.stopChannels := rfl
  rw [hpart, State.blocksStopped_eq, State.clearGrants_eq, State.stopChannels_eq]
  rfl

/-- Settles O54: the blocks take STOP one by one, the notices of the emptied table leave, and the grants and the channels
follow. -/
theorem stopBringsThePartToStandby : Obligations.StopBringsThePartToStandby := by
  unfold Obligations.StopBringsThePartToStandby
  intro s hlink hroom answer claims notice
  have one : ∀ (u : State) (r : Result), (if s.part = .running then (s.stopPart, Result.ok, ([] : List Byte))
      else (s, .state, [])) = (u, r, []) → u.vehicle.link = .on → exec .stop s = .next { u with
        responses := u.responses ++ [⟨canId (0x6E1 + 2 * u.node.val),
          byteOf (17 + 32 : Nat) :: byteOf (1 + 8 * r.code : Nat) :: (List.range 6).map fun j => ([] : List Byte).getD j 0⟩]
        draws := u.draws + 1 } := fun u r hf hu => by
    have hexec : exec .stop s = .next (s.serveOne 17 fun t =>
        if t.part = .running then (t.stopPart, .ok, []) else (t, .state, [])) := rfl
    rw [hexec, State.serveOne_room hroom, hf, State.answer_one hu 17 r (by simp)]
  refine ⟨fun hp => ?_, fun hp => ?_⟩
  · have hn : ¬ s.part = .running := by rw [hp]; exact nofun
    exact (one s .state (if_neg hn) hlink).trans rfl
  · have hnotice : notice = isOverrideNotice := funext fun e => by cases e <;> rfl
    have hstop := one s.stopPart .ok (if_pos hp) (by simpa using hlink)
    have hzones : (fun z : Fin 8 => [.statusPublication z, .claimPosting (zoneClaim z) 0]
        ++ ((List.finRange 3).filter fun k => (s.zoneRow z).sectCode == k.val).map (fun k => .qcPosting k z 0)
        ++ [.sourceDelivery (.blower z) 0, .sourceDelivery (.freshAir z) 0]) = s.zoneStopTold :=
      funext fun z => (s.zoneStopTold_eq z).symm
    rw [s.stopPart_eq] at hstop
    rw [hnotice, hzones]
    refine hstop.trans ?_
    unfold State.blocksStopped State.stopTold
    simp only [List.append_assoc]
    rfl

end Sys2Proof.Machine
end
